-- ==== Sys2Proof/Word.lean ====
section
/-! DEFINITION. The word types of the rig link and of the store, the number types of ports, lanes, keys and
pages, and the replacement of one place of a fixed-length table. -/

namespace Sys2Proof

/-- One character of the rig link, or one cell of the store (spec 01, 1.1; spec 08, 8.1). -/
abbrev Byte := BitVec 8

/-- A two-byte field (spec 00, Conventions: the more significant byte comes first). -/
abbrev Half := BitVec 16

/-- A port. INn and OUTn are both number `n - 1`: OUTn is the pair of INn. -/
abbrev Port := Fin 8

/-- Lane l is number `l - 1`. -/
abbrev Lane := Fin 32

/-- A key, 0–127. -/
abbrev Key := Fin 128

/-- PEDn is number `n - 1`. -/
abbrev Pedal := Fin 6

/-- Page p of the set store is number `p - 1`, for p of 1–66. -/
abbrev Page := Fin 66

/-- Song page p is number `p - 1`, for p of 1–64. -/
abbrev SongPage := Fin 64

/-- One of the sixteen tempo slots, 0–15. -/
abbrev Slot := Fin 16

/-- A fixed-length table with one place put through `f`. -/
def upd {α : Type} {n : Nat} (v : Vector α n) (i : Fin n) (f : α → α) : Vector α n :=
  v.set i (f v[i])

end Sys2Proof
end

