-- ==== Sys2Proof/Syntax.lean ====
section
/-! DEFINITION. The frames of the rig link, the service requests, and the commands: one constructor of `Instr` per row
of spec/opcode_table.json, with the operands that the row's rule names. -/

namespace Sys2Proof

/-- Long form (10-bit values) or short form (7-bit values) of strikes and releases (spec 00, Terms). -/
inductive Form where
  | long
  | short
  deriving DecidableEq, Repr

/-- The twelve kinds of frame with their fields as they stand on the line (R192, spec 11 section 11.2). The fields
keep their full width, so a received frame is held exactly as it arrived. The length and the check byte follow from
the kind and the fields. -/
inductive Frame where
  | strikeLong (lane key : Byte) (strike : Half)
  | strikeShort (lane key strike : Byte)
  | releaseLong (lane key : Byte) (value : Option Half)
  | releaseShort (lane key : Byte) (value : Option Byte)
  | control (lane number : Byte) (value : Half)
  | soundSelect (lane : Byte) (bank : Half) (sound : Byte)
  | beatTick
  | transport (action : Byte) (bar : Half) (beat : Byte)
  | click (feed accent : Byte) (bar : Half) (beat : Byte)
  | portSilence
  | request (target tag code : Byte) (params : List Byte)
  | reply (unit tag code outcome : Byte) (data : List Byte)
  deriving DecidableEq, Repr

/-- The strike field of a Strike frame, in the form it came. -/
inductive StrikeAmount where
  | long (v : Half)
  | short (v : Byte)
  deriving DecidableEq, Repr

/-- The optional value of a Release frame, in the form it came. -/
inductive ReleaseAmount where
  | long (v : Option Half)
  | short (v : Option Byte)
  deriving DecidableEq, Repr

/-- The service requests of R176's catalogue (spec 09, 9.4) with their parameters (spec 11, 11.3). -/
inductive Request where
  | identify
  | readStatus (clear : Option Byte)
  | readCounters (selector clear : Byte)
  | readSetting (item index start count : Byte)
  | writeSetting (item index start : Byte) (values : List Half)
  | storeSettings
  | readCurve (partition start count : Byte)
  | writeCurve (partition start : Byte) (points : List Half)
  | storeCurves
  | readSetList (start count : Byte)
  | writeSetList (pages : List (BitVec 7))
  | bufferWrite (offset : Half) (bytes : List Byte)
  | bufferRead (offset : Half) (count : Byte)
  | bufferLoad (page : Byte)
  | pageRead (page : Byte) (offset : Half) (count : Byte)
  | commit (page : Byte)
  | clear (page : Byte)
  | protect (page : Byte)
  | unprotect (page : Byte)
  | protectAll
  | unprotectAll
  | lock
  | unlock
  | readProtection
  | change (kind number : Byte)
  | adjust (item target : Byte) (value : Half)
  | keepAdjustments
  | click (action : Byte)
  | selectTempo (slot : Byte)
  | panic
  | mute (port state : Byte)
  | flush (port : Byte)
  | restart
  deriving DecidableEq, Repr

/-- Where a request came in and what its reply copies: the inbound port it was taken from, its target unit and its tag
(R174, R175). -/
structure Head where
  port : Port
  unit : Byte
  tag  : Byte
  deriving DecidableEq, Repr

/-- The level of a contact (R139). -/
inductive Level where
  | opened
  | closed
  deriving DecidableEq, Repr

/-- The four stepping kinds of the CHANGE request (R116). -/
inductive StepKind where
  | nextScene
  | prevScene
  | nextSong
  | prevSong
  deriving DecidableEq, Repr

/-- The two GOTO kinds of the CHANGE request (R117). -/
inductive GotoKind where
  | scene
  | song
  deriving DecidableEq, Repr

/-- The commands: one constructor per row of spec/opcode_table.json, in the table's order. A frame row is that frame
completing on an inbound port; a request row is that request, taken from an inbound port; the other rows are events of
the part, of its pins or of its supply. `moment` is the moment of the event where a rule uses it
(R106, R139), in µs since power was last applied (log entry 6). -/
inductive Instr where
  | powerUp
  | character (port : Port) (c : Byte) (stopBitFound : Bool)
  | idleResync (port : Port)
  | frameCutShort (port : Port)
  | strike (port : Port) (lane : Lane) (key : Key) (amount : StrikeAmount)
  | release (port : Port) (lane : Lane) (key : Key) (amount : ReleaseAmount)
  | control (port : Port) (lane : Lane) (number : Byte) (value : Half)
  | sustainControl (port : Port) (lane : Lane) (value : Half)
  | soundSelect (port : Port) (lane : Lane) (bank : Half) (sound : Byte)
  | transport (port : Port) (action : Byte) (bar : Half) (beat : Byte)
  | thruFrame (port : Port) (frame : Frame)
  | serviceRequest (port : Port) (target tag code : Byte) (params : List Byte)
  | serviceReply (port : Port) (unit tag code outcome : Byte) (data : List Byte)
  | serviceTake (moment : Nat)
  | serviceTimeEnd
  | requestMalformed (head : Head) (code : Byte) (params : List Byte)
  | identify (head : Head)
  | readStatus (head : Head) (clear : Option Byte)
  | readCounters (head : Head) (selector clear : Byte)
  | readSetting (head : Head) (item index start count : Byte)
  | writeSettingInboundPort (head : Head) (index start : Byte) (values : List Half)
  | writeSettingOutboundPort (head : Head) (index start : Byte) (values : List Half)
  | writeSettingPedal (head : Head) (index start : Byte) (values : List Half) (moment : Nat)
  | writeSettingFeed (head : Head) (index start : Byte) (values : List Half)
  | writeSettingTempoSlot (head : Head) (index start : Byte) (values : List Half)
  | writeSettingUnitNumber (head : Head) (index start : Byte) (values : List Half)
  | writeSettingTempoSource (head : Head) (index start : Byte) (values : List Half)
  | storeSettings (head : Head)
  | readCurve (head : Head) (partition start count : Byte)
  | writeCurve (head : Head) (partition start : Byte) (points : List Half)
  | storeCurves (head : Head)
  | readSetList (head : Head) (start count : Byte)
  | writeSetList (head : Head) (pages : List (BitVec 7))
  | bufferWrite (head : Head) (offset : Half) (bytes : List Byte)
  | bufferRead (head : Head) (offset : Half) (count : Byte)
  | bufferLoad (head : Head) (page : Byte)
  | pageRead (head : Head) (page : Byte) (offset : Half) (count : Byte)
  | commit (head : Head) (page : Byte)
  | clear (head : Head) (page : Byte)
  | protect (head : Head) (page : Byte)
  | unprotect (head : Head) (page : Byte)
  | protectAll (head : Head)
  | unprotectAll (head : Head)
  | lock (head : Head)
  | unlock (head : Head)
  | readProtection (head : Head)
  | changeStep (head : Head) (kind : StepKind) (number : Byte)
  | changeGoto (head : Head) (kind : GotoKind) (number : Byte)
  | operationSuspended
  | fetchEnd (sameMoment : Bool)
  | burstPlace
  | changeEnd
  | adjustZoneGain (head : Head) (zone : Byte) (value : Half)
  | adjustZoneOffset (head : Head) (zone : Byte) (value : Half)
  | adjustZoneTranspose (head : Head) (zone : Byte) (value : Half)
  | adjustZoneEnabled (head : Head) (zone : Byte) (value : Half)
  | adjustMuteSet (head : Head) (target : Byte) (value : Half)
  | adjustFeedOverride (head : Head) (feed : Byte) (value : Half)
  | adjustTempo (head : Head) (target : Byte) (value : Half)
  | keepAdjustments (head : Head)
  | clickStart (head : Head)
  | clickStop (head : Head)
  | clickContinue (head : Head)
  | selectTempo (head : Head) (slot : Byte)
  | panic (head : Head)
  | mute (head : Head) (port state : Byte)
  | flush (head : Head) (port : Byte)
  | restart (head : Head)
  | restartMade (moment : Nat)
  | frameStart (port : Port)
  | frameEnd (port : Port)
  | pacingGapEnd (port : Port)
  | settleWindowEnd (port : Port)
  | releaseDrain (port : Port)
  | bufferLoadEnd
  | keepLoadEnd
  | commitEnd (deviations : List Host.Cell)
  | clearEnd (deviations : List Host.Cell)
  | subTick
  | beatBoundary
  | pedalContactChange (pedal : Pedal) (level : Level) (moment : Nat)
  | pedalSettled (pedal : Pedal) (moment : Nat)
  | showlockContactChange (level : Level) (moment : Nat)
  | showlockSettled (moment : Nat)
  | lossOfPower (torn : List Host.Cell)
  deriving DecidableEq, Repr

end Sys2Proof
end

