-- ==== Sys2Proof/WellFormed.lean ====
section
/-! DEFINITION. Which terms of the syntax can reach the part at all: a frame whose fields pass the checks of R3, a
request that fits its frame (spec 11, 11.2 and 11.3), a command whose row its operands fit. -/

namespace Sys2Proof

/-- R3's lane check: 1–32. -/
def laneOk (b : Byte) : Bool := 1 ≤ b.toNat && b.toNat ≤ 32

/-- R3's key check: 0–127. -/
def keyOk (b : Byte) : Bool := b.toNat ≤ 127

/-- R3's beat check: 1–16. -/
def beatOk (b : Byte) : Bool := 1 ≤ b.toNat && b.toNat ≤ 16

/-- R3's feed check: 1–8. -/
def feedOk (b : Byte) : Bool := 1 ≤ b.toNat && b.toNat ≤ 8

/-- The field checks of R3, and the most bytes a service frame can carry (spec 01, 1.1). -/
def Frame.ok : Frame → Bool
  | .strikeLong lane key _ => laneOk lane && keyOk key
  | .strikeShort lane key _ => laneOk lane && keyOk key
  | .releaseLong lane key _ => laneOk lane && keyOk key
  | .releaseShort lane key _ => laneOk lane && keyOk key
  | .control lane _ _ => laneOk lane
  | .soundSelect lane _ _ => laneOk lane
  | .beatTick => true
  | .transport _ _ beat => beatOk beat
  | .click feed _ _ beat => feedOk feed && beatOk beat
  | .portSilence => true
  | .request _ _ _ params => params.length ≤ 58
  | .reply _ _ _ _ data => data.length ≤ 57

/-- A Service Request or Service Reply frame (spec 00, Terms). -/
def Frame.isService : Frame → Bool
  | .request .. => true
  | .reply .. => true
  | _ => false

/-- R176's form check for the requests whose parameters are a list: the lengths that spec 11, 11.3 allows (WRITE
SETTING 1 or more whole values, WRITE CURVE 0–28 points, BUFFER WRITE 1–56 bytes, WRITE SET LIST up to the 65 pages
that fit in a request). Every other request has the parameters its constructor has. -/
def Request.formOk : Request → Bool
  | .writeSetting _ _ _ values => 1 ≤ values.length && values.length ≤ 27
  | .writeCurve _ _ points => points.length ≤ 28
  | .bufferWrite _ bytes => 1 ≤ bytes.length && bytes.length ≤ 56
  | .writeSetList pages => pages.length ≤ 65
  | _ => true

/-- The page address of a deviation of a commit or a clear, and of a torn cell (log entries 10 and 11): it lies in one
page. -/
def cellsInPage (cells : List Host.Cell) : Bool := cells.all fun c => c.1 < 4096

/-- Well-formedness of a command: its operands are ones the row can come with. -/
def Instr.wf : Instr → Bool
  | .control _ _ number _ => number != 8#8
  | .transport _ _ _ beat => beatOk beat
  | .thruFrame _ frame => frame.ok && !frame.isService
  | .serviceRequest _ _ _ _ params => params.length ≤ 58
  | .serviceReply _ _ _ _ _ data => data.length ≤ 57
  | .requestMalformed _ _ params => params.length ≤ 58
  | .writeSettingInboundPort _ _ _ values => values.length ≤ 27
  | .writeSettingOutboundPort _ _ _ values => values.length ≤ 27
  | .writeSettingPedal _ _ _ values _ => values.length ≤ 27
  | .writeSettingFeed _ _ _ values => values.length ≤ 27
  | .writeSettingTempoSlot _ _ _ values => values.length ≤ 27
  | .writeSettingUnitNumber _ _ _ values => values.length ≤ 27
  | .writeSettingTempoSource _ _ _ values => values.length ≤ 27
  | .writeCurve _ _ _ points => points.length ≤ 28
  | .writeSetList _ pages => pages.length ≤ 65
  | .bufferWrite _ _ bytes => bytes.length ≤ 56
  | .commitEnd deviations => cellsInPage deviations
  | .clearEnd deviations => cellsInPage deviations
  | .lossOfPower torn => cellsInPage torn
  | _ => true

end Sys2Proof
end

