-- ==== Sys2Proof/Decode.lean ====
section
/-! DEFINITION. The bytes of the rig link: the layout of frames (R192, spec 11 sections 11.1 and 11.2), the receive
checks of R3, the parameters of service requests (spec 11, 11.3). Decoding comes first, the encoders after it. At the
end stands `decodeTableWord`: the table of commands gives no row any bits. -/

namespace Sys2Proof

/-! ## Bytes of a two-byte field -/

/-- The more significant byte of a two-byte field. -/
def hiByte (w : Half) : Byte := w.extractLsb' 8 8

/-- The less significant byte of a two-byte field. -/
def loByte (w : Half) : Byte := w.extractLsb' 0 8

/-- The two-byte field with the given more and less significant bytes. -/
def half (h l : Byte) : Half := h ++ l

/-- The sum of bytes modulo 256. -/
def byteSum : List Byte → Byte
  | [] => 0#8
  | b :: bs => b + byteSum bs

/-- Two-byte fields read from bytes; an odd byte out gives none. -/
def halves : List Byte → Option (List Half)
  | [] => some []
  | [_] => none
  | h :: l :: bs => (halves bs).map (half h l :: ·)

/-- Two-byte fields written as bytes. -/
def halfBytes : List Half → List Byte
  | [] => []
  | w :: ws => hiByte w :: loByte w :: halfBytes ws

/-! ## Frames -/

/-- The fields of a frame, by its kind code, from the bytes between the kind and the check byte (spec 11, 11.2). None
for an unknown kind or for a length the kind does not allow. -/
def fieldsOfKind (kind : Nat) (fields : List Byte) : Option Frame :=
  match kind, fields with
  | 0x10, [lane, key, h, l] => some (.strikeLong lane key (half h l))
  | 0x11, [lane, key, v] => some (.strikeShort lane key v)
  | 0x12, [lane, key, h, l] => some (.releaseLong lane key (some (half h l)))
  | 0x12, [lane, key] => some (.releaseLong lane key none)
  | 0x13, [lane, key, v] => some (.releaseShort lane key (some v))
  | 0x13, [lane, key] => some (.releaseShort lane key none)
  | 0x14, [lane, number, h, l] => some (.control lane number (half h l))
  | 0x15, [lane, h, l, sound] => some (.soundSelect lane (half h l) sound)
  | 0x20, [] => some .beatTick
  | 0x21, [action, h, l, beat] => some (.transport action (half h l) beat)
  | 0x22, [feed, accent, h, l, beat] => some (.click feed accent (half h l) beat)
  | 0x23, [] => some .portSilence
  | 0x30, target :: tag :: code :: params => some (.request target tag code params)
  | 0x31, unit :: tag :: code :: outcome :: data => some (.reply unit tag code outcome data)
  | _, _ => none

/-- R3: the frame that L received bytes are, if they pass every check: the kind is known, the length is one the kind
allows, the bytes sum to 0 modulo 256, and lane, key, beat and feed lie in their ranges. -/
def parseFrame (bytes : List Byte) : Option Frame :=
  match bytes with
  | length :: kind :: rest =>
    if length.toNat = bytes.length && byteSum bytes == 0#8 then
      match fieldsOfKind kind.toNat rest.dropLast with
      | some f => if f.ok then some f else none
      | none => none
    else none
  | _ => none

/-- The kind code of a frame (spec 11, 11.2). -/
def Frame.kind : Frame → Byte
  | .strikeLong .. => 0x10#8
  | .strikeShort .. => 0x11#8
  | .releaseLong .. => 0x12#8
  | .releaseShort .. => 0x13#8
  | .control .. => 0x14#8
  | .soundSelect .. => 0x15#8
  | .beatTick => 0x20#8
  | .transport .. => 0x21#8
  | .click .. => 0x22#8
  | .portSilence => 0x23#8
  | .request .. => 0x30#8
  | .reply .. => 0x31#8

/-- The bytes of a frame's fields, in the order of spec 11, 11.2. -/
def Frame.fields : Frame → List Byte
  | .strikeLong lane key v => [lane, key, hiByte v, loByte v]
  | .strikeShort lane key v => [lane, key, v]
  | .releaseLong lane key (some v) => [lane, key, hiByte v, loByte v]
  | .releaseLong lane key none => [lane, key]
  | .releaseShort lane key (some v) => [lane, key, v]
  | .releaseShort lane key none => [lane, key]
  | .control lane number v => [lane, number, hiByte v, loByte v]
  | .soundSelect lane bank sound => [lane, hiByte bank, loByte bank, sound]
  | .beatTick => []
  | .transport action bar beat => [action, hiByte bar, loByte bar, beat]
  | .click feed accent bar beat => [feed, accent, hiByte bar, loByte bar, beat]
  | .portSilence => []
  | .request target tag code params => target :: tag :: code :: params
  | .reply unit tag code outcome data => unit :: tag :: code :: outcome :: data

/-- R192: the bytes of a frame: length, kind, fields, and the check byte that brings the sum of all bytes to 0 modulo
256. -/
def Frame.bytes (f : Frame) : List Byte :=
  let body := BitVec.ofNat 8 (f.fields.length + 3) :: f.kind :: f.fields
  body ++ [- byteSum body]

/-! ## Service requests -/

/-- The bits of a byte, most significant first. -/
def bitsOfByte (b : Byte) : List Bool :=
  [b.getLsbD 7, b.getLsbD 6, b.getLsbD 5, b.getLsbD 4, b.getLsbD 3, b.getLsbD 2, b.getLsbD 1, b.getLsbD 0]

/-- The number that bits spell, most significant first. -/
def natOfBits : List Bool → Nat
  | [] => 0
  | b :: bs => (if b then 2 ^ bs.length else 0) + natOfBits bs

/-- `count` page numbers of 7 bits each from a run of bits (spec 11, 11.3, the note on WRITE SET LIST). -/
def pagesOfBits : Nat → List Bool → List (BitVec 7)
  | 0, _ => []
  | n + 1, bits => BitVec.ofNat 7 (natOfBits (bits.take 7)) :: pagesOfBits n (bits.drop 7)

/-- The length in bytes of `count` page numbers packed 7 bits each. -/
def packedLength (count : Nat) : Nat := (7 * count + 7) / 8

/-- The page numbers of WRITE SET LIST, when the parameter length fits the count. Bits beyond the last page number are
not looked at (log entry 27). -/
def pagesOfParams (count : Byte) (packed : List Byte) : Option (List (BitVec 7)) :=
  if packed.length = packedLength count.toNat then
    some (pagesOfBits count.toNat (packed.flatMap bitsOfByte))
  else none

/-- The request of a code and its parameters, by the forms of spec 11, 11.3; none where the code is unknown or the
parameter length does not fit a form (R176). -/
def parseRequest (code : Byte) (params : List Byte) : Option Request :=
  match code.toNat, params with
  | 0x01, [] => some .identify
  | 0x02, [] => some (.readStatus none)
  | 0x02, [c] => some (.readStatus (some c))
  | 0x03, [sel, c] => some (.readCounters sel c)
  | 0x10, [item, index, start, count] => some (.readSetting item index start count)
  | 0x11, item :: index :: start :: values => (halves values).map (.writeSetting item index start)
  | 0x12, [] => some .storeSettings
  | 0x18, [part, start, count] => some (.readCurve part start count)
  | 0x19, part :: start :: points => (halves points).map (.writeCurve part start)
  | 0x1A, [] => some .storeCurves
  | 0x20, [start, count] => some (.readSetList start count)
  | 0x21, count :: packed => (pagesOfParams count packed).map .writeSetList
  | 0x28, h :: l :: bytes => some (.bufferWrite (half h l) bytes)
  | 0x29, [h, l, count] => some (.bufferRead (half h l) count)
  | 0x2A, [page] => some (.bufferLoad page)
  | 0x2B, [page, h, l, count] => some (.pageRead page (half h l) count)
  | 0x2C, [page] => some (.commit page)
  | 0x2D, [page] => some (.clear page)
  | 0x30, [page] => some (.protect page)
  | 0x31, [page] => some (.unprotect page)
  | 0x32, [] => some .protectAll
  | 0x33, [] => some .unprotectAll
  | 0x34, [] => some .lock
  | 0x35, [] => some .unlock
  | 0x36, [] => some .readProtection
  | 0x40, [kind, number] => some (.change kind number)
  | 0x41, [item, target, h, l] => some (.adjust item target (half h l))
  | 0x42, [] => some .keepAdjustments
  | 0x43, [action] => some (.click action)
  | 0x44, [slot] => some (.selectTempo slot)
  | 0x45, [] => some .panic
  | 0x46, [port, state] => some (.mute port state)
  | 0x47, [port] => some (.flush port)
  | 0x4F, [] => some .restart
  | _, _ => none

/-- The request code of a request (spec 11, 11.3). -/
def Request.code : Request → Byte
  | .identify => 0x01#8
  | .readStatus _ => 0x02#8
  | .readCounters .. => 0x03#8
  | .readSetting .. => 0x10#8
  | .writeSetting .. => 0x11#8
  | .storeSettings => 0x12#8
  | .readCurve .. => 0x18#8
  | .writeCurve .. => 0x19#8
  | .storeCurves => 0x1A#8
  | .readSetList .. => 0x20#8
  | .writeSetList _ => 0x21#8
  | .bufferWrite .. => 0x28#8
  | .bufferRead .. => 0x29#8
  | .bufferLoad _ => 0x2A#8
  | .pageRead .. => 0x2B#8
  | .commit _ => 0x2C#8
  | .clear _ => 0x2D#8
  | .protect _ => 0x30#8
  | .unprotect _ => 0x31#8
  | .protectAll => 0x32#8
  | .unprotectAll => 0x33#8
  | .lock => 0x34#8
  | .unlock => 0x35#8
  | .readProtection => 0x36#8
  | .change .. => 0x40#8
  | .adjust .. => 0x41#8
  | .keepAdjustments => 0x42#8
  | .click _ => 0x43#8
  | .selectTempo _ => 0x44#8
  | .panic => 0x45#8
  | .mute .. => 0x46#8
  | .flush _ => 0x47#8
  | .restart => 0x4F#8

/-- The seven bits of a page number, most significant first. -/
def bitsOfPage (p : BitVec 7) : List Bool :=
  [p.getLsbD 6, p.getLsbD 5, p.getLsbD 4, p.getLsbD 3, p.getLsbD 2, p.getLsbD 1, p.getLsbD 0]

/-- `n` bytes from a run of bits, the last filled out with zero bits. -/
def bytesOfBits : Nat → List Bool → List Byte
  | 0, _ => []
  | n + 1, bits =>
    BitVec.ofNat 8 (natOfBits ((bits.take 8) ++ List.replicate (8 - (bits.take 8).length) false))
      :: bytesOfBits n (bits.drop 8)

/-- Page numbers packed 7 bits each, the last byte filled out with zero bits (spec 11, 11.3). -/
def packPages (pages : List (BitVec 7)) : List Byte :=
  bytesOfBits (packedLength pages.length) (pages.flatMap bitsOfPage)

/-- The parameter bytes of a request, in the order of spec 11, 11.3. -/
def Request.params : Request → List Byte
  | .readStatus (some c) => [c]
  | .readCounters sel c => [sel, c]
  | .readSetting item index start count => [item, index, start, count]
  | .writeSetting item index start values => item :: index :: start :: halfBytes values
  | .readCurve part start count => [part, start, count]
  | .writeCurve part start points => part :: start :: halfBytes points
  | .readSetList start count => [start, count]
  | .writeSetList pages => BitVec.ofNat 8 pages.length :: packPages pages
  | .bufferWrite offset bytes => hiByte offset :: loByte offset :: bytes
  | .bufferRead offset count => [hiByte offset, loByte offset, count]
  | .bufferLoad page => [page]
  | .pageRead page offset count => [page, hiByte offset, loByte offset, count]
  | .commit page => [page]
  | .clear page => [page]
  | .protect page => [page]
  | .unprotect page => [page]
  | .change kind number => [kind, number]
  | .adjust item target value => [item, target, hiByte value, loByte value]
  | .click action => [action]
  | .selectTempo slot => [slot]
  | .mute port state => [port, state]
  | .flush port => [port]
  | .identify | .readStatus none | .storeSettings | .storeCurves | .protectAll | .unprotectAll | .lock | .unlock
  | .readProtection | .keepAdjustments | .panic | .restart => []

/-- The command that a word spells by the table's bits: spec/opcode_table.json gives no row any bits, so no word spells
a command (log entry 36). -/
def decodeTableWord (_nbits _w : Nat) : Option Instr := none

end Sys2Proof
end

