-- ==== Sys2Proof/Config.lean ====
section
/-! DEFINITION. What one KS-88 fixes for good: its identification, the capacities of its queues and tables, and the
values that the manual leaves open (opaque constants: no proof can see what they are). -/

namespace Sys2Proof.Config

/-- R178: vendor code 0x5A. -/
def vendorCode : Byte := 0x5A#8
/-- R178: part code 88. -/
def partCode : Byte := 88#8
/-- R178: revision 1 for parts described by the manual. -/
def revision : Byte := 1#8
/-- R178: page count 66. -/
def pageCount : Byte := 66#8

/-- R12: capacity of a timing queue. -/
def timingCapacity : Nat := 4
/-- R12: capacity of a burst queue. -/
def burstCapacity : Nat := 16
/-- R12, R15: capacity of a play queue, reached only by Releases of the held-note table and Port Silence. -/
def playCapacity : Nat := 32
/-- R15: the limit under which every other frame is admitted to a play queue. -/
def playAdmission : Nat := 28
/-- R12: capacity of a service queue. -/
def serviceCapacity : Nat := 4
/-- R61: entries of the held-note table. -/
def heldCapacity : Nat := 128
/-- R69, R71: the most source lanes one destination lane's hold count counts. -/
def holdLimit : Nat := 16
/-- R116: requests the change queue holds. -/
def changeCapacity : Nat := 4
/-- R17: where the service wait count holds. -/
def serviceWaitLimit : Nat := 16
/-- R189: where every counter holds. -/
def counterLimit : Nat := 65535
/-- R106: the longest gap within one series of taps, in µs. -/
def tapGap : Nat := 2000000
/-- R174: service time after PAGE READ, in µs. -/
def pageReadTime : Nat := 400
/-- R174: service time after any other request, in µs. -/
def serviceTime : Nat := 40
/-- R149: debounce of the show-lock switch, in ms. -/
def showLockDebounce : Nat := 20

/-- What a cell of the store, or a byte of the page buffer, that nothing has written reads as. For the buffer it is
R153's power-up value; for the pages it is the erased byte of R158. DESIGN CHOICE (log entry 1), unsafe: the spec does
not say what a part holds before its first commit. -/
def blankByte : Byte := 0xFF#8

/-- FREE VALUE (log entry 17): how many of the repairs that a fetch would count have been counted when the change it
serves is abandoned (R117, R164 do not say how far it had read). Never above the fetch's own number of repairs. -/
opaque abandonedRepairs : Nat → Nat

/-- FREE VALUE (log entry 24): the tempo that R107's quotient gives when the taps of the series all fall on one moment,
so that S is 0. The clamp to 4000–30000 still applies. -/
opaque tapTempoOfNoTime : Nat → Nat

end Sys2Proof.Config
end

