-- ==== Sys2Proof/Machine/State.lean ====
section
/-! DEFINITION. Everything the part holds, block by block (spec 00, section 2), as plain data, and the part right after
reset. -/

namespace Sys2Proof.Machine

/-! ## Working settings -/

/-- The role of an inbound port (R7, R9, R10). -/
inductive Role where
  | play
  | thru
  | off
  deriving DecidableEq, Repr

/-- The fill rule of an inbound port (R48). -/
inductive Fill where
  | zero
  | replicate
  deriving DecidableEq, Repr

/-- The inbound port record (spec 01, 1.3; R179). -/
structure InboundRecord where
  role            : Role
  pass            : Option Port
  fill            : Fill
  selectAsChange  : Bool
  transportAccept : Bool
  deriving DecidableEq, Repr

/-- The outbound port record (R21, R179): pacing in byte times, settle in ms, burst mode 0 for BURST and n for
INTERLEAVE n. -/
structure OutboundRecord where
  form      : Form
  pacing    : Nat
  settle    : Nat
  tickOut   : Bool
  burstMode : Nat
  deriving DecidableEq, Repr

/-- The fifteen pedal functions (spec 07, 7.1). -/
inductive PedalFunction where
  | none
  | sustain
  | nextScene
  | prevScene
  | nextSong
  | prevSong
  | panic
  | tap
  | clickToggle
  | tempoBit (n : Fin 4)
  | muteHold
  | muteToggle
  deriving DecidableEq, Repr

/-- The polarity of a pedal (R140). -/
inductive Polarity where
  | normal
  | inverted
  deriving DecidableEq, Repr

/-- The pedal record (R138): debounce in ms. -/
structure PedalRecord where
  function : PedalFunction
  polarity : Polarity
  debounce : Nat
  argPort  : Port
  argLane  : Lane
  deriving DecidableEq, Repr

/-- What a feed's override lets through (R105). -/
inductive Override where
  | normal
  | beatsOnly
  | silent
  deriving DecidableEq, Repr

/-- The feed record (spec 05, 5.7). -/
structure FeedRecord where
  enabled     : Bool
  dest        : Port
  subdivision : Nat
  lead        : Nat
  override    : Override
  deriving DecidableEq, Repr

/-- The tempo source (R84). -/
inductive TempoSource where
  | scene
  | pedal
  deriving DecidableEq, Repr

/-- The working settings (R171), less the tempo slots 4–15, which stand with the tempo engine. -/
structure Settings where
  inbound     : Vector InboundRecord 8
  outbound    : Vector OutboundRecord 8
  pedals      : Vector PedalRecord 6
  feeds       : Vector FeedRecord 8
  setList     : List SongPage
  unitNumber  : Nat
  tempoSource : TempoSource
  deriving DecidableEq, Repr

/-! ## Link ports -/

/-- A receiver (R1): in RECEIVING it knows L, holds the bytes so far, the length byte included, and knows whether one of
their characters was a character error, for which the frame is rejected when it completes or is cut short (R4). -/
inductive Receiver where
  | sync
  | ready
  | receiving (length : Nat) (held : List Byte) (failed : Bool)
  deriving DecidableEq, Repr

/-- Who placed a queued frame (R12's "Placed by"): the reply of an accepted RESTART is told apart from the other
replies, since its end makes the restart (R184; log entry 33). -/
inductive Source where
  | tempo
  | burst
  | zone
  | sustain
  | held
  | silence
  | thru
  | reply
  | restartReply
  | passedOn
  deriving DecidableEq, Repr

/-- A frame in an outbound queue. -/
structure Queued where
  frame  : Frame
  source : Source
  deriving DecidableEq, Repr

/-- The four queues of an outbound port (R12). -/
inductive QueueName where
  | timing
  | burst
  | play
  | service
  deriving DecidableEq, Repr

/-- The frame on the line and the queue it came from (R20). -/
structure Sending where
  item  : Queued
  queue : QueueName
  deriving DecidableEq, Repr

/-- An outbound port: its queues (R12), the arbiter's state (R17), and two of its mute sources (R22). `gap` is the byte
pacing gap still counted from the end of the last frame (in byte times; none when it has passed); `window` is the settle
window that is open (its length in ms). -/
structure OutPort where
  timing      : List Queued
  burst       : List Queued
  play        : List Queued
  service     : List Queued
  line        : Option Sending
  gap         : Option Nat
  window      : Option Nat
  serviceWait : Nat
  interleave  : Nat
  muteToggle  : Bool
  serviceMute : Bool
  deriving DecidableEq, Repr

/-- The link ports block. -/
structure Link where
  receivers : Vector Receiver 8
  outs      : Vector OutPort 8
  deriving DecidableEq, Repr

/-! ## Held notes and sustain -/

/-- A destination lane: an outbound port and a lane. -/
structure DestLane where
  port : Port
  lane : Lane
  deriving DecidableEq, Repr

/-- A source triple (spec 00, Terms). -/
structure SourceTriple where
  port : Port
  lane : Lane
  key  : Key
  deriving DecidableEq, Repr

/-- A destination triple (spec 00, Terms). -/
structure Dest where
  port : Port
  lane : Lane
  key  : Key
  deriving DecidableEq, Repr

/-- The six-part identity of an entry (spec 04, 4.1). -/
structure Ident where
  src : SourceTriple
  dst : Dest
  deriving DecidableEq, Repr

/-- Sustain handling of a zone and of an entry. -/
inductive Handling where
  | hold
  | forward
  deriving DecidableEq, Repr

/-- The state of an entry (R61). -/
inductive NoteState where
  | held
  | sustained
  | releasing
  deriving DecidableEq, Repr

/-- A held-note entry (spec 04, 4.1). -/
structure Entry where
  ident    : Ident
  handling : Handling
  state    : NoteState
  release  : Option Nat
  deriving DecidableEq, Repr

/-- A source-lane sustain record (R69). -/
structure SustainRecord where
  down      : Bool
  forwarded : List DestLane
  deriving DecidableEq, Repr

/-- The held-note table in table order, release order, the 256 sustain records by source port and lane, and the 256 hold
counts by destination port and lane (R61, R69). -/
structure Held where
  table        : List Entry
  releaseOrder : List Ident
  sustain      : Vector (Vector SustainRecord 32) 8
  holds        : Vector (Vector Nat 32) 8
  deriving DecidableEq, Repr

/-! ## Tempo engine -/

/-- STEADY or RAMP (R82). -/
inductive TempoForm where
  | steady
  | ramp
  deriving DecidableEq, Repr

/-- A tempo record (spec 05, 5.2): T or T start, T end, ramp bars, meter. -/
structure TempoRecord where
  form     : TempoForm
  t        : Nat
  tEnd     : Nat
  rampBars : Nat
  meter    : Nat
  deriving DecidableEq, Repr

/-- The clock states (spec 05, 5.4). -/
inductive ClockState where
  | stopped
  | countIn
  | running
  deriving DecidableEq, Repr

/-- What a click feed holds beside its record: its current override (R102), and whether the click of the coming beat's
sub-tick 0, and that of the present beat's, has been placed (R103, R105). -/
structure FeedState where
  override   : Override
  nextPlaced : Bool
  beatPlaced : Bool
  deriving DecidableEq, Repr

/-- The tempo engine. `rampBeat` is the beat index k of R82, `tempo` the T that governs the current beat, `meter` the
meter in effect, `units` the length of the present sub-tick in units of 1/16 µs, `boundaryBegan` whether a beat boundary
began the present beat (R99), `taps` the tap history, oldest first, in µs (R106). -/
structure Tempo where
  slots         : Vector TempoRecord 16
  inEffect      : Slot
  pendingSlot   : Option Slot
  rampBeat      : Nat
  tempo         : Nat
  meter         : Nat
  clock         : ClockState
  bar           : Nat
  beat          : Nat
  subTick       : Nat
  countInBar    : Nat
  accumulator   : Nat
  units         : Nat
  boundaryBegan : Bool
  taps          : List Nat
  feeds         : Vector FeedState 8
  deriving DecidableEq, Repr

/-! ## Change controller -/

/-- A zone of a scene copy (spec 02, 2.1): its fields as fetched, `enabledStored` among them, the enabled field it is
held at, and its repaired mark (R41). -/
structure Zone where
  sourcePort    : Byte
  sourceLane    : Byte
  keyLow        : Byte
  keyHigh       : Byte
  strikeLow     : Half
  strikeHigh    : Half
  destPort      : Byte
  destLane      : Byte
  transpose     : Byte
  edge          : Byte
  sustain       : Byte
  controls      : Byte
  enabledStored : Byte
  curve         : Byte
  gain          : Byte
  offset        : Half
  enabled       : Bool
  repaired      : Bool
  deriving DecidableEq, Repr

/-- A burst entry with its fields as stored (level 0xFF absent) and its skip mark (R111). -/
structure BurstEntry where
  port  : Byte
  lane  : Byte
  bank  : Half
  sound : Byte
  level : Byte
  skip  : Bool
  deriving DecidableEq, Repr

/-- A tempo record of a song header, as stored (R109). -/
structure TempoRaw where
  form     : Byte
  t        : Half
  tEnd     : Half
  rampBars : Byte
  meter    : Byte
  deriving DecidableEq, Repr

/-- The change points (R124). -/
inductive ChangePoint where
  | immediate
  | beat
  | bar
  | phrase2
  | phrase4
  | phrase8
  deriving DecidableEq, Repr

/-- The leave policies (R76, R126). -/
inductive LeavePolicy where
  | carry
  | cut
  deriving DecidableEq, Repr

/-- The scene block of a copy, as fetched and repaired (R108). -/
structure SceneBlock where
  name        : List Byte
  zones       : List Zone
  bursts      : List BurstEntry
  tempoSlot   : Option Slot
  changePoint : ChangePoint
  leave       : LeavePolicy
  muteSet     : Byte
  overrides   : Vector (Option Override) 8
  autoStart   : Bool
  deriving DecidableEq, Repr

/-- The song header of a copy, as fetched and repaired (R108, R109). -/
structure SongHeader where
  name       : List Byte
  countIn    : Nat
  sceneCount : Nat
  runOn      : Bool
  tempos     : List TempoRaw
  deriving DecidableEq, Repr

/-- A scene copy (R108): `source` is the page and scene number it was fetched from, none for the empty scene. -/
structure SceneCopy where
  block  : SceneBlock
  header : SongHeader
  source : Option (Page × Nat)
  deriving DecidableEq, Repr

/-- The six kinds of change request (spec 06, 6.3). -/
inductive ChangeKind where
  | nextScene
  | prevScene
  | nextSong
  | prevSong
  | gotoScene
  | gotoSong
  deriving DecidableEq, Repr

/-- The origins of a change request. -/
inductive Origin where
  | pedal
  | select
  | service
  deriving DecidableEq, Repr

/-- A change request (spec 06, 6.3). -/
structure ChangeRequest where
  kind   : ChangeKind
  number : Nat
  origin : Origin
  deriving DecidableEq, Repr

/-- The states of the change controller (spec 06, 6.4). -/
inductive ControllerState where
  | idle
  | fetching
  | waiting
  | switching
  deriving DecidableEq, Repr

/-- The target of the change in flight (R118): entry e′, scene s′, whether it is a song change, the request's origin, and
the page fetched (R121). -/
structure Target where
  entry  : Nat
  scene  : Nat
  song   : Bool
  origin : Origin
  page   : Page
  deriving DecidableEq, Repr

/-- The last change outcome (R130). -/
inductive ChangeOutcome where
  | ok
  | atEnd
  | noSet
  | range
  | empty
  | damaged
  | invalid
  deriving DecidableEq, Repr

/-- The change controller (spec 06). `burstCursor` counts the entries of the burst list that are done and
`selectPlaced` says that the Sound Select of the entry at the cursor has been placed (R128); `flushed` are the ports
flushed during the present change (R26); `keepStale` says that an ADJUST has replied OK or a switch has been made since
the last KEEP ADJUSTMENTS was accepted (R136). `staged` is the staged copy once its fetch has filled it; while a fetch is
filling it, State.stagedCopy says so (R108). -/
structure Change where
  state        : ControllerState
  queue        : List ChangeRequest
  target       : Option Target
  staged       : Option SceneCopy
  active       : SceneCopy
  cursorEntry  : Nat
  cursorScene  : Nat
  cursorPage   : Option Page
  burstCursor  : Nat
  selectPlaced : Bool
  flushed      : Vector Bool 8
  adjusted     : Bool
  keepStale    : Bool
  outcome      : ChangeOutcome
  origin       : Option Origin
  deriving DecidableEq, Repr

/-! ## Set store -/

/-- The class of a page (R150). -/
inductive PageClass where
  | good
  | empty
  | damaged
  | invalid
  deriving DecidableEq, Repr

/-- What KEEP ADJUSTMENTS captures at its acceptance (R134). -/
structure KeepCapture where
  page  : Page
  scene : Nat
  block : SceneBlock
  slots : List TempoRecord
  deriving DecidableEq, Repr

/-- The operation in flight (R156): a BUFFER LOAD, a commit (COMMIT, STORE SETTINGS, STORE CURVES), a clear, or one of
the two parts of a KEEP ADJUSTMENTS. -/
inductive OperationKind where
  | load (page : Page)
  | commit (page : Page)
  | clear (page : Page)
  | keepLoad (capture : KeepCapture)
  | keepCommit (capture : KeepCapture)
  deriving DecidableEq, Repr

/-- An operation with its progress: `begun` once it has started on its page, `suspended` while it stands for a scene
fetch (R163). -/
structure Operation where
  kind      : OperationKind
  begun     : Bool
  suspended : Bool
  deriving DecidableEq, Repr

/-- Where a scene fetch reads from (R162): the page's cells; the page buffer, as it stood when that was decided (DESIGN
CHOICE, log entry 16); or not decided until a load ends. -/
inductive FetchSource where
  | cells
  | buffer (image : List Host.Cell)
  | afterLoad
  deriving DecidableEq, Repr

/-- The scene fetch being served (R162). -/
structure Fetch where
  page   : Page
  scene  : Nat
  source : FetchSource
  deriving DecidableEq, Repr

/-- The states of the store (R156). -/
inductive StoreState where
  | idle
  | loading
  | committing
  | clearing
  | suspended
  deriving DecidableEq, Repr

/-- The last store outcome (R156). -/
inductive StoreOutcome where
  | ok
  | fault
  deriving DecidableEq, Repr

/-- The set store (spec 08): `cells` are the bytes of all 66 pages, byte i of page p at address (p − 1) × 4096 + i, and
`buffer` the page buffer, both as (address, byte) pairs in canonical form; `cutMarks` are the marks of R152 in the
cells. -/
structure Store where
  cells       : List Host.Cell
  cutMarks    : Vector Bool 66
  classes     : Vector PageClass 66
  buffer      : List Host.Cell
  protect     : Vector Bool 66
  lock        : Bool
  operation   : Option Operation
  lastOutcome : StoreOutcome
  fetch       : Option Fetch
  deriving DecidableEq, Repr

/-! ## Pedal inputs -/

/-- A debouncer (R139): the raw contact level, the settled level (none while UNSETTLED), and the moment in µs at which the
present raw level began. A candidate is timing exactly while the settled level differs from the raw one. -/
structure Debouncer where
  raw     : Level
  settled : Option Level
  since   : Nat
  deriving DecidableEq, Repr

/-- The pedal inputs block. -/
structure Pedals where
  contacts : Vector Debouncer 6
  showLock : Debouncer
  deriving DecidableEq, Repr

/-! ## Service unit -/

/-- A Service Request in a waiting place (R173). -/
structure Waiting where
  unit   : Byte
  tag    : Byte
  code   : Byte
  params : List Byte
  deriving DecidableEq, Repr

/-- How far a RESTART has come (R184): none accepted, accepted, its reply's last character has ended. -/
inductive RestartState where
  | none
  | accepted
  | due
  deriving DecidableEq, Repr

/-- The service unit (R173, R174): `busy` is the service time being counted, in µs, none when the unit is free. -/
structure Service where
  places  : Vector (Option Waiting) 8
  pointer : Port
  busy    : Option Nat
  restart : RestartState
  deriving DecidableEq, Repr

/-! ## Status -/

/-- The sticky flags (R186) and the counters (R189). -/
structure Status where
  link            : Bool
  overrun         : Bool
  store           : Bool
  change          : Bool
  rejected        : Vector Nat 8
  playDrops       : Vector Nat 8
  timingSlips     : Vector Nat 8
  serviceOverruns : Vector Nat 8
  heldOverflows   : Nat
  changeOverflows : Nat
  fetchRepairs    : Nat
  deriving DecidableEq, Repr

/-! ## The part -/

/-- The whole part, and the queue of the commands that wait for it. `power`, `now` (the latest moment told, in µs since
power was last applied) and `freeTick` (what the free values are read at) are the model's own fields. -/
structure State where
  power    : Bool
  now      : Nat
  freeTick : Nat
  settings : Settings
  curves   : Vector (Vector Nat 129) 15
  link     : Link
  held     : Held
  tempo    : Tempo
  change   : Change
  store    : Store
  pedals   : Pedals
  service  : Service
  status   : Status
  pending  : List Instr
  deriving DecidableEq, Repr

/-- What stops the block: nothing does. Bad frames, refused requests and failed store operations are counted, flagged
and answered in State (spec 10), so this type has no constructor. -/
inductive Fault where
  deriving DecidableEq, Repr

/-- Why a command has no meaning in the model. -/
inductive Refusal where
  /-- Raised by `exec` alone, for a row that has no meaning yet (none is left); safe, since nothing can be proved of it. -/
  | notModelled (mnemonic : String)
  deriving DecidableEq, Repr

/-! ## Default records, the empty scene, and reset -/

/-- R11, R171. -/
def InboundRecord.default : InboundRecord :=
  { role := .play, pass := none, fill := .zero, selectAsChange := false, transportAccept := false }

/-- R21, R171. -/
def OutboundRecord.default : OutboundRecord :=
  { form := .long, pacing := 0, settle := 0, tickOut := false, burstMode := 0 }

/-- R138. -/
def PedalRecord.default : PedalRecord :=
  { function := .none, polarity := .normal, debounce := 10, argPort := 0, argLane := 0 }

/-- R102. -/
def FeedRecord.default : FeedRecord :=
  { enabled := false, dest := 0, subdivision := 1, lead := 0, override := .normal }

/-- R83, R179: STEADY, T = 12000, meter 4, with T end 12000 and ramp bars 1. -/
def TempoRecord.default : TempoRecord :=
  { form := .steady, t := 12000, tEnd := 12000, rampBars := 1, meter := 4 }

/-- R171: the defaults of every item. -/
def Settings.default : Settings :=
  { inbound := Vector.replicate 8 .default, outbound := Vector.replicate 8 .default,
    pedals := Vector.replicate 6 .default, feeds := Vector.replicate 8 .default, setList := [],
    unitNumber := 0, tempoSource := .scene }

/-- R55: the straight line, p[i] = min(8 × i, 1023). -/
def straightPoint (i : Nat) : Nat := min (8 * i) 1023

/-- R56: every partition the straight line. -/
def straightCurves : Vector (Vector Nat 129) 15 :=
  Vector.replicate 15 (Vector.ofFn fun i => straightPoint i.val)

/-- R108: the empty scene. -/
def emptyScene : SceneCopy :=
  { block :=
      { name := List.replicate 12 0x20#8, zones := [], bursts := [], tempoSlot := none, changePoint := .immediate,
        leave := .carry, muteSet := 0#8, overrides := Vector.replicate 8 none, autoStart := false }
    header :=
      { name := List.replicate 16 0x20#8, countIn := 0, sceneCount := 1, runOn := false, tempos := [] }
    source := none }

/-- R12, R17, R22: an outbound port at power-up. -/
def OutPort.fresh : OutPort :=
  { timing := [], burst := [], play := [], service := [], line := none, gap := none, window := none,
    serviceWait := 0, interleave := 0, muteToggle := false, serviceMute := false }

/-- R80. -/
def Held.empty : Held :=
  { table := [], releaseOrder := [],
    sustain := Vector.replicate 8 (Vector.replicate 32 { down := false, forwarded := [] }),
    holds := Vector.replicate 8 (Vector.replicate 32 0) }

/-- R83, R90, R102, R106: the tempo engine at power-up with these slots and these feeds' overrides. -/
def Tempo.fresh (slots : Vector TempoRecord 16) (overrides : Vector Override 8) : Tempo :=
  { slots := slots, inEffect := 0, pendingSlot := none, rampBeat := 0, tempo := slots[0].t, meter := slots[0].meter,
    clock := .stopped, bar := 1, beat := 1, subTick := 0, countInBar := 0, accumulator := 0, units := 0,
    boundaryBegan := false, taps := [],
    feeds := overrides.map fun o => { override := o, nextPlaced := false, beatPlaced := false } }

/-- R137: the change controller at power-up with this active copy, this outcome and this cursor page. -/
def Change.fresh (active : SceneCopy) (outcome : ChangeOutcome) (page : Option Page) : Change :=
  { state := .idle, queue := [], target := none, staged := none, active := active, cursorEntry := 1,
    cursorScene := 1, cursorPage := page, burstCursor := 0, selectPlaced := false,
    flushed := Vector.replicate 8 false, adjusted := false, keepStale := false, outcome := outcome, origin := none }

/-- R139, R149: a debouncer at power-up, UNSETTLED, its candidate time started at 0. -/
def Debouncer.fresh (raw : Level) (now : Nat) : Debouncer :=
  { raw := raw, settled := none, since := now }

/-- R173, R174: the service unit at power-up; the pointer names IN8. -/
def Service.fresh : Service :=
  { places := Vector.replicate 8 none, pointer := 7, busy := none, restart := .none }

/-- R186, R189: all flags clear and all counters 0. -/
def Status.fresh : Status :=
  { link := false, overrun := false, store := false, change := false,
    rejected := Vector.replicate 8 0, playDrops := Vector.replicate 8 0, timingSlips := Vector.replicate 8 0,
    serviceOverruns := Vector.replicate 8 0, heldOverflows := 0, changeOverflows := 0, fetchRepairs := 0 }

/-- The part right after a power-up (R170, spec 08 section 8.6). What the cells hold is DESIGN CHOICE, unsafe (log
entry 1): every page erased, so every page is EMPTY, every setting at its default, every curve straight, the set list
empty and the empty scene active. The contacts stand open (log entry 14). -/
def State.reset : State :=
  { power := true, now := 0, freeTick := 0,
    settings := Settings.default,
    curves := straightCurves,
    link := { receivers := Vector.replicate 8 .sync, outs := Vector.replicate 8 OutPort.fresh },
    held := Held.empty,
    tempo := Tempo.fresh (Vector.replicate 16 TempoRecord.default) (Vector.replicate 8 .normal),
    change := Change.fresh emptyScene .noSet none,
    store :=
      { cells := [], cutMarks := Vector.replicate 66 false, classes := Vector.replicate 66 .empty, buffer := [],
        protect := Vector.replicate 66 true, lock := true, operation := none, lastOutcome := .ok, fetch := none },
    pedals :=
      { contacts := Vector.replicate 6 (Debouncer.fresh .opened 0), showLock := Debouncer.fresh .opened 0 },
    service := Service.fresh,
    status := Status.fresh,
    pending := [] }

end Sys2Proof.Machine
end

