-- ==== Sys2Proof/Machine/Flags.lean ====
section
/-! DEFINITION. Replacing one block of the part; the sticky flags, the counters and the FAULT output (spec 10). -/

namespace Sys2Proof.Machine

/-! ## Replacing one block -/

/-- The part with its `power` replaced. -/
def State.setPower (s : State) (x : Bool) : State := { s with power := x }

/-- The part with its `now` replaced. -/
def State.setNow (s : State) (x : Nat) : State := { s with now := x }

/-- The part with its `freeTick` replaced. -/
def State.setFreeTick (s : State) (x : Nat) : State := { s with freeTick := x }

/-- The part with its `settings` replaced. -/
def State.setSettings (s : State) (x : Settings) : State := { s with settings := x }

/-- The part with its `curves` replaced. -/
def State.setCurves (s : State) (x : Vector (Vector Nat 129) 15) : State := { s with curves := x }

/-- The part with its `link` replaced. -/
def State.setLink (s : State) (x : Link) : State := { s with link := x }

/-- The part with its `held` replaced. -/
def State.setHeld (s : State) (x : Held) : State := { s with held := x }

/-- The part with its `tempo` replaced. -/
def State.setTempo (s : State) (x : Tempo) : State := { s with tempo := x }

/-- The part with its `change` replaced. -/
def State.setChange (s : State) (x : Change) : State := { s with change := x }

/-- The part with its `store` replaced. -/
def State.setStore (s : State) (x : Store) : State := { s with store := x }

/-- The part with its `pedals` replaced. -/
def State.setPedals (s : State) (x : Pedals) : State := { s with pedals := x }

/-- The part with its `service` replaced. -/
def State.setService (s : State) (x : Service) : State := { s with service := x }

/-- The part with its `status` replaced. -/
def State.setStatus (s : State) (x : Status) : State := { s with status := x }

/-- The part with its `pending` replaced. -/
def State.setPending (s : State) (x : List Instr) : State := { s with pending := x }

/-! ## Counters (R189) and flags (R186) -/

/-- R189: up by one, holding at 65535. -/
def bump (n : Nat) : Nat := min (n + 1) Config.counterLimit

/-- R4: a frame rejected on INn: its count, and LINK. -/
def countRejected (p : Port) (s : State) : State :=
  s.setStatus { s.status with rejected := upd s.status.rejected p bump, link := true }

/-- R15: a frame refused by the play queue of OUTn: its count, and OVERRUN. -/
def countPlayDrop (p : Port) (s : State) : State :=
  s.setStatus { s.status with playDrops := upd s.status.playDrops p bump, overrun := true }

/-- R13: a frame refused by the timing queue of OUTn: its count, and OVERRUN. -/
def countTimingSlip (p : Port) (s : State) : State :=
  s.setStatus { s.status with timingSlips := upd s.status.timingSlips p bump, overrun := true }

/-- R16, R173: a service overrun of INn: its count, and OVERRUN. -/
def countServiceOverrun (p : Port) (s : State) : State :=
  s.setStatus { s.status with serviceOverruns := upd s.status.serviceOverruns p bump, overrun := true }

/-- R62, R71: a held overflow: its count, and OVERRUN. -/
def countHeldOverflow (s : State) : State :=
  s.setStatus { s.status with heldOverflows := bump s.status.heldOverflows, overrun := true }

/-- R116: a change request dropped from a full queue: its count, and CHANGE. -/
def countChangeOverflow (s : State) : State :=
  s.setStatus { s.status with changeOverflows := bump s.status.changeOverflows, change := true }

/-- R189: `n` fetch repairs, holding at 65535; no flag (R41, R110). -/
def countRepairs (n : Nat) (s : State) : State :=
  s.setStatus { s.status with fetchRepairs := min (s.status.fetchRepairs + n) Config.counterLimit }

/-- R151, R160: the STORE flag is set. -/
def flagStore (s : State) : State := s.setStatus { s.status with store := true }

/-- R120, R122, R137: the CHANGE flag is set. -/
def flagChange (s : State) : State := s.setStatus { s.status with change := true }

/-- R187: FAULT is high while at least one of the four flags is set. -/
def State.faultOutput (s : State) : Bool :=
  s.status.link || s.status.overrun || s.status.store || s.status.change

end Sys2Proof.Machine
end

