-- ==== Sys2Proof/Machine/Ops.lean ====
section
/-! DEFINITION. The named operations over the store's memories and over the outbound queues, and the views of the part
that several blocks share. -/

namespace Sys2Proof.Machine

/-! ## Memories

A memory is a list of (address, byte) pairs, addresses strictly rising, no pair holding the blank byte; an address not
listed reads as the blank byte (log entry 1). The store's cells and the page buffer are such lists. -/

/-- A memory in its list form. -/
abbrev Memory := List Host.Cell

/-- The canonical form. -/
abbrev Memory.wf (m : Memory) : Prop :=
  m.Pairwise (fun c d => c.1 < d.1) ∧ ∀ c ∈ m, c.2 ≠ Config.blankByte

/-- One byte. -/
def Memory.read : Memory → Nat → Byte
  | [], _ => Config.blankByte
  | c :: cs, a => if c.1 = a then c.2 else Memory.read cs a

/-- One byte written; writing the blank byte takes the pair out. -/
def Memory.write : Memory → Nat → Byte → Memory
  | [], a, b => if b = Config.blankByte then [] else [(a, b)]
  | c :: cs, a, b =>
    if a < c.1 then (if b = Config.blankByte then c :: cs else (a, b) :: c :: cs)
    else if a = c.1 then (if b = Config.blankByte then cs else (a, b) :: cs)
    else c :: Memory.write cs a b

/-- Bytes written one after the other from an address on. -/
def Memory.writeRun (m : Memory) (a : Nat) : List Byte → Memory
  | [] => m
  | b :: bs => Memory.writeRun (m.write a b) (a + 1) bs

/-- Cells written in list order. -/
def Memory.overlay (m : Memory) (cells : List Host.Cell) : Memory :=
  cells.foldl (fun m c => m.write c.1 c.2) m

/-- A run of bytes as a memory, the first at address `a`. -/
def Memory.ofBytes (a : Nat) : List Byte → Memory
  | [] => []
  | b :: bs => if b = Config.blankByte then Memory.ofBytes (a + 1) bs else (a, b) :: Memory.ofBytes (a + 1) bs

/-- The `len` addresses from `base` on, as a memory that starts at 0. -/
def Memory.slice (m : Memory) (base len : Nat) : Memory :=
  (m.filter fun c => base ≤ c.1 && c.1 < base + len).map fun c => (c.1 - base, c.2)

/-- The `len` addresses from `base` on replaced by `image`, which starts at 0. -/
def Memory.splice (m : Memory) (base len : Nat) (image : Memory) : Memory :=
  (m.filter fun c => c.1 < base) ++ (image.filter fun c => c.1 < len).map (fun c => (c.1 + base, c.2))
    ++ m.filter fun c => base + len ≤ c.1

/-- The sum of the bytes at addresses below `n`: the listed ones, and the blank byte for every other. -/
def Memory.sumBelow (m : Memory) (n : Nat) : Nat :=
  let listed := m.filter fun c => c.1 < n
  (listed.map fun c => c.2.toNat).sum + (n - listed.length) * Config.blankByte.toNat

/-! ## Pages (spec 08, 8.1) -/

/-- Bytes in a page. -/
def pageSize : Nat := 4096

/-- Where the page check stands. -/
def checkAt : Nat := 4094

/-- The address of a page's byte 0 (log entry 28). -/
def pageBase (p : Page) : Nat := p.val * pageSize

/-- The bytes of a page, as a memory that starts at 0. -/
def Store.image (st : Store) (p : Page) : Memory := Memory.slice st.cells (pageBase p) pageSize

/-- The store with the bytes of a page replaced. -/
def Store.setImage (st : Store) (p : Page) (image : Memory) : Store :=
  { st with cells := Memory.splice st.cells (pageBase p) pageSize image }

/-- R193: the sum of bytes 0 to 4093 modulo 65536. -/
def pageSum (image : Memory) : Nat := Memory.sumBelow image checkAt % 65536

/-- The check as it stands in bytes 4094 and 4095. -/
def storedCheck (image : Memory) : Nat :=
  (Memory.read image checkAt).toNat * 256 + (Memory.read image (checkAt + 1)).toNat

/-- R157, R193: the check written into bytes 4094 and 4095, more significant byte first. -/
def sealPage (image : Memory) : Memory :=
  (Memory.write image checkAt (BitVec.ofNat 8 (pageSum image / 256))).write (checkAt + 1)
    (BitVec.ofNat 8 (pageSum image % 256))

/-- The scene count of a song header (spec 11, 11.4: byte 17). -/
def sceneCountOf (image : Memory) : Nat := (Memory.read image 17).toNat

/-- Whether a page is a song page, 1 to 64. -/
def isSongPage (p : Page) : Bool := p.val < 64

/-- A song page as a page. -/
def songPage (p : SongPage) : Page := ⟨p.val, by omega⟩

/-- Page 65, the settings. -/
def settingsPage : Page := 64

/-- Page 66, the curves. -/
def curvesPage : Page := 65

/-- R151, R152: the class of a page by its bytes and its cut-off mark, the first test that holds. A page that bears the
mark is DAMAGED whatever its bytes hold, 0xFF in every byte included: the mark stands in the cells (log entry 40). A
page left DAMAGED by a failed commit bears no mark and is classified by its bytes like any other, GOOD where the cells
that deviate leave the check equal to the sum (DEDUCED, log entry 46). -/
def classify (p : Page) (cutOff : Bool) (image : Memory) : PageClass :=
  if cutOff then .damaged
  else if image.all fun c => c.2 == Config.blankByte then .empty
  else if storedCheck image ≠ pageSum image then .damaged
  else if isSongPage p && (sceneCountOf image = 0 || 8 < sceneCountOf image) then .invalid
  else .good

/-- R152: the class of a page when a commit of it has ended OK. -/
def committedClass (p : Page) (image : Memory) : PageClass :=
  if isSongPage p && (sceneCountOf image = 0 || 8 < sceneCountOf image) then .invalid else .good

/-! ## Numbers that name ports, lanes and pages -/

/-- The port that a number 1–8 names. -/
def portOfNat? (n : Nat) : Option Port :=
  if h : 1 ≤ n ∧ n ≤ 8 then some ⟨n - 1, by omega⟩ else none

/-- The lane that a number 1–32 names. -/
def laneOfNat? (n : Nat) : Option Lane :=
  if h : 1 ≤ n ∧ n ≤ 32 then some ⟨n - 1, by omega⟩ else none

/-- The key that a number 0–127 names. -/
def keyOfNat? (n : Nat) : Option Key :=
  if h : n ≤ 127 then some ⟨n, by omega⟩ else none

/-- The page that a number 1–66 names. -/
def pageOfNat? (n : Nat) : Option Page :=
  if h : 1 ≤ n ∧ n ≤ 66 then some ⟨n - 1, by omega⟩ else none

/-- The song page that a number 1–64 names. -/
def songPageOfNat? (n : Nat) : Option SongPage :=
  if h : 1 ≤ n ∧ n ≤ 64 then some ⟨n - 1, by omega⟩ else none

/-- The slot that a number 0–15 names. -/
def slotOfNat? (n : Nat) : Option Slot :=
  if h : n ≤ 15 then some ⟨n, by omega⟩ else none

/-- The byte that names a port on the link. -/
def portByte (p : Port) : Byte := BitVec.ofNat 8 (p.val + 1)

/-- The byte that names a lane on the link. -/
def laneByte (l : Lane) : Byte := BitVec.ofNat 8 (l.val + 1)

/-- The byte of a key on the link. -/
def keyByte (k : Key) : Byte := BitVec.ofNat 8 k.val

/-- The bit of a byte that stands for a port: OUTn at bit n − 1. -/
def portBit (b : Byte) (p : Port) : Bool := b.getLsbD p.val

/-- A number in 0–255 made of eight bits, bit n − 1 for port n. -/
def byteOfPorts (f : Port → Bool) : Byte :=
  BitVec.ofNat 8 (((List.finRange 8).map fun p => if f p then 2 ^ p.val else 0).sum)

/-! ## Outbound queues (R12–R16) -/

/-- One outbound port changed. -/
def modifyOut (p : Port) (f : OutPort → OutPort) (s : State) : State :=
  s.setLink { s.link with outs := upd s.link.outs p f }

/-- R13: a frame offered to a timing queue. -/
def offerTiming (p : Port) (f : Frame) (s : State) : State :=
  if s.link.outs[p].timing.length < Config.timingCapacity then
    modifyOut p (fun o => { o with timing := o.timing ++ [{ frame := f, source := .tempo }] }) s
  else countTimingSlip p s

/-- The ports whose tick out is on. -/
def tickOutPorts (s : State) : List Port := (List.finRange 8).filter fun p => s.settings.outbound[p].tickOut

/-- R13, R100: a frame offered to the timing queue of every port whose tick out is on. -/
def offerTickOut (f : Frame) (s : State) : State :=
  (tickOutPorts s).foldl (fun s p => offerTiming p f s) s

/-- R15: whether the play queue admits a frame of the second group. -/
def playAdmits (p : Port) (s : State) : Bool := s.link.outs[p].play.length < Config.playAdmission

/-- A frame placed at the tail of a play queue. -/
def pushPlay (p : Port) (q : Queued) (s : State) : State :=
  modifyOut p (fun o => { o with play := o.play ++ [q] }) s

/-- R15: a frame of the second group offered to a play queue. -/
def offerPlay (p : Port) (q : Queued) (s : State) : State :=
  if playAdmits p s then pushPlay p q s else countPlayDrop p s

/-- R16, R17: a frame placed at the tail of a service queue; a frame that becomes its head sets the service wait count to
0. -/
def pushService (p : Port) (q : Queued) (s : State) : State :=
  modifyOut p (fun o =>
    { o with
      service := o.service ++ [q]
      serviceWait := if o.service.isEmpty then 0 else o.serviceWait }) s

/-- R16: whether a service queue has room. -/
def serviceHasRoom (p : Port) (s : State) : Bool := s.link.outs[p].service.length < Config.serviceCapacity

/-- R6, R16: a service frame that came in on `p` passed on to the service queue of the port's pass port; without a pass
port it is dropped without count, and a full queue counts against the inbound port. -/
def passOn (p : Port) (f : Frame) (s : State) : State :=
  match s.settings.inbound[p].pass with
  | none => s
  | some q =>
    if serviceHasRoom q s then pushService q { frame := f, source := .passedOn } s
    else countServiceOverrun p s

/-! ## Pedals, switch and mute (R22, R140, R144, R149) -/

/-- R140: a pedal is pressed while its settled level is the one its polarity names; while UNSETTLED it is not. -/
def pressedAs (r : PedalRecord) (d : Debouncer) : Bool :=
  match r.polarity, d.settled with
  | .normal, some .closed => true
  | .inverted, some .opened => true
  | _, _ => false

/-- R140: whether a pedal is pressed under its record. -/
def State.pressed (s : State) (i : Pedal) : Bool := pressedAs s.settings.pedals[i] s.pedals.contacts[i]

/-- R149: the show-lock switch level; while UNSETTLED it is read as ON. -/
def State.switchOn (s : State) : Bool :=
  match s.pedals.showLock.settled with
  | some .opened => false
  | _ => true

/-- R22, R144: whether a MUTE HOLD pedal for the port is pressed. -/
def State.muteHeld (s : State) (p : Port) : Bool :=
  (List.finRange 6).any fun i =>
    s.settings.pedals[i].function == .muteHold && s.settings.pedals[i].argPort == p && s.pressed i

/-- R22: OUTn is muted while any of its sources is on: the mute set of the active copy, a MUTE HOLD pedal or the mute
toggle, the service mute flag. -/
def State.muted (s : State) (p : Port) : Bool :=
  portBit s.change.active.block.muteSet p || s.muteHeld p || s.link.outs[p].muteToggle || s.link.outs[p].serviceMute

/-- R156: the state of the store, by its operation in flight. -/
def State.storeState (s : State) : StoreState :=
  match s.store.operation with
  | none => .idle
  | some op =>
    if op.suspended then .suspended
    else match op.kind with
      | .load _ => .loading
      | .keepLoad _ => .loading
      | .commit _ => .committing
      | .keepCommit _ => .committing
      | .clear _ => .clearing

/-- The page under operation (spec 08, 8.3). -/
def OperationKind.page : OperationKind → Page
  | .load p => p
  | .commit p => p
  | .clear p => p
  | .keepLoad c => c.page
  | .keepCommit c => c.page

/-- R108, R137: whether the active copy is the empty scene. -/
def State.emptyActive (s : State) : Bool := s.change.active.source.isNone

end Sys2Proof.Machine
end

