-- ==== Sys2Proof/Machine/Strike.lean ====
section
/-! DEFINITION. The strike arithmetic (spec 03): the seven stages of a strike value and the two of a release value. -/

namespace Sys2Proof.Machine

/-- R5: a long-form strike above 1023 is taken as 1023, and 0 as 1. -/
def rawLong (v : Nat) : Nat := max 1 (min v 1023)

/-- R5: a short-form strike above 127 is taken as 127, and 0 as 1. -/
def rawShort (v : Nat) : Nat := max 1 (min v 127)

/-- R48, R54: a 7-bit value widened to 10 bits by a fill rule. -/
def widen (fill : Fill) (v : Nat) : Nat :=
  match fill with
  | .zero => v * 8
  | .replicate => v * 8 + v / 16

/-- R48: the expanded strike value s10. -/
def expandStrike (fill : Fill) : StrikeAmount → Nat
  | .long v => rawLong v.toNat
  | .short v => widen fill (rawShort v.toNat)

/-- R54: the release value handed to the held-note table, widened when it came in short form. -/
def expandRelease (fill : Fill) : ReleaseAmount → Option Nat
  | .long v => v.map fun v => min v.toNat 1023
  | .short v => v.map fun v => widen fill (min v.toNat 127)

/-- R49, R50: straight-line interpolation between neighbouring points, the division truncated toward zero. -/
def interpolate (points : Vector Nat 129) (s10 : Nat) : Nat :=
  let i := s10 / 8
  let r := s10 % 8
  let p : Int := (points[i]?.getD 0 : Nat)
  let q : Int := (points[i + 1]?.getD 0 : Nat)
  (p + ((q - p) * r).tdiv 8).toNat

/-- R49: the curve stage; partition 0 gives its input back. -/
def curveStage (curves : Vector (Vector Nat 129) 15) (partition s10 : Nat) : Nat :=
  match partition with
  | 0 => s10
  | n + 1 =>
    match curves[n]? with
    | some points => interpolate points s10
    | none => s10

/-- R51: gain and offset. -/
def gainStage (c gain : Nat) (offset : Int) : Int := ((c * gain / 64 : Nat) : Int) + offset

/-- R52: clamped to 1–1023. -/
def clampStage (v : Int) : Nat := if v < 1 then 1 else if 1023 < v then 1023 else v.toNat

/-- R53: the value placed in the Strike frame, by the form of the destination port. -/
def outputStrike (form : Form) (v : Nat) : Nat :=
  match form with
  | .long => v
  | .short => max 1 (v / 8)

/-- R49–R52: the shaped value of a layer, before the output form. -/
def shapeStrike (curves : Vector (Vector Nat 129) 15) (z : Zone) (s10 : Nat) : Nat :=
  clampStage (gainStage (curveStage curves z.curve.toNat s10) z.gain.toNat z.offset.toInt)

/-- R20, R34, R53: a Strike frame in the form of its destination port, from a value of 1–1023. -/
def strikeFrame (form : Form) (lane : Lane) (key : Key) (v : Nat) : Frame :=
  match form with
  | .long => .strikeLong (laneByte lane) (keyByte key) (BitVec.ofNat 16 (outputStrike .long v))
  | .short => .strikeShort (laneByte lane) (keyByte key) (BitVec.ofNat 8 (outputStrike .short v))

/-- R20, R54: a Release frame in the form of its destination port; a value is narrowed to the short form by div 8, and 0
stays 0. -/
def releaseFrame (form : Form) (lane : Lane) (key : Key) (v : Option Nat) : Frame :=
  match form with
  | .long => .releaseLong (laneByte lane) (keyByte key) (v.map (BitVec.ofNat 16))
  | .short => .releaseShort (laneByte lane) (keyByte key) (v.map fun v => BitVec.ofNat 8 (v / 8))

end Sys2Proof.Machine
end

