-- ==== Sys2Proof/Machine/Held.lean ====
section
/-! DEFINITION. The held-note table, the sustain records and PANIC (spec 04). -/

namespace Sys2Proof.Machine

/-! ## The table -/

/-- The entry of an identity. -/
def findEntry (id : Ident) (s : State) : Option Entry := s.held.table.find? fun e => e.ident == id

/-- R61: entries that satisfy `which` become RELEASING with the release value `value` gives, and are appended to release
order in table order. -/
def makeReleasing (which : Entry → Bool) (value : Entry → Option Nat) (s : State) : State :=
  s.setHeld
    { s.held with
      table := s.held.table.map fun e => if which e then { e with state := .releasing, release := value e } else e
      releaseOrder := s.held.releaseOrder ++ (s.held.table.filter which).map (·.ident) }

/-- The sustain flag of a source lane. -/
def laneDown (p : Port) (l : Lane) (s : State) : Bool := s.held.sustain[p][l].down

/-- R62: a new entry, HELD, at the end of table order. -/
def createEntry (id : Ident) (handling : Handling) (s : State) : State :=
  s.setHeld
    { s.held with table := s.held.table ++ [{ ident := id, handling := handling, state := .held, release := none }] }

/-- R63: an entry returned to HELD: its handling replaced, its release value cleared, its place in release order given
up, its place in table order kept. -/
def restrikeEntry (id : Ident) (handling : Handling) (s : State) : State :=
  s.setHeld
    { s.held with
      table := s.held.table.map fun e =>
        if e.ident == id then { e with handling := handling, state := .held, release := none } else e
      releaseOrder := s.held.releaseOrder.filter fun i => i != id }

/-- R62, R63: a layer offered to the table with its Strike frame. -/
def offerLayer (id : Ident) (handling : Handling) (f : Frame) (s : State) : State :=
  let q : Queued := { frame := f, source := .zone }
  match findEntry id s with
  | none =>
    if Config.heldCapacity ≤ s.held.table.length then countHeldOverflow s
    else if playAdmits id.dst.port s then createEntry id handling (pushPlay id.dst.port q s)
    else countPlayDrop id.dst.port s
  | some _ =>
    if playAdmits id.dst.port s then restrikeEntry id handling (pushPlay id.dst.port q s)
    else countPlayDrop id.dst.port s

/-- R65: whether a key up makes this entry SUSTAINED. -/
def keyUpSustains (src : SourceTriple) (s : State) (e : Entry) : Bool :=
  e.ident.src == src && e.state == .held && e.handling == .hold && laneDown src.port src.lane s

/-- R65: whether a key up makes this entry RELEASING. -/
def keyUpReleases (src : SourceTriple) (s : State) (e : Entry) : Bool :=
  e.ident.src == src && e.state == .held && !(e.handling == .hold && laneDown src.port src.lane s)

/-- R65: the key up of a source triple, with its widened release value. -/
def keyUp (src : SourceTriple) (value : Option Nat) (s : State) : State :=
  let s' := s.setHeld
    { s.held with
      table := s.held.table.map fun e =>
        if keyUpSustains src s e then { e with state := .sustained, release := value } else e }
  makeReleasing (keyUpReleases src s) (fun _ => value) s'

/-- R76, R78: every HELD and SUSTAINED entry becomes RELEASING; a HELD one has no release value, a SUSTAINED one keeps
its own. -/
def releaseAll (s : State) : State :=
  makeReleasing (fun e => e.state != .releasing) (fun e => e.release) s

/-! ## The release drain (R66, R67) -/

/-- The oldest release rank among the entries for a port. -/
def nextRelease (p : Port) (s : State) : Option Ident := s.held.releaseOrder.find? fun i => i.dst.port == p

/-- The table and release order without an identity. -/
def dropEntry (id : Ident) (s : State) : State :=
  s.setHeld
    { s.held with
      table := s.held.table.filter fun e => e.ident != id
      releaseOrder := s.held.releaseOrder.filter fun i => i != id }

/-- R67: the Release of an entry, in the form of its port as it stands now. -/
def entryRelease (e : Entry) (s : State) : Frame :=
  releaseFrame s.settings.outbound[e.ident.dst.port].form e.ident.dst.lane e.ident.dst.key e.release

/-- R67: whether an entry other than `id` names its destination. -/
def destNamed (id : Ident) (s : State) : Bool :=
  s.held.table.any fun e => e.ident != id && e.ident.dst == id.dst

/-- R66: whether the drain of a port runs. -/
def drainRuns (p : Port) (s : State) : Bool :=
  s.link.outs[p].play.length < Config.playCapacity && (nextRelease p s).isSome

/-- R67: the drain takes the entry with the oldest release rank for the port: it leaves, and its Release is placed unless
another entry names its destination. -/
def drainOne (p : Port) (s : State) : State :=
  if drainRuns p s then
    match nextRelease p s with
    | none => s
    | some id =>
      let s' := dropEntry id s
      match findEntry id s with
      | none => s'
      | some e =>
        if destNamed id s then s' else pushPlay p { frame := entryRelease e s, source := .held } s'
  else s

/-- The drain taken up to `n` times. -/
def drainTimes (p : Port) : Nat → State → State
  | 0, s => s
  | n + 1, s => drainTimes p n (drainOne p s)

/-- R66: the drain of a port runs until the play queue is full or no entry for the port is left in release order. -/
def drainPort (p : Port) (s : State) : State := drainTimes p s.held.releaseOrder.length s

/-! ## Sustain (R69–R74) -/

/-- A sustain record changed. -/
def modifySustain (p : Port) (l : Lane) (f : SustainRecord → SustainRecord) (s : State) : State :=
  s.setHeld { s.held with sustain := upd s.held.sustain p fun lanes => upd lanes l f }

/-- A hold count changed. -/
def modifyHold (d : DestLane) (f : Nat → Nat) (s : State) : State :=
  s.setHeld { s.held with holds := upd s.held.holds d.port fun lanes => upd lanes d.lane f }

/-- The hold count of a destination lane. -/
def holdCount (d : DestLane) (s : State) : Nat := s.held.holds[d.port][d.lane]

/-- R71, R72: a sustain Control for a destination lane, offered to the play queue of its port. -/
def offerSustain (d : DestLane) (value : Half) (s : State) : State :=
  offerPlay d.port { frame := .control (laneByte d.lane) 8#8 value, source := .sustain } s

/-- R71: one destination lane of the forwarding list handed with a down edge of source lane (p, l). -/
def forwardLane (p : Port) (l : Lane) (s : State) (d : DestLane) : State :=
  if s.held.sustain[p][l].forwarded.contains d then s
  else if Config.holdLimit ≤ holdCount d s then countHeldOverflow s
  else
    let first := holdCount d s == 0
    let s := modifySustain p l (fun r => { r with forwarded := r.forwarded ++ [d] }) s
    let s := modifyHold d (· + 1) s
    if first then offerSustain d 16383#16 s else s

/-- R71, R73: a sustain down on a source lane; a repeated down does nothing. -/
def sustainDown (p : Port) (l : Lane) (forwarding : List DestLane) (s : State) : State :=
  if laneDown p l s then s
  else forwarding.foldl (forwardLane p l) (modifySustain p l (fun r => { r with down := true }) s)

/-- R72, step 3: one destination lane of the forwarded list undone. -/
def unforwardLane (s : State) (d : DestLane) : State :=
  let s := modifyHold d (· - 1) s
  if holdCount d s == 0 then offerSustain d 0#16 s else s

/-- R72, R73: a sustain up on a source lane; a repeated up does nothing. -/
def sustainUp (p : Port) (l : Lane) (s : State) : State :=
  if laneDown p l s then
    let forwarded := s.held.sustain[p][l].forwarded
    let s := modifySustain p l (fun r => { r with down := false }) s
    let s := makeReleasing
      (fun e => e.state == .sustained && e.ident.src.port == p && e.ident.src.lane == l) (fun e => e.release) s
    let s := forwarded.foldl unforwardLane s
    modifySustain p l (fun r => { r with forwarded := [] }) s
  else s

/-- The 256 source lanes in the order IN1 lane 1 to IN8 lane 32. -/
def sourceLanes : List (Port × Lane) :=
  (List.finRange 8).flatMap fun p => (List.finRange 32).map fun l => (p, l)

/-- R78: PANIC. -/
def doPanic (s : State) : State :=
  sourceLanes.foldl (fun s pl => sustainUp pl.1 pl.2 s) (releaseAll s)

/-! ## A flush of an outbound port (R77) -/

/-- R77: every entry with that destination port discarded, its hold counts 0, its lanes out of every forwarded list. -/
def flushHeld (p : Port) (s : State) : State :=
  s.setHeld
    { table := s.held.table.filter fun e => e.ident.dst.port != p
      releaseOrder := s.held.releaseOrder.filter fun i => i.dst.port != p
      sustain := s.held.sustain.map fun lanes => lanes.map fun r =>
        { r with forwarded := r.forwarded.filter fun d => d.port != p }
      holds := upd s.held.holds p fun lanes => lanes.map fun _ => 0 }

end Sys2Proof.Machine
end

