-- ==== Sys2Proof/Machine/Operands.lean ====
section
/-! DEFINITION. The forms in which values reach the part and leave it: the fields of the setting records (R179), the
settings and curve pages (R171, R57, R159), the song page with its header, scene blocks, zones and burst entries, and
their repair at a fetch (R41, R109, R110, R111; layouts of spec 11, 11.4). -/

namespace Sys2Proof.Machine

/-! ## Setting records as runs of field values (R179) -/

def boolNat (b : Bool) : Nat := if b then 1 else 0

def natBool? : Nat → Option Bool
  | 0 => some false
  | 1 => some true
  | _ => none

def Role.code : Role → Nat
  | .play => 0
  | .thru => 1
  | .off => 2

def roleOfNat? : Nat → Option Role
  | 0 => some .play
  | 1 => some .thru
  | 2 => some .off
  | _ => none

def Fill.code : Fill → Nat
  | .zero => 0
  | .replicate => 1

def fillOfNat? : Nat → Option Fill
  | 0 => some .zero
  | 1 => some .replicate
  | _ => none

def formCode : Form → Nat
  | .long => 0
  | .short => 1

def formOfNat? : Nat → Option Form
  | 0 => some .long
  | 1 => some .short
  | _ => none

def PedalFunction.code : PedalFunction → Nat
  | .none => 0
  | .sustain => 1
  | .nextScene => 2
  | .prevScene => 3
  | .nextSong => 4
  | .prevSong => 5
  | .panic => 6
  | .tap => 7
  | .clickToggle => 8
  | .tempoBit n => 9 + n.val
  | .muteHold => 13
  | .muteToggle => 14

def functionOfNat? : Nat → Option PedalFunction
  | 0 => some .none
  | 1 => some .sustain
  | 2 => some .nextScene
  | 3 => some .prevScene
  | 4 => some .nextSong
  | 5 => some .prevSong
  | 6 => some .panic
  | 7 => some .tap
  | 8 => some .clickToggle
  | 9 => some (.tempoBit 0)
  | 10 => some (.tempoBit 1)
  | 11 => some (.tempoBit 2)
  | 12 => some (.tempoBit 3)
  | 13 => some .muteHold
  | 14 => some .muteToggle
  | _ => none

def Polarity.code : Polarity → Nat
  | .normal => 0
  | .inverted => 1

def polarityOfNat? : Nat → Option Polarity
  | 0 => some .normal
  | 1 => some .inverted
  | _ => none

def Override.code : Override → Nat
  | .normal => 0
  | .beatsOnly => 1
  | .silent => 2

def overrideOfNat? : Nat → Option Override
  | 0 => some .normal
  | 1 => some .beatsOnly
  | 2 => some .silent
  | _ => none

def TempoForm.code : TempoForm → Nat
  | .steady => 0
  | .ramp => 1

def tempoFormOfNat? : Nat → Option TempoForm
  | 0 => some .steady
  | 1 => some .ramp
  | _ => none

def TempoSource.code : TempoSource → Nat
  | .scene => 0
  | .pedal => 1

def tempoSourceOfNat? : Nat → Option TempoSource
  | 0 => some .scene
  | 1 => some .pedal
  | _ => none

/-- A value within bounds. -/
def within? (lo hi n : Nat) : Option Nat := if lo ≤ n ∧ n ≤ hi then some n else none

/-- The pass port field: 0 for none, or 1–8 (spec 11, 11.4). The byte 0xFF, by which R193 marks an absent field, is
taken as out of range here, and with it the whole record (R171; DEDUCED, log entry 47). -/
def passOfNat? : Nat → Option (Option Port)
  | 0 => some none
  | n => (portOfNat? n).map some

def InboundRecord.fields (r : InboundRecord) : List Nat :=
  [r.role.code, match r.pass with | none => 0 | some p => p.val + 1, r.fill.code, boolNat r.selectAsChange,
    boolNat r.transportAccept]

/-- R179, R171: an inbound port record from its fields, if every one lies in its range. -/
def inboundOfFields? : List Nat → Option InboundRecord
  | [role, pass, fill, sel, acc] => do
    let role ← roleOfNat? role
    let pass ← passOfNat? pass
    let fill ← fillOfNat? fill
    let sel ← natBool? sel
    let acc ← natBool? acc
    return { role := role, pass := pass, fill := fill, selectAsChange := sel, transportAccept := acc }
  | _ => none

def OutboundRecord.fields (r : OutboundRecord) : List Nat :=
  [formCode r.form, r.pacing, r.settle, boolNat r.tickOut, r.burstMode]

/-- R179, R171: an outbound port record. -/
def outboundOfFields? : List Nat → Option OutboundRecord
  | [form, pacing, settle, tick, mode] => do
    let form ← formOfNat? form
    let pacing ← within? 0 15 pacing
    let settle ← within? 0 255 settle
    let tick ← natBool? tick
    let mode ← within? 0 8 mode
    return { form := form, pacing := pacing, settle := settle, tickOut := tick, burstMode := mode }
  | _ => none

def PedalRecord.fields (r : PedalRecord) : List Nat :=
  [r.function.code, r.polarity.code, r.debounce, r.argPort.val + 1, r.argLane.val + 1]

/-- R138, R147: a debounce outside 2–50 ms is taken as the nearer end. -/
def clampDebounce (n : Nat) : Nat := max 2 (min n 50)

/-- R138, R147: a pedal record, its debounce clamped. -/
def pedalOfFields? : List Nat → Option PedalRecord
  | [function, polarity, debounce, port, lane] => do
    let function ← functionOfNat? function
    let polarity ← polarityOfNat? polarity
    let port ← portOfNat? port
    let lane ← laneOfNat? lane
    return { function := function, polarity := polarity, debounce := clampDebounce debounce, argPort := port,
             argLane := lane }
  | _ => none

def FeedRecord.fields (r : FeedRecord) : List Nat :=
  [boolNat r.enabled, r.dest.val + 1, r.subdivision, r.lead, r.override.code]

/-- R179, R171: a feed record. -/
def feedOfFields? : List Nat → Option FeedRecord
  | [enabled, dest, subdivision, lead, override] => do
    let enabled ← natBool? enabled
    let dest ← portOfNat? dest
    let subdivision ← within? 1 4 subdivision
    let lead ← within? 0 63 lead
    let override ← overrideOfNat? override
    return { enabled := enabled, dest := dest, subdivision := subdivision, lead := lead, override := override }
  | _ => none

def TempoRecord.fields (r : TempoRecord) : List Nat := [r.form.code, r.t, r.tEnd, r.rampBars, r.meter]

/-- Spec 05, 5.2, R179: a tempo record; the T end and ramp bars of a STEADY record are checked like any other field. -/
def tempoOfFields? : List Nat → Option TempoRecord
  | [form, t, tEnd, rampBars, meter] => do
    let form ← tempoFormOfNat? form
    let t ← within? 4000 30000 t
    let tEnd ← within? 4000 30000 tEnd
    let rampBars ← within? 1 64 rampBars
    let meter ← within? 1 16 meter
    return { form := form, t := t, tEnd := tEnd, rampBars := rampBars, meter := meter }
  | _ => none

/-! ## Reading pages

A page is read through a function from offset to byte. -/

/-- A two-byte field of a page. -/
def wordAt (rd : Nat → Byte) (a : Nat) : Half := half (rd a) (rd (a + 1))

/-- `n` bytes of a page. -/
def bytesAt (rd : Nat → Byte) (a n : Nat) : List Byte := (List.range n).map fun i => rd (a + i)

/-- A record of one byte per field. -/
def fieldsAt (rd : Nat → Byte) (a : Nat) : List Nat := (bytesAt rd a 5).map BitVec.toNat

/-- A tempo record as stored, 7 bytes. -/
def tempoRawAt (rd : Nat → Byte) (a : Nat) : TempoRaw :=
  { form := rd a, t := wordAt rd (a + 1), tEnd := wordAt rd (a + 3), rampBars := rd (a + 5), meter := rd (a + 6) }

/-- A stored tempo record with every field in range. -/
def tempoOfRaw? (r : TempoRaw) : Option TempoRecord :=
  tempoOfFields? [r.form.toNat, r.t.toNat, r.tEnd.toNat, r.rampBars.toNat, r.meter.toNat]

/-! ## The settings page (R171) -/

/-- A loaded record, or its default whole. -/
def recordAt {α : Type} (of? : List Nat → Option α) (default : α) (rd : Nat → Byte) (a : Nat) : α :=
  (of? (fieldsAt rd a)).getD default

/-- R171: the set list as loaded: an empty list for a count above 64, entries outside 1–64 left out. -/
def setListAt (rd : Nat → Byte) : List SongPage :=
  let count := (rd 234).toNat
  if 64 < count then [] else (bytesAt rd 235 count).filterMap fun b => songPageOfNat? b.toNat

/-- R171: the working settings loaded from the bytes of page 65. -/
def settingsOfPage (rd : Nat → Byte) : Settings :=
  { inbound := Vector.ofFn fun i => recordAt inboundOfFields? .default rd (5 * i.val)
    outbound := Vector.ofFn fun i => recordAt outboundOfFields? .default rd (40 + 5 * i.val)
    pedals := Vector.ofFn fun i => recordAt pedalOfFields? .default rd (80 + 5 * i.val)
    feeds := Vector.ofFn fun i => recordAt feedOfFields? .default rd (110 + 5 * i.val)
    setList := setListAt rd
    unitNumber := (within? 0 14 (rd 299).toNat).getD 0
    tempoSource := (tempoSourceOfNat? (rd 300).toNat).getD .scene }

/-- R171: tempo slots 4–15 as loaded from page 65, and the default in slots 0–3. -/
def slotsOfPage (rd : Nat → Byte) : Vector TempoRecord 16 :=
  Vector.ofFn fun i =>
    if i.val < 4 then .default else (tempoOfRaw? (tempoRawAt rd (150 + 7 * (i.val - 4)))).getD .default

/-- A value as the one byte that a page holds it in. -/
def natByte (n : Nat) : Byte := BitVec.ofNat 8 n

/-- A value as the two bytes of a wide field. -/
def natBytes (n : Nat) : List Byte := [hiByte (BitVec.ofNat 16 n), loByte (BitVec.ofNat 16 n)]

/-- A tempo record in its 7-byte layout. -/
def tempoBytes (r : TempoRecord) : List Byte :=
  [natByte r.form.code] ++ natBytes r.t ++ natBytes r.tEnd ++ [natByte r.rampBars, natByte r.meter]

/-- R159, R193: bytes 0–300 of the settings page; set list entries beyond the count are 0xFF. -/
def settingsBytes (st : Settings) (slots : Vector TempoRecord 16) : List Byte :=
  st.inbound.toList.flatMap (fun r => r.fields.map natByte)
    ++ st.outbound.toList.flatMap (fun r => r.fields.map natByte)
    ++ st.pedals.toList.flatMap (fun r => r.fields.map natByte)
    ++ st.feeds.toList.flatMap (fun r => r.fields.map natByte)
    ++ (slots.toList.drop 4).flatMap tempoBytes
    ++ [natByte st.setList.length]
    ++ st.setList.map (fun p => natByte (p.val + 1))
    ++ List.replicate (64 - st.setList.length) Config.blankByte
    ++ [natByte st.unitNumber, natByte st.tempoSource.code]

/-! ## The curve page (R57, spec 11, 11.4) -/

/-- R56, R57: curve memory loaded from the bytes of page 66, a point above 1023 taken as 1023. -/
def curvesOfPage (rd : Nat → Byte) : Vector (Vector Nat 129) 15 :=
  Vector.ofFn fun n => Vector.ofFn fun i => min (wordAt rd (258 * n.val + 2 * i.val)).toNat 1023

/-- R159: bytes 0–3869 of the curve page. -/
def curveBytes (curves : Vector (Vector Nat 129) 15) : List Byte :=
  curves.toList.flatMap fun points => points.toList.flatMap natBytes

/-! ## Zones (R41) -/

/-- R41: whether any field of a zone record is out of its range (spec 02, 2.1). -/
def zoneOutOfRange (z : Zone) : Bool :=
  !(1 ≤ z.sourcePort.toNat && z.sourcePort.toNat ≤ 8)
    || 32 < z.sourceLane.toNat
    || 127 < z.keyLow.toNat || 127 < z.keyHigh.toNat || z.keyHigh.toNat < z.keyLow.toNat
    || !(1 ≤ z.strikeLow.toNat && z.strikeLow.toNat ≤ 1023)
    || !(1 ≤ z.strikeHigh.toNat && z.strikeHigh.toNat ≤ 1023)
    || z.strikeHigh.toNat < z.strikeLow.toNat
    || !(1 ≤ z.destPort.toNat && z.destPort.toNat ≤ 8)
    || !(1 ≤ z.destLane.toNat && z.destLane.toNat ≤ 32)
    || z.transpose.toInt < -48 || 48 < z.transpose.toInt
    || 1 < z.edge.toNat || 1 < z.sustain.toNat || 1 < z.controls.toNat || 1 < z.enabledStored.toNat
    || 15 < z.curve.toNat
    || z.offset.toInt < -512 || 511 < z.offset.toInt

/-- R41: a zone record of 19 bytes as the copy holds it; a repaired one is held with its enabled field off. -/
def zoneAt (rd : Nat → Byte) (a : Nat) : Zone :=
  let z : Zone :=
    { sourcePort := rd a, sourceLane := rd (a + 1), keyLow := rd (a + 2), keyHigh := rd (a + 3),
      strikeLow := wordAt rd (a + 4), strikeHigh := wordAt rd (a + 6), destPort := rd (a + 8),
      destLane := rd (a + 9), transpose := rd (a + 10), edge := rd (a + 11), sustain := rd (a + 12),
      controls := rd (a + 13), enabledStored := rd (a + 14), curve := rd (a + 15), gain := rd (a + 16),
      offset := wordAt rd (a + 17), enabled := rd (a + 14) == 1#8, repaired := false }
  if zoneOutOfRange z then { z with enabled := false, repaired := true } else z

/-- R135: the 19 bytes that KEEP ADJUSTMENTS writes for a zone: the values of the copy, and for a repaired zone the
enabled value as fetched. -/
def zoneBytes (z : Zone) : List Byte :=
  [z.sourcePort, z.sourceLane, z.keyLow, z.keyHigh, hiByte z.strikeLow, loByte z.strikeLow, hiByte z.strikeHigh,
    loByte z.strikeHigh, z.destPort, z.destLane, z.transpose, z.edge, z.sustain, z.controls,
    if z.repaired then z.enabledStored else natByte (boolNat z.enabled), z.curve, z.gain, hiByte z.offset,
    loByte z.offset]

/-! ## Burst entries (R111) -/

/-- Whether a burst entry has a level. -/
def BurstEntry.hasLevel (e : BurstEntry) : Bool := e.level != 0xFF#8

/-- R111: whether any field of a burst entry is out of its range. -/
def burstOutOfRange (e : BurstEntry) : Bool :=
  !(1 ≤ e.port.toNat && e.port.toNat ≤ 8) || !(1 ≤ e.lane.toNat && e.lane.toNat ≤ 32)
    || 1023 < e.bank.toNat || 127 < e.sound.toNat || (e.hasLevel && 127 < e.level.toNat)

/-- R111: a burst entry of 6 bytes as the copy holds it. -/
def burstAt (rd : Nat → Byte) (a : Nat) : BurstEntry :=
  let e : BurstEntry :=
    { port := rd a, lane := rd (a + 1), bank := wordAt rd (a + 2), sound := rd (a + 4), level := rd (a + 5),
      skip := false }
  { e with skip := burstOutOfRange e }

def burstBytes (e : BurstEntry) : List Byte :=
  [e.port, e.lane, hiByte e.bank, loByte e.bank, e.sound, e.level]

/-! ## Scene blocks and song headers (R109, R110) -/

/-- A field taken as `default` when it is out of range, with the repairs that makes. -/
def repaired {α : Type} (field : Option α) (default : α) : α × Nat :=
  match field with
  | some x => (x, 0)
  | none => (default, 1)

def changePointOfNat? : Nat → Option ChangePoint
  | 0 => some .immediate
  | 1 => some .beat
  | 2 => some .bar
  | 3 => some .phrase2
  | 4 => some .phrase4
  | 5 => some .phrase8
  | _ => none

def ChangePoint.code : ChangePoint → Nat
  | .immediate => 0
  | .beat => 1
  | .bar => 2
  | .phrase2 => 3
  | .phrase4 => 4
  | .phrase8 => 5

def leaveOfNat? : Nat → Option LeavePolicy
  | 0 => some .carry
  | 1 => some .cut
  | _ => none

def LeavePolicy.code : LeavePolicy → Nat
  | .carry => 0
  | .cut => 1

/-- R193: an optional field of one byte: 0xFF is absent, any other value is present and checked. -/
def optional? {α : Type} (of? : Nat → Option α) (b : Byte) : Option (Option α) :=
  if b = 0xFF#8 then some none else (of? b.toNat).map some

/-- Where scene block s begins in a song page (spec 11, 11.4). -/
def sceneBase (scene : Nat) : Nat := 48 + (scene - 1) * 427

/-- R110, R41, R111: a scene block as fetched and repaired, with the number of fetch repairs. -/
def sceneAt (rd : Nat → Byte) (scene : Nat) : SceneBlock × Nat :=
  let a := sceneBase scene
  let tempoSlot := repaired (optional? slotOfNat? (rd (a + 12))) none
  let changePoint := repaired (changePointOfNat? (rd (a + 13)).toNat) .immediate
  let leave := repaired (leaveOfNat? (rd (a + 14)).toNat) .carry
  let overrides : Vector (Option Override × Nat) 8 :=
    Vector.ofFn fun i => repaired (optional? overrideOfNat? (rd (a + 16 + i.val))) none
  let autoStart := repaired (natBool? (rd (a + 24)).toNat) false
  let zoneCount := repaired (within? 0 16 (rd (a + 25)).toNat) 16
  let burstCount := repaired (within? 0 16 (rd (a + 26)).toNat) 16
  let zones := (List.range zoneCount.1).map fun i => zoneAt rd (a + 27 + 19 * i)
  let bursts := (List.range burstCount.1).map fun i => burstAt rd (a + 331 + 6 * i)
  ({ name := bytesAt rd a 12, zones := zones, bursts := bursts, tempoSlot := tempoSlot.1,
     changePoint := changePoint.1, leave := leave.1, muteSet := rd (a + 15),
     overrides := overrides.map Prod.fst, autoStart := autoStart.1 },
   tempoSlot.2 + changePoint.2 + leave.2 + (overrides.toList.map Prod.snd).sum + autoStart.2 + zoneCount.2
     + burstCount.2 + zones.countP (·.repaired) + bursts.countP (·.skip))

/-- R109: a song header as fetched and repaired, with the number of fetch repairs. -/
def headerAt (rd : Nat → Byte) : SongHeader × Nat :=
  let countIn := repaired (within? 0 4 (rd 16).toNat) 0
  let runOn := repaired (natBool? (rd 18).toNat) false
  let tempoCount := repaired (within? 0 4 (rd 19).toNat) 4
  ({ name := bytesAt rd 0 16, countIn := countIn.1, sceneCount := (rd 17).toNat, runOn := runOn.1,
     tempos := (List.range tempoCount.1).map fun i => tempoRawAt rd (20 + 7 * i) },
   countIn.2 + runOn.2 + tempoCount.2)

def absentOr {α : Type} (code : α → Nat) : Option α → Byte
  | none => 0xFF#8
  | some x => natByte (code x)

/-- R135, R193: the captured fields of a scene block written over that block of a page image. The zone records and burst
entries beyond the counts, which no copy holds, stay as the page had them (log entry 25). -/
def patchScene (image : Memory) (scene : Nat) (b : SceneBlock) : Memory :=
  let a := sceneBase scene
  let m := Memory.writeRun image a b.name
  let m := Memory.writeRun m (a + 12)
    ([absentOr Fin.val b.tempoSlot, natByte b.changePoint.code, natByte b.leave.code, b.muteSet]
      ++ b.overrides.toList.map (absentOr Override.code)
      ++ [natByte (boolNat b.autoStart), natByte b.zones.length, natByte b.bursts.length])
  let m := Memory.writeRun m (a + 27) (b.zones.flatMap zoneBytes)
  Memory.writeRun m (a + 331) (b.bursts.flatMap burstBytes)

/-- R135: captured tempo slots written over the tempo records of a page image, the record count raised when it was
lower. -/
def patchSlots (image : Memory) (slots : List TempoRecord) : Memory :=
  let m := Memory.writeRun image 20 (slots.flatMap tempoBytes)
  if (Memory.read m 19).toNat < slots.length then Memory.write m 19 (natByte slots.length) else m

end Sys2Proof.Machine
end

