-- ==== Sys2Proof/Machine/Zone.lean ====
section
/-! DEFINITION. The zone engine (spec 02): matching, the key stage, layers, releases, controls and the forwarding list of
a sustain edge. -/

namespace Sys2Proof.Machine

/-- R28, R29, R37, R40: whether a zone takes part and takes events of this source lane. -/
def zoneTakes (p : Port) (l : Lane) (z : Zone) : Bool :=
  z.enabled && z.sourcePort == portByte p && (z.sourceLane == 0#8 || z.sourceLane == laneByte l)

/-- The destination port and lane of a zone. -/
def zoneDest? (z : Zone) : Option DestLane := do
  let port ← portOfNat? z.destPort.toNat
  let lane ← laneOfNat? z.destLane.toNat
  return { port := port, lane := lane }

/-- The sustain handling of a zone. -/
def zoneHandling (z : Zone) : Handling := if z.sustain == 1#8 then .forward else .hold

/-- R29: whether a zone matches a strike. -/
def zoneMatches (src : SourceTriple) (s10 : Nat) (z : Zone) : Bool :=
  zoneTakes src.port src.lane z
    && z.keyLow.toNat ≤ src.key.val && src.key.val ≤ z.keyHigh.toNat
    && z.strikeLow.toNat ≤ s10 && s10 ≤ z.strikeHigh.toNat

/-- R33: brought into 0–127 by whole octaves, at most `n` of them. -/
def foldKey : Nat → Int → Int
  | 0, t => t
  | n + 1, t => if 127 < t then foldKey n (t - 12) else if t < 0 then foldKey n (t + 12) else t

/-- R32: the key stage; none where the edge rule drops the layer. -/
def keyStage (z : Zone) (key : Key) : Option Key :=
  let t : Int := (key.val : Int) + z.transpose.toInt
  if 0 ≤ t ∧ t ≤ 127 then keyOfNat? t.toNat
  else if z.edge == 0#8 then none
  else keyOfNat? (foldKey 12 t).toNat

/-- The destination of the layer that a zone gives a source key. -/
def layerDest (z : Zone) (key : Key) : Option Dest := do
  let d ← zoneDest? z
  let k ← keyStage z key
  return { port := d.port, lane := d.lane, key := k }

/-- R30, R31: the layers of a strike in list order, one per matching zone with a destination key, less those whose
destination an earlier zone of the strike has. A later layer is passed over also where the earlier one is then lost to a
full table or a full play queue, so that one loss is counted (DEDUCED, log entry 43). -/
def layersOf (zones : List Zone) (src : SourceTriple) (s10 : Nat) : List (Zone × Dest) :=
  (zones.filter (zoneMatches src s10)).foldl
    (fun layers z =>
      match layerDest z src.key with
      | none => layers
      | some d => if layers.any fun y => y.2 == d then layers else layers ++ [(z, d)])
    []

/-- R34, R35: one built layer handed on: the mute test, then the held-note table and the play queue. -/
def playLayer (src : SourceTriple) (s10 : Nat) (s : State) (layer : Zone × Dest) : State :=
  let (z, d) := layer
  if s.muted d.port then s
  else
    offerLayer { src := src, dst := d } (zoneHandling z)
      (strikeFrame s.settings.outbound[d.port].form d.lane d.key (shapeStrike s.curves z s10)) s

/-- R29–R35: a Strike frame taken from a PLAY port. -/
def zoneStrike (p : Port) (l : Lane) (k : Key) (amount : StrikeAmount) (s : State) : State :=
  let src : SourceTriple := { port := p, lane := l, key := k }
  let s10 := expandStrike s.settings.inbound[p].fill amount
  (layersOf s.change.active.block.zones src s10).foldl (playLayer src s10) s

/-- R36: a Release frame taken from a PLAY port. -/
def zoneRelease (p : Port) (l : Lane) (k : Key) (amount : ReleaseAmount) (s : State) : State :=
  keyUp { port := p, lane := l, key := k } (expandRelease s.settings.inbound[p].fill amount) s

/-- The destinations of zones in list order, each destination lane once (R38, R40). -/
def destLanes (zones : List Zone) : List DestLane :=
  zones.foldl
    (fun ds z =>
      match zoneDest? z with
      | none => ds
      | some d => if ds.contains d then ds else ds ++ [d])
    []

/-- R37, R38: the destinations a control is routed to. -/
def controlDests (zones : List Zone) (p : Port) (l : Lane) : List DestLane :=
  destLanes (zones.filter fun z => zoneTakes p l z && z.controls == 1#8)

/-- R39: one built Control handed on. -/
def playControl (number : Byte) (value : Half) (s : State) (d : DestLane) : State :=
  if s.muted d.port then s
  else offerPlay d.port { frame := .control (laneByte d.lane) number value, source := .zone } s

/-- R5: a Control value above 16383 is taken as 16383. -/
def clampControl (value : Half) : Half := if 16383 < value.toNat then 16383#16 else value

/-- R37–R39: a Control frame, other than sustain, taken from a PLAY port. -/
def zoneControl (p : Port) (l : Lane) (number : Byte) (value : Half) (s : State) : State :=
  (controlDests s.change.active.block.zones p l).foldl (playControl number (clampControl value)) s

/-- R40, R143: the forwarding list of a source lane, from the zones of the active copy. -/
def forwardingList (s : State) (p : Port) (l : Lane) : List DestLane :=
  destLanes (s.change.active.block.zones.filter fun z => zoneTakes p l z && zoneHandling z == .forward)

/-- R40, R71–R73: a sustain Control taken from a PLAY port. -/
def zoneSustain (p : Port) (l : Lane) (value : Half) (s : State) : State :=
  if 8192 ≤ value.toNat then sustainDown p l (forwardingList s p l) s else sustainUp p l s

end Sys2Proof.Machine
end

