-- ==== Sys2Proof/Machine/Tempo.lean ====
section
/-! DEFINITION. The tempo engine (spec 05), less what it gives to the change controller: tempo records, selections and
rewrites, sub-ticks, clicks, ticks and transport, START, CONTINUE, the song-change reset and tap tempo. -/

namespace Sys2Proof.Machine

/-- The tempo engine changed. -/
def modifyTempo (f : Tempo → Tempo) (s : State) : State := s.setTempo (f s.tempo)

/-! ## Tempo records (R82) -/

/-- B of R82: the beats of a ramp. -/
def rampBeats (r : TempoRecord) : Nat := r.rampBars * r.meter

/-- R82: the tempo a record governs beat k at; the division is truncated toward zero. -/
def beatTempo (r : TempoRecord) (k : Nat) : Nat :=
  match r.form with
  | .steady => r.t
  | .ramp =>
    if rampBeats r ≤ k then r.tEnd
    else ((r.t : Int) + (((r.tEnd : Int) - r.t) * k).tdiv (rampBeats r)).toNat

/-! ## Selections and rewrites (R87, R88) -/

/-- R87: while the position is kept, a beat above the meter moves it to beat 1, sub-tick 0 of the next bar. -/
def adjustPosition (t : Tempo) : Tempo :=
  if t.meter < t.beat then { t with bar := min (t.bar + 1) 9999, beat := 1, subTick := 0 } else t

/-- R87: a slot takes effect while the clock is STOPPED. -/
def takeEffectStopped (slot : Slot) (t : Tempo) : Tempo :=
  adjustPosition
    { t with
      inEffect := slot, pendingSlot := none, rampBeat := 0, tempo := beatTempo t.slots[slot] 0,
      meter := t.slots[slot].meter }

/-- R87: the slot that would stand without a selection. -/
def standingSlot (t : Tempo) : Slot := t.pendingSlot.getD t.inEffect

/-- R87: a selection of a slot. -/
def selectSlot (slot : Slot) (t : Tempo) : Tempo :=
  if standingSlot t = slot then t
  else if t.clock = .stopped then takeEffectStopped slot t
  else if slot = t.inEffect then { t with pendingSlot := none }
  else { t with pendingSlot := some slot }

/-- R88: what follows from the rewrite of a slot's contents. -/
def afterRewrite (slot : Slot) (t : Tempo) : Tempo :=
  if slot = t.inEffect then
    if t.clock = .stopped then takeEffectStopped slot t else { t with pendingSlot := some slot }
  else t

/-- R88: a slot rewritten. -/
def rewriteSlot (slot : Slot) (r : TempoRecord) (t : Tempo) : Tempo :=
  afterRewrite slot { t with slots := upd t.slots slot fun _ => r }

/-- R83: the record that slot i takes from a header's tempo records, and 1 for a record out of range. -/
def songSlot (tempos : List TempoRaw) (i : Nat) : TempoRecord × Nat :=
  match tempos[i]? with
  | none => (.default, 0)
  | some raw =>
    match tempoOfRaw? raw with
    | some r => (r, 0)
    | none => (.default, 1)

/-- R83: the four records of a header. -/
def songSlots (tempos : List TempoRaw) (slots : Vector TempoRecord 16) : Vector TempoRecord 16 :=
  Vector.ofFn fun i => if i.val < 4 then (songSlot tempos i.val).1 else slots[i]

/-- R83: the tempo records of a header that are loaded as the default because a field is out of range. -/
def songSlotRepairs (tempos : List TempoRaw) : Nat :=
  (songSlot tempos 0).2 + (songSlot tempos 1).2 + (songSlot tempos 2).2 + (songSlot tempos 3).2

/-- R83, R88: slots 0–3 loaded from a header while the part runs; a rewrite when one of them is in effect. -/
def loadSongSlots (tempos : List TempoRaw) (s : State) : State :=
  countRepairs (songSlotRepairs tempos)
    (modifyTempo (fun t =>
      let t := { t with slots := songSlots tempos t.slots }
      if t.inEffect.val < 4 then afterRewrite t.inEffect t else t) s)

/-! ## The pedal slot number (R86) -/

/-- R86, R145: bn is 1 while a pedal assigned TEMPO BIT n is pressed. -/
def tempoBit (s : State) (n : Fin 4) : Bool :=
  (List.finRange 6).any fun i => s.settings.pedals[i].function == .tempoBit n && s.pressed i

/-- R86: the pedal slot number. -/
def pedalSlot (s : State) : Slot :=
  ⟨8 * boolNat (tempoBit s 3) + 4 * boolNat (tempoBit s 2) + 2 * boolNat (tempoBit s 1) + boolNat (tempoBit s 0), by
    have h (b : Bool) : boolNat b ≤ 1 := by cases b <;> decide
    have := h (tempoBit s 3); have := h (tempoBit s 2); have := h (tempoBit s 1); have := h (tempoBit s 0)
    omega⟩

/-- R86: the pedal sample, offered as a selection under tempo source PEDAL. -/
def samplePedals (s : State) : State :=
  match s.settings.tempoSource with
  | .pedal => modifyTempo (selectSlot (pedalSlot s)) s
  | .scene => s

/-! ## Frames of the tempo engine -/

/-- R100: a Transport frame offered to every port whose tick out is on: action 1 START, 2 STOP, 3 CONTINUE. -/
def offerTransport (action : Byte) (bar beat : Nat) (s : State) : State :=
  offerTickOut (.transport action (BitVec.ofNat 16 bar) (BitVec.ofNat 8 beat)) s

/-- What a click's point says: accent 0 SUB, 1 BEAT, 2 DOWNBEAT, 3 COUNT, with its bar and beat (R104). -/
structure ClickPoint where
  accent : Byte
  bar    : Nat
  beat   : Nat
  deriving DecidableEq, Repr

/-- R104: the point at sub-tick 0 of the present beat. -/
def pointHere (t : Tempo) : ClickPoint :=
  match t.clock with
  | .countIn => { accent := 3#8, bar := 0, beat := t.beat }
  | _ => if t.beat = 1 then { accent := 2#8, bar := t.bar, beat := 1 }
         else { accent := 1#8, bar := t.bar, beat := t.beat }

/-- R104: a point between beats. -/
def pointBetween (t : Tempo) : ClickPoint :=
  match t.clock with
  | .countIn => { accent := 3#8, bar := 0, beat := t.beat }
  | _ => { accent := 0#8, bar := t.bar, beat := t.beat }

/-- R94, R95: the position after the beat that runs ends: clock state, bar, beat and count-in bar. `countIn` is C of the
active song. -/
def nextBeat (countIn : Nat) (t : Tempo) : Tempo :=
  match t.clock with
  | .stopped => t
  | .running =>
    if t.meter < t.beat + 1 then { t with beat := 1, bar := min (t.bar + 1) 9999 } else { t with beat := t.beat + 1 }
  | .countIn =>
    if t.meter < t.beat + 1 then
      if t.countInBar < countIn then { t with beat := 1, countInBar := t.countInBar + 1 }
      else { t with clock := .running, bar := 1, beat := 1, countInBar := 0 }
    else { t with beat := t.beat + 1 }

/-- A Click of a feed offered to its destination port (R103). -/
def offerClick (feed : Port) (c : ClickPoint) (s : State) : State :=
  offerTiming s.settings.feeds[feed].dest
    (.click (portByte feed) c.accent (BitVec.ofNat 16 c.bar) (BitVec.ofNat 8 c.beat)) s

/-- What a feed holds, changed. -/
def modifyFeed (feed : Port) (f : FeedState → FeedState) (s : State) : State :=
  modifyTempo (fun t => { t with feeds := upd t.feeds feed f }) s

/-- C, the count-in of the active song (R91). -/
def State.countIn (s : State) : Nat := s.change.active.header.countIn

/-- R103–R105: the click decision of one feed as a sub-tick begins. -/
def decideClick (s : State) (feed : Port) : State :=
  let r := s.settings.feeds[feed]
  let o := s.tempo.feeds[feed].override
  let at_ := s.tempo.subTick + r.lead
  let interval := 960 / r.subdivision
  if !r.enabled then s
  else if at_ = 960 then
    if o = .silent then s
    else modifyFeed feed (fun f => { f with nextPlaced := true })
      (offerClick feed (pointHere (nextBeat s.countIn s.tempo)) s)
  else if at_ < 960 && at_ % interval == 0 then
    if at_ = 0 then
      if o = .silent then s
      else modifyFeed feed (fun f => { f with beatPlaced := true }) (offerClick feed (pointHere s.tempo) s)
    else if o = .normal then offerClick feed (pointBetween s.tempo) s
    else s
  else s

/-- R103: the click decisions of a sub-tick, in feed order. -/
def decideClicks (s : State) : State := (List.finRange 8).foldl decideClick s

/-- R103, R105: the click of the present sub-tick 0 placed at once, whatever the lead, unless `beatPlaced` says it
already stands. -/
def placeBeatClick (s : State) (feed : Port) : State :=
  if s.settings.feeds[feed].enabled && s.tempo.feeds[feed].override != .silent
      && !s.tempo.feeds[feed].beatPlaced then
    modifyFeed feed (fun f => { f with beatPlaced := true }) (offerClick feed (pointHere s.tempo) s)
  else s

/-- The clicks of the present sub-tick 0, in feed order. -/
def placeBeatClicks (s : State) : State := (List.finRange 8).foldl placeBeatClick s

/-- A beat begins with no click of its sub-tick 0 placed (START, CONTINUE, a reset in mid-beat). -/
def forgetClicks (t : Tempo) : Tempo :=
  { t with feeds := t.feeds.map fun f => { f with nextPlaced := false, beatPlaced := false } }

/-- A beat begins whose sub-tick 0 click was decided, or not, in the beat before. -/
def carryClicks (t : Tempo) : Tempo :=
  { t with feeds := t.feeds.map fun f => { f with beatPlaced := f.nextPlaced, nextPlaced := false } }

/-- R99: a Beat Tick at each sub-tick that is a multiple of 20. -/
def offerTick (s : State) : State :=
  if s.tempo.subTick % 20 = 0 then offerTickOut .beatTick s else s

/-! ## Sub-ticks (R81) -/

/-- R81: the accumulator step as a sub-tick begins, which gives the sub-tick its length. -/
def stepAccumulator (t : Tempo) : Tempo :=
  let q := 100000000 / t.tempo
  let a := t.accumulator + 100000000 % t.tempo
  if t.tempo ≤ a then { t with accumulator := a - t.tempo, units := q + 1 }
  else { t with accumulator := a, units := q }

/-- R101: BEAT is high during sub-ticks 0 to 239 of each beat while the clock runs. -/
def State.beatOutput (s : State) : Bool := s.tempo.clock != .stopped && s.tempo.subTick < 240

/-- Sub-tick 0 of a beat begun by START, by CONTINUE or by a reset in mid-beat: its accumulator step, its Beat Tick and
the click of every enabled feed (R91, R93, R99, R103, R105). -/
def beginFirstBeat (s : State) : State :=
  placeBeatClicks (offerTick (modifyTempo (fun t => stepAccumulator { forgetClicks t with boundaryBegan := false }) s))

/-! ## Settling tempo and meter (R89) -/

/-- R89: the tempo, and at a bar boundary the meter, of the beat that begins. A slot in effect that was rewritten from
STEADY to RAMP while the clock ran, and whose pending rewrite was cancelled, goes on from the index that `rampBeat`
holds, for which no rule gives a value (R82; DESIGN CHOICE, log entry 44). -/
def settleTempo (barBoundary : Bool) (t : Tempo) : Tempo :=
  let t := match t.pendingSlot with
    | some slot => { t with inEffect := slot, pendingSlot := none, rampBeat := 0 }
    | none =>
      match t.slots[t.inEffect].form with
      | .ramp => { t with rampBeat := min (t.rampBeat + 1) (rampBeats t.slots[t.inEffect]) }
      | .steady => t
  { t with
    tempo := beatTempo t.slots[t.inEffect] t.rampBeat
    meter := if barBoundary then t.slots[t.inEffect].meter else t.meter
    accumulator := 0 }

/-! ## START and CONTINUE (R91, R93) -/

/-- R91: START taken while the clock is STOPPED. -/
def startClock (s : State) : State :=
  let s := samplePedals s
  let c := s.countIn
  let s := modifyTempo (fun t =>
    { t with
      bar := 1, beat := 1, subTick := 0, accumulator := 0, rampBeat := 0, tempo := beatTempo t.slots[t.inEffect] 0,
      clock := if c = 0 then .running else .countIn, countInBar := if c = 0 then 0 else 1 }) s
  beginFirstBeat (if c = 0 then offerTransport 1#8 1 1 s else s)

/-- R91: START; ignored while the clock runs. -/
def doStart (s : State) : State := if s.tempo.clock = .stopped then startClock s else s

/-- R93: CONTINUE; ignored while the clock runs. -/
def doContinue (s : State) : State :=
  if s.tempo.clock = .stopped then
    let s := modifyTempo (fun t =>
      { t with
        clock := .running, subTick := 0, accumulator := 0, countInBar := 0,
        tempo := beatTempo t.slots[t.inEffect] t.rampBeat }) s
    beginFirstBeat (offerTransport 3#8 s.tempo.bar s.tempo.beat s)
  else s

/-! ## The song-change reset (R96) -/

/-- At which moment a switch is made: in mid-beat, at the moment of a beat boundary already taken, or as part of a beat
boundary (R89, R99, R105). -/
inductive SwitchMoment where
  | midBeat
  | afterBoundary
  | boundary
  deriving DecidableEq, Repr

/-- R96: the position reset to bar 1, beat 1, sub-tick 0, with the Transport START that goes with it. -/
def resetPosition (s : State) : State :=
  let c := s.countIn
  match s.tempo.clock with
  | .stopped => s
  | .running =>
    offerTransport 1#8 1 1 (modifyTempo (fun t => { t with bar := 1, beat := 1, subTick := 0 }) s)
  | .countIn =>
    if c = 0 then
      offerTransport 1#8 1 1
        (modifyTempo (fun t => { t with clock := .running, bar := 1, beat := 1, subTick := 0, countInBar := 0 }) s)
    else modifyTempo (fun t => { t with bar := 1, beat := 1, subTick := 0, countInBar := 1 }) s

/-- R96, R99, R105: the whole reset. At a boundary only the position is reset here: the boundary goes on to the pedal
sample, the settling and sub-tick 0 (R89). Otherwise the reset counts as a beat and bar boundary of its own. Where it
falls at the moment of a boundary already taken, the Transport START stands behind the Beat Tick and the clicks that the
boundary has placed: R100 orders what is offered together, and the boundary's frames are queued already (DESIGN CHOICE,
log entry 22). -/
def songReset (m : SwitchMoment) (s : State) : State :=
  match s.tempo.clock, m with
  | .stopped, _ => s
  | _, .boundary => resetPosition s
  | _, .midBeat => beginFirstBeat (modifyTempo (settleTempo true) (samplePedals (resetPosition s)))
  | _, .afterBoundary =>
    placeBeatClicks (modifyTempo (fun t => stepAccumulator (settleTempo true t)) (samplePedals (resetPosition s)))

/-! ## Tap tempo (R106, R107) -/

/-- R106: the tap history after a tap at `moment`. -/
def addTap (moment : Nat) (taps : List Nat) : List Nat :=
  match taps.getLast? with
  | none => [moment]
  | some last =>
    if last + Config.tapGap < moment then [moment]
    else
      let taps := taps ++ [moment]
      taps.drop (taps.length - 4)

/-- R107: 6,000,000,000 × n / S rounded to the nearest whole number, a half rounded up, clamped to 4000–30000. Taps on
one moment leave the quotient open (log entry 24). -/
def tapTempo (tick n span : Nat) : Nat :=
  let t := if span = 0 then Config.tapTempoOfNoTime tick else (2 * (6000000000 * n) + span) / (2 * span)
  max 4000 (min t 30000)

/-- R133, R107: the slot in effect rewritten as STEADY at T with its meter kept. The rules say nothing of T end and ramp
bars, which a STEADY record does not use; the model keeps both as they stood (DESIGN CHOICE, log entry 41). -/
def rewriteInEffect (t : Nat) (s : State) : State :=
  modifyTempo (fun x =>
    rewriteSlot x.inEffect { x.slots[x.inEffect] with form := .steady, t := t } x) s

/-- R106, R107: a tap. -/
def doTap (moment : Nat) (s : State) : State :=
  let taps := addTap moment s.tempo.taps
  let s := modifyTempo (fun t => { t with taps := taps }) s
  match taps with
  | first :: _ :: _ =>
    rewriteInEffect (tapTempo s.freeTick (taps.length - 1) (moment - first))
      (if moment - first = 0 then s.setFreeTick (s.freeTick + 1) else s)
  | _ => s

end Sys2Proof.Machine
end

