-- ==== Sys2Proof/Machine/Fetch.lean ====
section
/-! DEFINITION. Scene fetches (spec 08, 8.4; spec 06, 6.5): where a fetch reads from, what it delivers, and what its end
or its abandonment does to the store. -/

namespace Sys2Proof.Machine

/-- The store changed. -/
def modifyStore (f : Store → Store) (s : State) : State := s.setStore (f s.store)

/-- R162: where a fetch of a page reads from, decided at this moment; none where nothing is read and the class is EMPTY.
DESIGN CHOICE (log entry 16): a fetch from the buffer holds it as it stands now. R162 has the buffer unchanged while the
commit runs; a fetch still being read after the commit has ended keeps these bytes, whatever is written to the buffer
then. -/
def decideSource (page : Page) (s : State) : Option FetchSource :=
  match s.store.operation with
  | none => some .cells
  | some op =>
    match op.kind with
    | .load _ => some .afterLoad
    | .keepLoad _ => some .afterLoad
    | .commit p => some (if p = page then .buffer s.store.buffer else .cells)
    | .keepCommit c => some (if c.page = page then .buffer s.store.buffer else .cells)
    | .clear p => if p = page then none else some .cells

/-- R163: whether a fetch from the cells still waits for the operation in flight to stop. -/
def awaitsSuspension (f : Fetch) (s : State) : Bool :=
  f.source == .cells && match s.store.operation with
    | some op => !op.suspended
    | none => false

/-- Whether a fetch is being read (it does not wait for a suspension, nor for a load). -/
def fetchReading (f : Fetch) (s : State) : Bool := f.source != .afterLoad && !awaitsSuspension f s

/-- The staged copy (R108): absent, being filled by a fetch of a page and scene, or complete. -/
inductive StagedCopy where
  | absent
  | filling (page : Page) (scene : Nat)
  | complete (copy : SceneCopy)
  deriving DecidableEq, Repr

/-- R108: the staged copy stands from the moment a fetch begins to fill it, that is when it is being read, until the
switch, or until its change is ended or abandoned. What a copy holds while it is being filled nothing can see. -/
def State.stagedCopy (s : State) : StagedCopy :=
  match s.change.staged, s.store.fetch with
  | some copy, _ => .complete copy
  | none, some f => if s.change.state = .fetching && fetchReading f s then .filling f.page f.scene else .absent
  | none, none => .absent

/-- The bytes a fetch reads. -/
def fetchImage (f : Fetch) (s : State) : Memory :=
  match f.source with
  | .buffer image => image
  | _ => s.store.image f.page

/-- R162: the class a fetch delivers: that of the page, or for the buffer the one its scene count gives. -/
def fetchClass (f : Fetch) (s : State) : PageClass :=
  match f.source with
  | .buffer image => committedClass f.page image
  | _ => s.store.classes[f.page]

/-- What a fetch delivers (R121, R122): a copy, or the fault that ends the change. -/
inductive FetchResult where
  | copy (c : SceneCopy)
  | fault (o : ChangeOutcome)
  deriving DecidableEq, Repr

/-- R121, R122: what a fetch delivers and the repairs it makes. A song change reads the header; a scene change keeps the
header of the active copy and reads only the page's scene count. -/
def runFetch (f : Fetch) (song : Bool) (s : State) : FetchResult × Nat :=
  match fetchClass f s with
  | .empty => (.fault .empty, 0)
  | .damaged => (.fault .damaged, 0)
  | .invalid => (.fault .invalid, 0)
  | .good =>
    let image := fetchImage f s
    let header := if song then headerAt (Memory.read image) else (s.change.active.header, 0)
    let block := sceneAt (Memory.read image) f.scene
    (if sceneCountOf image < f.scene then .fault .range
     else .copy { block := block.1, header := header.1, source := some (f.page, f.scene) },
     header.2 + block.2)

/-- R163: a suspended operation takes up again; one accepted while the fetch was read starts on its page. -/
def resumeOperation (st : Store) : Store :=
  { st with operation := st.operation.map fun op => { op with begun := true, suspended := false } }

/-- The fetch is over. -/
def closeFetch (s : State) : State := modifyStore (fun st => resumeOperation { st with fetch := none }) s

/-- R117, R164: the fetch being served is ended and its result dropped. How many of its repairs had been counted is a
free value (log entry 17). -/
def abandonFetch (s : State) : State :=
  match s.store.fetch with
  | none => s
  | some f =>
    let song := match s.change.target with
      | some tg => tg.song
      | none => false
    if fetchReading f s then
      closeFetch ((countRepairs (min (runFetch f song s).2 (Config.abandonedRepairs s.freeTick)) s).setFreeTick
        (s.freeTick + 1))
    else closeFetch s

/-- R162: a fetch that waited on a load is decided again when the load has ended. -/
def redecideFetch (s : State) : State :=
  match s.store.fetch with
  | some f =>
    if f.source = .afterLoad then
      modifyStore (fun st => { st with fetch := (decideSource f.page s).map fun src => { f with source := src } }) s
    else s
  | none => s

end Sys2Proof.Machine
end

