-- ==== Sys2Proof/Machine/Change.lean ====
section
/-! DEFINITION. The change controller (spec 06): requests and their resolution, the switch and what it hands to the other
blocks, the burst, and the end of a change. -/

namespace Sys2Proof.Machine

/-- The change controller changed. -/
def modifyChange (f : Change → Change) (s : State) : State := s.setChange (f s.change)

/-! ## Taking requests (R118–R121) -/

/-- R120, R122, R130: a request ends with an outcome; RANGE, EMPTY, DAMAGED and INVALID set CHANGE. -/
def endRequest (o : ChangeOutcome) (origin : Origin) (s : State) : State :=
  let s := modifyChange (fun c =>
    { c with state := .idle, target := none, staged := none, outcome := o, origin := some origin }) s
  match o with
  | .ok | .atEnd | .noSet => s
  | .range | .empty | .damaged | .invalid => flagChange s

/-- What resolving a request gives: a target entry and scene, or the outcome it ends with. -/
inductive Resolution where
  | target (entry scene : Nat)
  | ends (o : ChangeOutcome)
  deriving DecidableEq, Repr

/-- R119: a request resolved against the cursor, the set list and the header of the active copy. -/
def resolveRequest (r : ChangeRequest) (s : State) : Resolution :=
  let e := s.change.cursorEntry
  let sc := s.change.cursorScene
  let n := s.settings.setList.length
  let count := s.change.active.header.sceneCount
  if n = 0 then .ends .noSet
  else
    match r.kind with
    | .nextScene =>
      if sc < count then .target e (sc + 1)
      else if sc = count ∧ s.change.active.header.runOn ∧ e < n then .target (e + 1) 1
      else .ends .atEnd
    | .prevScene => if 1 < sc then .target e (sc - 1) else .ends .atEnd
    | .nextSong => if e < n then .target (e + 1) 1 else .ends .atEnd
    | .prevSong => if 1 < e then .target (e - 1) 1 else .ends .atEnd
    | .gotoScene => if 1 ≤ r.number ∧ r.number ≤ count then .target e r.number else .ends .range
    | .gotoSong => if 1 ≤ r.number ∧ r.number ≤ n then .target r.number 1 else .ends .range

/-- R118: whether a resolved request is a song change. -/
def isSongChange (r : ChangeRequest) (entry : Nat) (s : State) : Bool :=
  entry != s.change.cursorEntry || r.kind == .gotoSong || s.emptyActive

/-- The page of a set-list entry, as the list stands now. -/
def entryPage (entry : Nat) (s : State) : Option Page := (s.settings.setList[entry - 1]?).map songPage

/-- R121: the page a change fetches: that of the target entry for a song change, the cursor page for a scene change. -/
def fetchPage (song : Bool) (entry : Nat) (s : State) : Option Page :=
  if song then entryPage entry s else s.change.cursorPage

/-- R121, R162: the controller enters FETCHING and the fetch is asked for. -/
def beginFetch (tg : Target) (src : FetchSource) (s : State) : State :=
  modifyStore (fun st => { st with fetch := some { page := tg.page, scene := tg.scene, source := src } })
    (modifyChange (fun c => { c with state := .fetching, target := some tg, staged := none }) s)

/-- R118, R120: the IDLE controller takes the requests of its queue, one after another, until one begins a fetch. A fetch
served as EMPTY ends at once (R164), and its change with it. -/
def takeAll : List ChangeRequest → State → State
  | [], s => modifyChange (fun c => { c with state := .idle, queue := [] }) s
  | r :: rs, s =>
    match resolveRequest r s with
    | .ends o => takeAll rs (endRequest o r.origin s)
    | .target entry scene =>
      let song := isSongChange r entry s
      match fetchPage song entry s with
      | none => takeAll rs (endRequest .noSet r.origin s)
      | some page =>
        match decideSource page s with
        | none => takeAll rs (endRequest .empty r.origin s)
        | some src =>
          beginFetch { entry := entry, scene := scene, song := song, origin := r.origin, page := page } src
            (modifyChange (fun c => { c with queue := rs }) s)

/-- The controller is IDLE and takes what its queue holds. -/
def takeNext (s : State) : State := takeAll s.change.queue s

/-! ## Requests arriving (R116, R117) -/

/-- The kind of a stepping request. -/
def stepKind : StepKind → ChangeKind
  | .nextScene => .nextScene
  | .prevScene => .prevScene
  | .nextSong => .nextSong
  | .prevSong => .prevSong

/-- The kind of a GOTO request. -/
def gotoKind : GotoKind → ChangeKind
  | .scene => .gotoScene
  | .song => .gotoSong

/-- R116: whether the change queue has room for a stepping request. -/
def changeHasRoom (s : State) : Bool := s.change.queue.length < Config.changeCapacity

/-- R116: a NEXT or PREV request appended to the change queue, or dropped when it holds four; an IDLE controller takes it
at once. -/
def offerStep (kind : StepKind) (number : Nat) (origin : Origin) (s : State) : State :=
  if changeHasRoom s then
    let s := modifyChange (fun c =>
      { c with queue := c.queue ++ [{ kind := stepKind kind, number := number, origin := origin }] }) s
    if s.change.state = .idle then takeNext s else s
  else countChangeOverflow s

/-- R117: the change in flight abandoned: the staged copy and the fetch are dropped, nothing else of the controller
changes, and it is IDLE. -/
def abandonChange (s : State) : State :=
  modifyChange (fun c => { c with state := .idle, target := none, staged := none }) (abandonFetch s)

/-- R117: a GOTO empties the change queue, abandons a fetch or wait in flight, and is taken at once, or waits for IDLE
while the part is SWITCHING. -/
def offerGoto (kind : GotoKind) (number : Nat) (origin : Origin) (s : State) : State :=
  let r : ChangeRequest := { kind := gotoKind kind, number := number, origin := origin }
  match s.change.state with
  | .idle => takeAll [r] s
  | .fetching => takeAll [r] (abandonChange s)
  | .waiting => takeAll [r] (abandonChange s)
  | .switching => modifyChange (fun c => { c with queue := [r] }) s

/-! ## The burst (R128, R129, R14) -/

/-- R14: a frame of a change placed at the tail of a burst queue. -/
def pushBurst (p : Port) (f : Frame) (s : State) : State :=
  modifyOut p (fun o => { o with burst := o.burst ++ [{ frame := f, source := .burst }] }) s

/-- R14: whether a burst queue has room. -/
def burstHasRoom (p : Port) (s : State) : Bool := s.link.outs[p].burst.length < Config.burstCapacity

/-- The burst cursor moves to the next entry. -/
def advanceBurst (s : State) : State :=
  modifyChange (fun c => { c with burstCursor := c.burstCursor + 1, selectPlaced := false }) s

/-- R111: the Sound Select of a burst entry. -/
def entrySelect (e : BurstEntry) : Frame := .soundSelect e.lane e.bank e.sound

/-- R111: the level Control of a burst entry: control number 16, value level × 129. -/
def entryLevel (e : BurstEntry) : Frame := .control e.lane 16#8 (BitVec.ofNat 16 (e.level.toNat * 129))

/-- R26, R111, R128: the port an entry at the burst cursor places frames on; none where it is passed over. -/
def entryPort (e : BurstEntry) (s : State) : Option Port :=
  if e.skip then none
  else match portOfNat? e.port.toNat with
    | some p => if s.change.flushed[p] then none else some p
    | none => none

/-- R128: the entry at the burst cursor worked as far as room allows; the flag says that the cursor has moved on. -/
def placeEntry (e : BurstEntry) (s : State) : State × Bool :=
  match entryPort e s with
  | none => (advanceBurst s, true)
  | some p =>
    if !s.change.selectPlaced && !burstHasRoom p s then (s, false)
    else
      let s := if s.change.selectPlaced then s
        else modifyChange (fun c => { c with selectPlaced := true }) (pushBurst p (entrySelect e) s)
      if !e.hasLevel then (advanceBurst s, true)
      else if burstHasRoom p s then (advanceBurst (pushBurst p (entryLevel e) s), true)
      else (s, false)

/-- R128: entries placed in list order until one has no room. -/
def placeFrom : List BurstEntry → State → State
  | [], s => s
  | e :: es, s =>
    let (s, moved) := placeEntry e s
    if moved then placeFrom es s else s

/-- R128: while SWITCHING, the burst entries from the burst cursor on are placed as far as room allows. -/
def placeBursts (s : State) : State :=
  if s.change.state = .switching then placeFrom (s.change.active.block.bursts.drop s.change.burstCursor) s else s

/-- R129: the burst cursor has passed the last entry and no burst queue holds a frame. -/
def burstDone (s : State) : Bool :=
  s.change.active.block.bursts.length ≤ s.change.burstCursor
    && (List.finRange 8).all fun p => s.link.outs[p].burst.isEmpty

/-- R129: the change ends, the controller enters IDLE and takes the next request. -/
def endChange (s : State) : State :=
  if s.change.state = .switching && burstDone s then
    takeNext (modifyChange (fun c => { c with state := .idle, target := none }) s)
  else s

/-! ## The switch (R125–R127) -/

/-- R102, R126.3: the current override of each feed whose override is present in the new copy. -/
def applyOverrides (overrides : Vector (Option Override) 8) (t : Tempo) : Tempo :=
  { t with feeds := Vector.ofFn fun i =>
      match overrides[i] with
      | some o => { t.feeds[i] with override := o }
      | none => t.feeds[i] }

/-- R126.5: the tempo slot of the new copy, under tempo source SCENE. -/
def applyTempoSlot (slot : Option Slot) (s : State) : State :=
  match slot, s.settings.tempoSource with
  | some slot, .scene => modifyTempo (selectSlot slot) s
  | _, _ => s

/-- R76, R126.1: the leave policy of the scene being left. -/
def applyLeave (leave : LeavePolicy) (s : State) : State :=
  match leave with
  | .cut => releaseAll s
  | .carry => s

/-- R125: the controller's own parts of the switch to a copy. -/
def switchCopies (copy : SceneCopy) (tg : Target) (c : Change) : Change :=
  { c with
    state := .switching, target := some tg, staged := none, active := copy,
    cursorEntry := tg.entry, cursorScene := tg.scene, cursorPage := some tg.page,
    burstCursor := 0, selectPlaced := false, flushed := Vector.replicate 8 false,
    adjusted := false, keepStale := true, outcome := .ok, origin := some tg.origin }

/-- R126.4–R126.6: the single event of the tempo engine at a switch. -/
def switchTempo (m : SwitchMoment) (copy : SceneCopy) (song : Bool) (s : State) : State :=
  let s := if song then loadSongSlots copy.header.tempos s else s
  let s := applyTempoSlot copy.block.tempoSlot s
  if song then songReset m s else s

/-- R126.7, R127: START at a switch that finds the clock STOPPED, when the new copy has auto start on. -/
def autoStart (copy : SceneCopy) (s : State) : State := if copy.block.autoStart then doStart s else s

/-- R125–R128: the switch. The mute sources follow the active copy by themselves (State.muted). -/
def doSwitch (m : SwitchMoment) (s : State) : State :=
  match s.change.staged, s.change.target with
  | some copy, some tg =>
    let s := applyLeave s.change.active.block.leave s
    let s := modifyChange (switchCopies copy tg) s
    let s := modifyTempo (applyOverrides copy.block.overrides) s
    let s := switchTempo m copy tg.song s
    endChange (placeBursts (autoStart copy s))
  | _, _ => s

/-! ## The end of a fetch, boundaries and stops (R122–R124) -/

/-- R122, R123: the end of the fetch of a change. -/
def doFetchEnd (m : SwitchMoment) (s : State) : State :=
  match s.store.fetch, s.change.target with
  | some f, some tg =>
    if s.change.state = .fetching && fetchReading f s then
      let (result, repairs) := runFetch f tg.song s
      let s := countRepairs repairs (closeFetch s)
      match result with
      | .fault o => takeNext (endRequest o tg.origin s)
      | .copy copy =>
        let s := modifyChange (fun c => { c with staged := some copy, state := .waiting }) s
        if s.tempo.clock = .stopped ∨ s.change.active.block.changePoint = .immediate then doSwitch m s else s
    else s
  | _, _ => s

/-- A boundary as the tempo engine gives it (R98): whether it is a bar boundary, and the bar number that phrases are
counted by. -/
structure Boundary where
  bar    : Bool
  number : Nat
  deriving DecidableEq, Repr

/-- R98: a phrase boundary of length P. -/
def Boundary.phrase (b : Boundary) (p : Nat) : Bool := b.bar && (b.number - 1) % p == 0

/-- R124: whether a boundary meets a change point. -/
def pointMet (cp : ChangePoint) (b : Boundary) : Bool :=
  match cp with
  | .immediate => true
  | .beat => true
  | .bar => b.bar
  | .phrase2 => b.phrase 2
  | .phrase4 => b.phrase 4
  | .phrase8 => b.phrase 8

/-- R124: whether a boundary makes the switch. -/
def boundarySwitches (b : Boundary) (s : State) : Bool :=
  s.change.state == .waiting && pointMet s.change.active.block.changePoint b

/-- R92, R124: the stop given to the change controller, once the clock is STOPPED. -/
def giveStop (s : State) : State := if s.change.state = .waiting then doSwitch .midBeat s else s

end Sys2Proof.Machine
end

