-- ==== Sys2Proof/Machine/Clock.lean ====
section
/-! DEFINITION. The clock where it meets the change controller (spec 05): STOP, sub-ticks and beat boundaries, and the
CLICK TOGGLE pedal's choice. -/

namespace Sys2Proof.Machine

/-! ## STOP (R92) -/

/-- R92: the position that a stop keeps. -/
def stopPosition (t : Tempo) : Tempo :=
  match t.clock with
  | .countIn => { t with clock := .stopped, bar := 1, beat := 1, subTick := 0, countInBar := 0 }
  | _ => { t with clock := .stopped }

/-- R92, R191: what a stop does to the tempo engine: the position kept, a pending slot in effect at once, the meter that of
the slot in effect, the k of a ramp kept. T in effect becomes that of the slot in effect as it now stands; for a RAMP
it is T_k at the k kept, the tempo that CONTINUE runs at (DEDUCED, log entry 42). -/
def stopTempo (t : Tempo) : Tempo :=
  let t := { stopPosition t with boundaryBegan := false }
  match t.pendingSlot with
  | some slot => takeEffectStopped slot t
  | none =>
    let r := t.slots[t.inEffect]
    adjustPosition { t with meter := r.meter, tempo := beatTempo r t.rampBeat }

/-- R92: STOP; ignored while the clock is STOPPED. -/
def doStop (s : State) : State :=
  if s.tempo.clock = .stopped then s
  else
    let s := modifyTempo stopTempo s
    giveStop (offerTransport 2#8 s.tempo.bar s.tempo.beat s)

/-- R142: a CLICK TOGGLE press. -/
def doClickToggle (s : State) : State := if s.tempo.clock = .stopped then doStart s else doStop s

/-- R90, R97: what the three actions of a Transport frame or a CLICK request give the clock: 1 START, 2 STOP, 3
CONTINUE; none for any other. -/
def clockAction? (action : Byte) : Option (State → State) :=
  match action.toNat with
  | 1 => some doStart
  | 2 => some doStop
  | 3 => some doContinue
  | _ => none

/-! ## Sub-ticks and beat boundaries -/

/-- The last sub-tick of a beat. -/
def lastSubTick : Nat := 959

/-- R81, R99, R103: a sub-tick other than 0 of the beat begins. -/
def doSubTick (s : State) : State :=
  if s.tempo.clock ≠ .stopped ∧ s.tempo.subTick < lastSubTick then
    decideClicks (offerTick (modifyTempo (fun t => stepAccumulator { t with subTick := t.subTick + 1 }) s))
  else s

/-- R94, R95: the position advanced past the end of a beat, with the Transport START of a count-in that ends. -/
def advancePosition (s : State) : State :=
  let ends := s.tempo.clock == .countIn && (nextBeat s.countIn s.tempo).clock == .running
  let s := modifyTempo (fun t => carryClicks { nextBeat s.countIn t with subTick := 0 }) s
  if ends then offerTransport 1#8 1 1 s else s

/-- R98: the boundary that an advanced position gives. -/
def boundaryOf (t : Tempo) : Boundary :=
  { bar := t.beat == 1, number := if t.clock = .countIn then t.countInBar else t.bar }

/-- R96: whether a boundary that switches changes the song, and so resets the position. -/
def targetSong (s : State) : Bool :=
  match s.change.target with
  | some tg => tg.song
  | none => false

/-- R89, R94–R99, R103: the 960th sub-tick ends. The position advances, the boundary goes to the change controller, the
pedals are sampled, tempo and meter settle, and sub-tick 0 begins with its tick and its clicks. -/
def doBoundary (s : State) : State :=
  if s.tempo.clock ≠ .stopped ∧ s.tempo.subTick = lastSubTick then
    let s := advancePosition s
    let b := boundaryOf s.tempo
    let switches := boundarySwitches b s
    let reset := switches && targetSong s
    let s := if switches then doSwitch .boundary s else s
    let s := samplePedals s
    let s := modifyTempo (fun t => { stepAccumulator (settleTempo (b.bar || reset) t) with boundaryBegan := true }) s
    let s := offerTick s
    if reset then placeBeatClicks s else decideClicks s
  else s

end Sys2Proof.Machine
end

