-- ==== Sys2Proof/Machine/Link.lean ====
section
/-! DEFINITION. The inbound half of the rig link (spec 01, 1.2 and 1.3): the receivers, the classification of a frame that
has completed, and the waiting places of the service unit (R173). -/

namespace Sys2Proof.Machine

/-! ## Classification (R6–R10) -/

/-- The service unit changed. -/
def modifyService (f : Service → Service) (s : State) : State := s.setService (f s.service)

/-- R173: a request handed to the waiting place of a port, or dropped when the place holds one. -/
def placeRequest (p : Port) (w : Waiting) (s : State) : State :=
  match s.service.places[p] with
  | none => modifyService (fun u => { u with places := upd u.places p fun _ => some w }) s
  | some _ => countServiceOverrun p s

/-- R6: whether a request with this target unit is addressed to this part or to all parts. -/
def State.hears (s : State) (target : Byte) : Bool := target.toNat = s.settings.unitNumber || target = 15#8

/-- R6, R173: a Service Request passed on, unless it is addressed to this part. -/
def passRequest (p : Port) (w : Waiting) (s : State) : State :=
  if w.unit.toNat = s.settings.unitNumber then s else passOn p (.request w.unit w.tag w.code w.params) s

/-- R6, R173: a Service Request classified by its target unit: handed to the waiting place of its port when it is addressed
to this part or to all parts, and passed on when it is addressed to all parts or to another part. -/
def classifyRequest (p : Port) (w : Waiting) (s : State) : State :=
  passRequest p w (if s.hears w.unit then placeRequest p w s else s)

/-- R8: what the sound of a Sound Select asks for. -/
def selectChange? (sound : Byte) : Option (GotoKind × Nat) :=
  let n := sound.toNat
  if n ≤ 7 then some (.scene, n + 1)
  else if 64 ≤ n ∧ n ≤ 127 then some (.song, n - 63)
  else none

/-- R8: a Sound Select on a PLAY port. -/
def playSelect (p : Port) (sound : Byte) (s : State) : State :=
  if s.settings.inbound[p].selectAsChange then
    match selectChange? sound with
    | some (kind, number) => offerGoto kind number .select s
    | none => s
  else s

/-- R7: a Transport on a PLAY port. Its bar and beat are not used (R90). -/
def playTransport (p : Port) (action : Byte) (s : State) : State :=
  if s.settings.inbound[p].transportAccept then
    match clockAction? action with
    | some act => act s
    | none => s
  else s

/-- An event for the lane that a frame's lane byte names. -/
def onLane (lane : Byte) (f : Lane → State → State) (s : State) : State :=
  match laneOfNat? lane.toNat with
  | some l => f l s
  | none => s

/-- An event for the lane and the key that a frame names. -/
def onKey (lane key : Byte) (f : Lane → Key → State → State) (s : State) : State :=
  match laneOfNat? lane.toNat, keyOfNat? key.toNat with
  | some l, some k => f l k s
  | _, _ => s

/-- R7: a Control on a PLAY port; number 8 is sustain. -/
def playFrameControl (p : Port) (l : Lane) (number : Byte) (value : Half) (s : State) : State :=
  if number = 8#8 then zoneSustain p l value s else zoneControl p l number value s

/-- R7: a frame, other than a service frame, taken from a PLAY port. -/
def playFrame (p : Port) (f : Frame) (s : State) : State :=
  match f with
  | .strikeLong lane key v => onKey lane key (fun l k => zoneStrike p l k (.long v)) s
  | .strikeShort lane key v => onKey lane key (fun l k => zoneStrike p l k (.short v)) s
  | .releaseLong lane key v => onKey lane key (fun l k => zoneRelease p l k (.long v)) s
  | .releaseShort lane key v => onKey lane key (fun l k => zoneRelease p l k (.short v)) s
  | .control lane number value => onLane lane (fun l => playFrameControl p l number value) s
  | .soundSelect _ _ sound => playSelect p sound s
  | .transport action _ _ => playTransport p action s
  | .beatTick | .click .. | .portSilence => s
  | .request .. | .reply .. => s

/-- R9: a frame, other than a service frame, on a THRU port. -/
def thruFrame (p : Port) (f : Frame) (s : State) : State :=
  match s.settings.inbound[p].pass with
  | some q => offerPlay q { frame := f, source := .thru } s
  | none => s

/-- R6–R10: a frame that has passed its checks classified by the record of its port as it stands now. -/
def arrive (p : Port) (f : Frame) (s : State) : State :=
  match f with
  | .request target tag code params =>
    classifyRequest p { unit := target, tag := tag, code := code, params := params } s
  | .reply .. => passOn p f s
  | _ =>
    match s.settings.inbound[p].role with
    | .play => playFrame p f s
    | .thru => thruFrame p f s
    | .off => s

/-- The frame that a Strike row stands for. -/
def strikeRow (lane : Lane) (key : Key) : StrikeAmount → Frame
  | .long v => .strikeLong (laneByte lane) (keyByte key) v
  | .short v => .strikeShort (laneByte lane) (keyByte key) v

/-- The frame that a Release row stands for. -/
def releaseRow (lane : Lane) (key : Key) : ReleaseAmount → Frame
  | .long v => .releaseLong (laneByte lane) (keyByte key) v
  | .short v => .releaseShort (laneByte lane) (keyByte key) v

/-! ## Receivers (R1–R4) -/

/-- A receiver changed. -/
def setReceiver (p : Port) (r : Receiver) (s : State) : State :=
  s.setLink { s.link with receivers := upd s.link.receivers p fun _ => r }

/-- R4: a frame rejected: counted, LINK set, and the receiver in the state it goes to. -/
def reject (p : Port) (next : Receiver) (s : State) : State := setReceiver p next (countRejected p s)

/-- R2–R4: the L-th byte received: the frame is checked, and classified or rejected. One with a character error is
rejected whatever its bytes are. -/
def complete (p : Port) (bytes : List Byte) (failed : Bool) (s : State) : State :=
  if failed then reject p .sync s
  else
    match parseFrame bytes with
    | some f => arrive p f (setReceiver p .ready s)
    | none => reject p .sync s

/-- R1, R2, R4: a character on an inbound line. A length byte outside 3–64 is rejected at once. A character error rejects
the frame it falls in when that frame completes or is cut short; until then its character counts as one of the L, with
the bits it has, the length byte too (DEDUCED, log entry 48). -/
def receive (p : Port) (c : Byte) (stopBitFound : Bool) (s : State) : State :=
  match s.link.receivers[p] with
  | .sync => s
  | .ready =>
    if 3 ≤ c.toNat ∧ c.toNat ≤ 64 then setReceiver p (.receiving c.toNat [c] (!stopBitFound)) s
    else reject p .sync s
  | .receiving length held failed =>
    let failed := failed || !stopBitFound
    if (held ++ [c]).length < length then setReceiver p (.receiving length (held ++ [c]) failed) s
    else complete p (held ++ [c]) failed s

/-- R1: the line of a receiver in SYNC has been idle for 60 µs. -/
def resync (p : Port) (s : State) : State :=
  match s.link.receivers[p] with
  | .sync => setReceiver p .ready s
  | _ => s

/-- R2: the line of a receiver in RECEIVING has been idle for 60 µs. -/
def cutShort (p : Port) (s : State) : State :=
  match s.link.receivers[p] with
  | .receiving .. => reject p .ready s
  | _ => s

end Sys2Proof.Machine
end

