-- ==== Sys2Proof/Machine/Arbiter.lean ====
section
/-! DEFINITION. The outbound half of the rig link (spec 01, 1.5 and 1.7): the transmit arbiter, the end of a frame, and
the flush of a port. -/

namespace Sys2Proof.Machine

/-! ## Choosing the next frame (R17–R19) -/

/-- R19: whether a settle window holds a frame back. -/
def heldByWindow : Frame → Bool
  | .strikeLong .. | .strikeShort .. | .control .. => true
  | _ => false

/-- R17: whether the head of a queue is eligible. -/
def headEligible (window : Option Nat) : List Queued → Bool
  | [] => false
  | q :: _ => !(window.isSome && heldByWindow q.frame)

/-- R18: step 3 of R17, the choice between the burst and the play head. -/
def chooseMusic (burstMode : Nat) (o : OutPort) : Option QueueName :=
  let b := headEligible o.window o.burst
  let p := headEligible o.window o.play
  if burstMode ≠ 0 ∧ 0 < o.interleave ∧ p then some .play
  else if b then some .burst
  else if p then some .play
  else none

/-- R17: the queue whose head the arbiter takes. -/
def chooseQueue (burstMode : Nat) (o : OutPort) : Option QueueName :=
  if headEligible o.window o.timing then some .timing
  else if headEligible o.window o.service && o.serviceWait == Config.serviceWaitLimit then some .service
  else match chooseMusic burstMode o with
    | some q => some q
    | none => if headEligible o.window o.service then some .service else none

/-- The frames of a queue. -/
def OutPort.queue (o : OutPort) : QueueName → List Queued
  | .timing => o.timing
  | .burst => o.burst
  | .play => o.play
  | .service => o.service

/-- A port with one queue replaced. -/
def OutPort.setQueue (o : OutPort) (q : QueueName) (l : List Queued) : OutPort :=
  match q with
  | .timing => { o with timing := l }
  | .burst => { o with burst := l }
  | .play => { o with play := l }
  | .service => { o with service := l }

/-- R17, R20: the head of a queue leaves it and is on the line; a frame that becomes head of the service queue sets the
wait count to 0 (when none does, the count is left: log entry 35). -/
def OutPort.start (o : OutPort) (q : QueueName) : OutPort :=
  match o.queue q with
  | [] => o
  | item :: rest =>
    { o.setQueue q rest with
      line := some { item := item, queue := q }
      serviceWait := if q = .service ∧ rest ≠ [] then 0 else o.serviceWait }

/-- R17, R19: whether a line is IDLE with its byte pacing gap passed. -/
def OutPort.ready (o : OutPort) : Bool := o.line.isNone && o.gap.isNone

/-- R17, R128, R129: a frame starts on a line. A burst frame that leaves its queue makes room for the burst, and may end
the change. -/
def startFrame (p : Port) (s : State) : State :=
  if s.link.outs[p].ready then
    match chooseQueue s.settings.outbound[p].burstMode s.link.outs[p] with
    | none => s
    | some q =>
      let s := modifyOut p (fun o => o.start q) s
      if q = .burst then endChange (placeBursts s) else s
  else s

/-! ## The end of a frame -/

/-- Whether a frame is a Sound Select. -/
def isSoundSelect : Frame → Bool
  | .soundSelect .. => true
  | _ => false

/-- R17: the service wait count after a frame of queue `q` has ended. -/
def waitAfter (o : OutPort) (q : QueueName) : Nat :=
  if q ≠ .service ∧ o.service ≠ [] then min (o.serviceWait + 1) Config.serviceWaitLimit else o.serviceWait

/-- R18: the interleave count after a frame of queue `q` has ended. -/
def interleaveAfter (burstMode : Nat) (o : OutPort) (q : QueueName) : Nat :=
  match q with
  | .burst => if burstMode = 0 then o.interleave else burstMode
  | .play => if burstMode = 0 then o.interleave else o.interleave - 1
  | _ => o.interleave

/-- R17–R20: the port after the last character of the frame on its line. -/
def OutPort.ended (r : OutboundRecord) (sending : Sending) (o : OutPort) : OutPort :=
  { o with
    line := none
    gap := if r.pacing = 0 then none else some r.pacing
    window := if isSoundSelect sending.item.frame && r.settle != 0 then some r.settle else o.window
    serviceWait := waitAfter o sending.queue
    interleave := interleaveAfter r.burstMode o sending.queue }

/-- R17–R20, R184: the last character of a frame ends; that of an accepted RESTART's reply makes the restart due. -/
def endFrame (p : Port) (s : State) : State :=
  match s.link.outs[p].line with
  | none => s
  | some sending =>
    let s := modifyOut p (OutPort.ended s.settings.outbound[p] sending) s
    if sending.item.source = .restartReply then modifyService (fun u => { u with restart := .due }) s else s

/-- R19: the byte pacing gap of a port has passed. -/
def endGap (p : Port) (s : State) : State := modifyOut p (fun o => { o with gap := none }) s

/-- R19: the settle window of a port has ended. -/
def endWindow (p : Port) (s : State) : State := modifyOut p (fun o => { o with window := none }) s

/-! ## Flush (R25, R26) -/

/-- R25: the queues and counts of a flushed port, before its Port Silence. -/
def OutPort.flushed (o : OutPort) : OutPort :=
  { o with timing := [], burst := [], play := [], service := [], serviceWait := 0, interleave := 0 }

/-- The port of the entry at the burst cursor. -/
def cursorPort? (s : State) : Option Port :=
  match s.change.active.block.bursts[s.change.burstCursor]? with
  | some e => portOfNat? e.port.toNat
  | none => none

/-- R26: a flush taken while the controller is SWITCHING. -/
def flushChange (p : Port) (s : State) : State :=
  if s.change.state = .switching then
    let s := modifyChange (fun c => { c with flushed := upd c.flushed p fun _ => true }) s
    endChange (placeBursts (if cursorPort? s = some p then advanceBurst s else s))
  else s

/-- R25: the flush of a port. -/
def doFlush (p : Port) (s : State) : State :=
  let s := flushHeld p (modifyOut p OutPort.flushed s)
  flushChange p (pushPlay p { frame := .portSilence, source := .silence } s)

end Sys2Proof.Machine
end

