-- ==== Sys2Proof/Machine/Pedal.lean ====
section
/-! DEFINITION. The pedal inputs and the show-lock switch (spec 07). -/

namespace Sys2Proof.Machine

/-! ## Debouncers (R139) -/

/-- The latest moment the part has been told of. -/
def advanceTo (moment : Nat) (s : State) : State := s.setNow (max s.now moment)

/-- R139: the raw level of a contact changes at a moment; the time of its candidate starts at 0. -/
def Debouncer.contact (d : Debouncer) (level : Level) (now : Nat) : Debouncer :=
  if d.raw = level then d else { d with raw := level, since := now }

/-- R139: whether a candidate is timing. -/
def Debouncer.timing (d : Debouncer) : Bool := d.settled != some d.raw

/-- R139: whether a candidate has run as long as a debounce, in ms. -/
def Debouncer.due (d : Debouncer) (debounce now : Nat) : Bool := d.timing && d.since + debounce * 1000 ≤ now

/-- R139: the candidate becomes the settled level. -/
def Debouncer.settle (d : Debouncer) : Debouncer := { d with settled := some d.raw }

/-- A pedal's debouncer changed. -/
def modifyContact (i : Pedal) (f : Debouncer → Debouncer) (s : State) : State :=
  s.setPedals { s.pedals with contacts := upd s.pedals.contacts i f }

/-! ## The functions (R141–R145) -/

/-- R143: SUSTAIN takes the pressed state: a sustain down with its forwarding list. -/
def holdFunction (r : PedalRecord) (s : State) : State :=
  match r.function with
  | .sustain => sustainDown r.argPort r.argLane (forwardingList s r.argPort r.argLane) s
  | _ => s

/-- R143, R148: a level function lets go. What MUTE HOLD and TEMPO BIT hold follows the pressed state by itself
(State.muteHeld, tempoBit). -/
def letGo (r : PedalRecord) (s : State) : State :=
  match r.function with
  | .sustain => sustainUp r.argPort r.argLane s
  | _ => s

/-- R142: the mute toggle of a port turned over. -/
def turnToggle (p : Port) (s : State) : State := modifyOut p (fun o => { o with muteToggle := !o.muteToggle }) s

/-- R141–R145: a press. -/
def pressPedal (r : PedalRecord) (s : State) : State :=
  match r.function with
  | .nextScene => offerStep .nextScene 0 .pedal s
  | .prevScene => offerStep .prevScene 0 .pedal s
  | .nextSong => offerStep .nextSong 0 .pedal s
  | .prevSong => offerStep .prevSong 0 .pedal s
  | .panic => doPanic s
  | .tap => doTap s.now s
  | .clickToggle => doClickToggle s
  | .muteToggle => turnToggle r.argPort s
  | .sustain | .muteHold | .tempoBit _ => holdFunction r s
  | .none => s

/-- R140: what a settling hands to the function: a press, a release, or, at the first settling, only the pressed state
of a level function (log entry 29). -/
def settledEdge (r : PedalRecord) (before after : Debouncer) (s : State) : State :=
  if before.settled.isNone then
    if pressedAs r after then holdFunction r s else s
  else if pressedAs r after && !pressedAs r before then pressPedal r s
  else if pressedAs r before && !pressedAs r after then letGo r s
  else s

/-- R139, R140: the candidate of a pedal settles. -/
def settlePedal (i : Pedal) (s : State) : State :=
  let d := s.pedals.contacts[i]
  settledEdge s.settings.pedals[i] d d.settle (modifyContact i Debouncer.settle s)

/-- R139: a candidate that has run its debounce settles now. -/
def settleIfDue (i : Pedal) (s : State) : State :=
  if s.pedals.contacts[i].due s.settings.pedals[i].debounce s.now then settlePedal i s else s

/-! ## The show-lock switch (R149) -/

/-- R149: the raw SHOWLOCK level changes. -/
def showLockContact (level : Level) (s : State) : State :=
  s.setPedals { s.pedals with showLock := s.pedals.showLock.contact level s.now }

/-- R149: the SHOWLOCK candidate settles when it has held for 20 ms. -/
def showLockSettle (s : State) : State :=
  if s.pedals.showLock.due Config.showLockDebounce s.now then
    s.setPedals { s.pedals with showLock := s.pedals.showLock.settle }
  else s

/-! ## Writing a pedal record (R147, R148) -/

/-- R147: whether a new record reassigns the pedal: its function, polarity or an argument changed. -/
def reassigns (old new : PedalRecord) : Bool :=
  old.function != new.function || old.polarity != new.polarity || old.argPort != new.argPort
    || old.argLane != new.argLane

/-- The settings changed. -/
def modifySettings (f : Settings → Settings) (s : State) : State := s.setSettings (f s.settings)

/-- The record of a pedal replaced. -/
def setPedalRecord (i : Pedal) (r : PedalRecord) (s : State) : State :=
  modifySettings (fun t => { t with pedals := upd t.pedals i fun _ => r }) s

/-- R148: the old record lets go, the new one takes hold. -/
def reassignPedal (i : Pedal) (new : PedalRecord) (s : State) : State :=
  let old := s.settings.pedals[i]
  let d := s.pedals.contacts[i]
  let s := if pressedAs old d then letGo old s else s
  let s := setPedalRecord i new s
  if pressedAs new d then holdFunction new s else s

/-- R139, R147, R148: a pedal record written. A candidate that has already run as long as a new debounce settles now,
under the new record. Where one request also changes the function, polarity or argument, the pedal is reassigned first
and the candidate settles after it, an order that no rule gives (DESIGN CHOICE, log entry 45). -/
def writePedal (i : Pedal) (new : PedalRecord) (s : State) : State :=
  let old := s.settings.pedals[i]
  let s := if reassigns old new then reassignPedal i new s else setPedalRecord i new s
  if old.debounce ≠ new.debounce then settleIfDue i s else s

end Sys2Proof.Machine
end

