-- ==== Sys2Proof/Machine/Service.lean ====
section
/-! DEFINITION. The service unit (spec 09, 9.2 and 9.3): outcome codes, replies, the taking of a request, and the requests
IDENTIFY, READ STATUS and READ COUNTERS. -/

namespace Sys2Proof.Machine

/-! ## Replies (R175, spec 11 section 11.3) -/

/-- The outcome codes (spec 09, 9.3). -/
inductive Outcome where
  | ok
  | queued
  | started
  | noChange
  | busy
  | pageProtected
  | locked
  | range
  | wrongMode
  | malformed
  | overflow
  | atEnd
  | noSet
  | damaged
  | empty
  | invalid
  | fault
  deriving DecidableEq, Repr

/-- The numbers of the outcome codes (spec 11, 11.3). -/
def Outcome.code : Outcome → Byte
  | .ok => 0#8
  | .queued => 1#8
  | .started => 2#8
  | .noChange => 3#8
  | .busy => 4#8
  | .pageProtected => 5#8
  | .locked => 6#8
  | .range => 7#8
  | .wrongMode => 8#8
  | .malformed => 9#8
  | .overflow => 10#8
  | .atEnd => 11#8
  | .noSet => 12#8
  | .damaged => 13#8
  | .empty => 14#8
  | .invalid => 15#8
  | .fault => 16#8

/-- What a request answers: its outcome and its data. -/
structure Answer where
  outcome : Outcome
  data    : List Byte
  deriving DecidableEq, Repr

/-- An answer without data. -/
def bare (o : Outcome) : Answer := { outcome := o, data := [] }

/-- A request that changes nothing. -/
def answerOnly (f : State → Answer) (s : State) : State × Answer := (s, f s)

/-- A request refused: nothing changes. -/
def refuse (o : Outcome) (s : State) : State × Answer := (s, bare o)

/-- R175: the Service Reply of a request. -/
def replyFrame (unit tag code : Byte) (a : Answer) : Frame := .reply unit tag code a.outcome.code a.data

/-! ## Taking a request (R174, R16) -/

/-- The request code of RESTART. -/
def restartCode : Byte := 0x4F#8

/-- The request code of PAGE READ. -/
def pageReadCode : Byte := 0x2B#8

/-- R174: the service time after a request of this code (log entry 26). -/
def serviceTimeOf (code : Byte) : Nat := if code = pageReadCode then Config.pageReadTime else Config.serviceTime

/-- R184: the reply of an accepted RESTART is the one whose end makes the restart. -/
def replySource (code : Byte) (a : Answer) : Source :=
  if code = restartCode ∧ a.outcome = .ok then .restartReply else .reply

/-- R16, R174, R175: a request taken from INp: carried out whole with its reply placed at the same moment, or dropped when
the service queue of OUTp is full. -/
def takeRequest (p : Port) (unit tag code : Byte) (op : State → State × Answer) (s : State) : State :=
  if serviceHasRoom p s then
    let r := op s
    modifyService (fun u => { u with busy := some (serviceTimeOf code), pointer := p })
      (pushService p { frame := replyFrame unit tag code r.2, source := replySource code r.2 } r.1)
  else modifyService (fun u => { u with pointer := p }) (countServiceOverrun p s)

/-- R174, R184: whether the service unit takes requests now. -/
def State.serviceFree (s : State) : Bool := s.service.busy.isNone && s.service.restart == .none

/-- R174: the place of a port in the order in which ports are considered: 0 for the port after the pointer, 7 for the
pointer's own. -/
def turnOf (pointer p : Port) : Nat := (p.val + 7 - pointer.val) % 8

/-- R174: whether a request that completes on INp is the one a free service unit takes next: nothing waits in the place of
INp or of a port considered before it. -/
def takenNext (p : Port) (u : Service) : Bool :=
  ∀ q : Port, turnOf u.pointer q ≤ turnOf u.pointer p → u.places[q] = none

/-- R176: a request is checked for form before its own checks. -/
def checkedForm (r : Request) (op : State → State × Answer) : State → State × Answer :=
  if r.formOk then op else refuse .malformed

/-- R6, R173, R174: a request row, a request of the catalogue that completes on its port. It is classified by its target
unit like any request: passed on when it is addressed to all parts or to another part. When it is addressed to this part
or to all parts, a free unit takes it at once, once it has been passed on, if it is the next in round-robin order;
otherwise it waits in the place of its port, or is dropped when the place is full (log entry 3). -/
def serveCode (h : Head) (code : Byte) (params : List Byte) (op : State → State × Answer) (s : State) : State :=
  let w : Waiting := { unit := h.unit, tag := h.tag, code := code, params := params }
  if s.hears h.unit && s.serviceFree && takenNext h.port s.service then
    takeRequest h.port h.unit h.tag code op (passRequest h.port w s)
  else classifyRequest h.port w s

/-- A request row of the catalogue. -/
def serve (h : Head) (r : Request) (op : State → State × Answer) (s : State) : State :=
  serveCode h r.code r.params (checkedForm r op) s

/-! ## IDENTIFY (R178) -/

/-- R178. -/
def opIdentify (s : State) : State × Answer :=
  (s, { outcome := .ok
        data := [Config.vendorCode, Config.partCode, Config.revision, natByte s.settings.unitNumber,
          Config.pageCount] })

/-! ## READ STATUS (R188, R191) -/

/-- Spec 11, 11.3: status record byte 0. -/
def controllerByte : ControllerState → Byte
  | .idle => 0#8
  | .fetching => 1#8
  | .waiting => 2#8
  | .switching => 3#8

/-- Spec 11, 11.3: status record byte 5, by the outcome codes. -/
def changeOutcomeCode : ChangeOutcome → Outcome
  | .ok => .ok
  | .atEnd => .atEnd
  | .noSet => .noSet
  | .range => .range
  | .empty => .empty
  | .damaged => .damaged
  | .invalid => .invalid

/-- Spec 11, 11.3: status record byte 6. -/
def originByte : Option Origin → Byte
  | none => 0#8
  | some .pedal => 1#8
  | some .select => 2#8
  | some .service => 3#8

/-- Spec 11, 11.3: status record byte 7. -/
def storeByte : StoreState → Byte
  | .idle => 0#8
  | .loading => 1#8
  | .committing => 2#8
  | .clearing => 3#8
  | .suspended => 4#8

/-- Spec 11, 11.3: status record byte 8, by the outcome codes. -/
def storeOutcomeCode : StoreOutcome → Outcome
  | .ok => .ok
  | .fault => .fault

/-- Spec 11, 11.3: status record byte 11. -/
def clockByte : ClockState → Byte
  | .stopped => 0#8
  | .countIn => 1#8
  | .running => 2#8

/-- The flags byte: bit 0 LINK, bit 1 OVERRUN, bit 2 STORE, bit 3 CHANGE. -/
def flagsByte (f : Status) : Byte :=
  natByte (boolNat f.link + 2 * boolNat f.overrun + 4 * boolNat f.store + 8 * boolNat f.change)

/-- R191, spec 11 section 11.3: the 24 bytes of the status record. -/
def statusRecord (s : State) : List Byte :=
  [controllerByte s.change.state, natByte s.change.queue.length, natByte s.change.cursorEntry,
    natByte s.change.cursorScene, natByte (boolNat s.change.adjusted), (changeOutcomeCode s.change.outcome).code,
    originByte s.change.origin, storeByte s.storeState, (storeOutcomeCode s.store.lastOutcome).code,
    natByte (boolNat s.store.lock), natByte (boolNat s.switchOn), clockByte s.tempo.clock]
    ++ natBytes s.tempo.bar ++ [natByte s.tempo.beat] ++ natBytes s.tempo.subTick
    ++ [natByte s.tempo.countInBar, natByte s.tempo.inEffect.val] ++ natBytes s.tempo.tempo
    ++ [natByte s.held.table.length, byteOfPorts s.muted, flagsByte s.status]

/-- R188: the flags that a clear option names cleared. -/
def clearFlags (c : Byte) (f : Status) : Status :=
  { f with
    link := f.link && !c.getLsbD 0, overrun := f.overrun && !c.getLsbD 1, store := f.store && !c.getLsbD 2,
    change := f.change && !c.getLsbD 3 }

/-- R188. -/
def opReadStatus (clear : Option Byte) (s : State) : State × Answer :=
  let c := clear.getD 0#8
  if 16 ≤ c.toNat then refuse .range s
  else (s.setStatus (clearFlags c s.status), { outcome := .ok, data := statusRecord s })

/-! ## READ COUNTERS (R190) -/

/-- R190: the counters of a selector: those of a port, or of the device. -/
def countersOf (port : Option Port) (f : Status) : List Nat :=
  match port with
  | some p => [f.rejected[p], f.playDrops[p], f.timingSlips[p], f.serviceOverruns[p]]
  | none => [f.heldOverflows, f.changeOverflows, f.fetchRepairs]

/-- R190: the counters of a selector set to 0. -/
def clearCounters (port : Option Port) (f : Status) : Status :=
  match port with
  | some p =>
    { f with
      rejected := upd f.rejected p fun _ => 0, playDrops := upd f.playDrops p fun _ => 0,
      timingSlips := upd f.timingSlips p fun _ => 0, serviceOverruns := upd f.serviceOverruns p fun _ => 0 }
  | none => { f with heldOverflows := 0, changeOverflows := 0, fetchRepairs := 0 }

/-- R190: the selector: 0 the device, 1–8 a port. -/
def selector? : Nat → Option (Option Port)
  | 0 => some none
  | n => (portOfNat? n).map some

/-- R190. -/
def opReadCounters (selector clear : Byte) (s : State) : State × Answer :=
  match selector? selector.toNat, natBool? clear.toNat with
  | some port, some clear =>
    (if clear then s.setStatus (clearCounters port s.status) else s,
      { outcome := .ok, data := (countersOf port s.status).flatMap natBytes })
  | _, _ => refuse .range s

end Sys2Proof.Machine
end

