-- ==== Sys2Proof/Machine/SettingRequests.lean ====
section
/-! DEFINITION. The requests over the working settings, curve memory and the set list: READ SETTING and WRITE SETTING
(R179–R182), READ CURVE and WRITE CURVE (R58–R60), READ SET LIST and WRITE SET LIST (R183, R114). -/

namespace Sys2Proof.Machine

/-! ## Setting records (R179) -/

/-- The seven setting items (spec 11, 11.3). -/
inductive SettingItem where
  | inboundPort (i : Port)
  | outboundPort (i : Port)
  | pedal (i : Pedal)
  | feed (i : Port)
  | tempoSlot (i : Slot)
  | unitNumber
  | tempoSource
  deriving DecidableEq, Repr

/-- R179: the pedal that an index names. -/
def pedalOfNat? (n : Nat) : Option Pedal := if h : 1 ≤ n ∧ n ≤ 6 then some ⟨n - 1, by omega⟩ else none

/-- R179: the tempo slot that an index names, 4–15. -/
def itemSlot? (n : Nat) : Option Slot := if 4 ≤ n then slotOfNat? n else none

/-- R179, R180: the record of an item code and an index; none for an unknown item or an index outside its range. -/
def settingItem? (item index : Nat) : Option SettingItem :=
  match item with
  | 1 => (portOfNat? index).map .inboundPort
  | 2 => (portOfNat? index).map .outboundPort
  | 3 => (pedalOfNat? index).map .pedal
  | 4 => (portOfNat? index).map .feed
  | 5 => (itemSlot? index).map .tempoSlot
  | 6 => if index = 1 then some .unitNumber else none
  | 7 => if index = 1 then some .tempoSource else none
  | _ => none

/-- R179, R182: the field values of a record as they stand. -/
def itemFields (s : State) : SettingItem → List Nat
  | .inboundPort i => s.settings.inbound[i].fields
  | .outboundPort i => s.settings.outbound[i].fields
  | .pedal i => s.settings.pedals[i].fields
  | .feed i => s.settings.feeds[i].fields
  | .tempoSlot i => s.tempo.slots[i].fields
  | .unitNumber => [s.settings.unitNumber]
  | .tempoSource => [s.settings.tempoSource.code]

/-! ## READ SETTING (R182) -/

/-- R182. -/
def opReadSetting (item index start count : Byte) (s : State) : State × Answer :=
  match settingItem? item.toNat index.toNat with
  | none => refuse .range s
  | some it =>
    let fields := itemFields s it
    if start.toNat = 0 ∨ fields.length < start.toNat ∨ count.toNat = 0 then refuse .range s
    else
      let given := (fields.drop (start.toNat - 1)).take count.toNat
      (s, { outcome := if given.length < count.toNat then .range else .ok
            data := natByte given.length :: given.flatMap natBytes })

/-! ## WRITE SETTING (R180, R181) -/

/-- R180: the fields of a record with a run of values written from a start field; none where rules 3 and 4 refuse. -/
def writtenFields? (fields : List Nat) (start : Nat) (values : List Nat) : Option (List Nat) :=
  if start = 0 ∨ fields.length < start then none
  else if fields.length < start - 1 + values.length then none
  else some (fields.take (start - 1) ++ values ++ fields.drop (start - 1 + values.length))

/-- R180, R181: a WRITE SETTING of a record: refused with RANGE, or written whole, the reply giving the written fields as
they now stand. `of?` checks and builds the record, `write` writes it, `after` gives the record's fields. -/
def writeRecord {α : Type} (of? : List Nat → Option α) (fieldsOf : α → List Nat) (write : α → State → State) (old : α)
    (start : Byte) (values : List Half) (s : State) : State × Answer :=
  match writtenFields? (fieldsOf old) start.toNat (values.map BitVec.toNat) with
  | none => refuse .range s
  | some fields =>
    match of? fields with
    | none => refuse .range s
    | some new =>
      (write new s,
        { outcome := .ok
          data := (((fieldsOf new).drop (start.toNat - 1)).take values.length).flatMap natBytes })

/-- R11: an inbound port record written. -/
def writeInbound (i : Port) (r : InboundRecord) (s : State) : State :=
  modifySettings (fun t => { t with inbound := upd t.inbound i fun _ => r }) s

/-- R21: an outbound port record written; a new burst mode sets the interleave count to 0. -/
def writeOutbound (i : Port) (r : OutboundRecord) (s : State) : State :=
  let s' := modifySettings (fun t => { t with outbound := upd t.outbound i fun _ => r }) s
  if r.burstMode = s.settings.outbound[i].burstMode then s'
  else modifyOut i (fun o => { o with interleave := 0 }) s'

/-- R102: a feed record written; its current override is set from the record at once. -/
def writeFeed (i : Port) (r : FeedRecord) (s : State) : State :=
  modifyFeed i (fun f => { f with override := r.override })
    (modifySettings (fun t => { t with feeds := upd t.feeds i fun _ => r }) s)

/-- R88: a tempo slot written. -/
def writeSlot (i : Slot) (r : TempoRecord) (s : State) : State := modifyTempo (rewriteSlot i r) s

/-- R172: the unit number in its one field. -/
def unitOfFields? : List Nat → Option Nat
  | [n] => within? 0 14 n
  | _ => none

/-- R172: the unit number written. -/
def writeUnit (n : Nat) (s : State) : State := modifySettings (fun t => { t with unitNumber := n }) s

/-- R84: the tempo source in its one field. -/
def sourceOfFields? : List Nat → Option TempoSource
  | [n] => tempoSourceOfNat? n
  | _ => none

/-- R84: the tempo source written. -/
def writeSource (x : TempoSource) (s : State) : State := modifySettings (fun t => { t with tempoSource := x }) s

/-- WRITE SETTING of INBOUND PORT. -/
def opWriteInbound (index start : Byte) (values : List Half) (s : State) : State × Answer :=
  match portOfNat? index.toNat with
  | none => refuse .range s
  | some i =>
    writeRecord inboundOfFields? InboundRecord.fields (writeInbound i) s.settings.inbound[i] start values s

/-- WRITE SETTING of OUTBOUND PORT. -/
def opWriteOutbound (index start : Byte) (values : List Half) (s : State) : State × Answer :=
  match portOfNat? index.toNat with
  | none => refuse .range s
  | some i =>
    writeRecord outboundOfFields? OutboundRecord.fields (writeOutbound i) s.settings.outbound[i] start values s

/-- WRITE SETTING of PEDAL. -/
def opWritePedal (index start : Byte) (values : List Half) (s : State) : State × Answer :=
  match pedalOfNat? index.toNat with
  | none => refuse .range s
  | some i => writeRecord pedalOfFields? PedalRecord.fields (writePedal i) s.settings.pedals[i] start values s

/-- WRITE SETTING of FEED. -/
def opWriteFeed (index start : Byte) (values : List Half) (s : State) : State × Answer :=
  match portOfNat? index.toNat with
  | none => refuse .range s
  | some i => writeRecord feedOfFields? FeedRecord.fields (writeFeed i) s.settings.feeds[i] start values s

/-- WRITE SETTING of TEMPO SLOT. -/
def opWriteSlot (index start : Byte) (values : List Half) (s : State) : State × Answer :=
  match itemSlot? index.toNat with
  | none => refuse .range s
  | some i => writeRecord tempoOfFields? TempoRecord.fields (writeSlot i) s.tempo.slots[i] start values s

/-- WRITE SETTING of UNIT NUMBER. -/
def opWriteUnit (index start : Byte) (values : List Half) (s : State) : State × Answer :=
  if index = 1#8 then writeRecord unitOfFields? (fun n => [n]) writeUnit s.settings.unitNumber start values s
  else refuse .range s

/-- WRITE SETTING of TEMPO SOURCE. -/
def opWriteSource (index start : Byte) (values : List Half) (s : State) : State × Answer :=
  if index = 1#8 then
    writeRecord sourceOfFields? (fun x => [x.code]) writeSource s.settings.tempoSource start values s
  else refuse .range s

/-- R180: WRITE SETTING by its item code; an unknown item gives RANGE. -/
def opWriteSetting (item index start : Byte) (values : List Half) (s : State) : State × Answer :=
  match item.toNat with
  | 1 => opWriteInbound index start values s
  | 2 => opWriteOutbound index start values s
  | 3 => opWritePedal index start values s
  | 4 => opWriteFeed index start values s
  | 5 => opWriteSlot index start values s
  | 6 => opWriteUnit index start values s
  | 7 => opWriteSource index start values s
  | _ => refuse .range s

/-! ## Curves (R55, R58–R60) -/

/-- R55: the points of a partition; those of partition 0 are the straight line. -/
def curvePoints (s : State) (partition : Nat) : List Nat :=
  match partition with
  | 0 => (List.range 129).map straightPoint
  | n + 1 =>
    match s.curves[n]? with
    | some points => points.toList
    | none => []

/-- R60. -/
def opReadCurve (partition start count : Byte) (s : State) : State × Answer :=
  if 15 < partition.toNat ∨ 128 < start.toNat ∨ ¬(1 ≤ count.toNat ∧ count.toNat ≤ 28) then
    (s, { outcome := .range, data := [0#8] })
  else
    let given := ((curvePoints s partition.toNat).drop start.toNat).take count.toNat
    (s, { outcome := if given.length < count.toNat then .range else .ok
          data := natByte given.length :: given.flatMap natBytes })

/-- R59: points written from a start point on, stopping at point 128. -/
def writePoints (points : Vector Nat 129) (start : Nat) : List Nat → Vector Nat 129
  | [] => points
  | v :: vs => writePoints (points.setIfInBounds start v) (start + 1) vs

/-- R59: how many of `n` points find a place from a start point on. -/
def pointsWritten (start n : Nat) : Nat := min n (129 - start)

/-- R58, R59. -/
def opWriteCurve (partition start : Byte) (points : List Half) (s : State) : State × Answer :=
  if h : 1 ≤ partition.toNat ∧ partition.toNat ≤ 15 then
    if 128 < start.toNat ∨ points.any (fun v => 1023 < v.toNat) then (s, { outcome := .range, data := [0#8] })
    else
      let written := pointsWritten start.toNat points.length
      let n : Fin 15 := ⟨partition.toNat - 1, by omega⟩
      (s.setCurves (upd s.curves n fun old => writePoints old start.toNat (points.map BitVec.toNat)),
        { outcome := if written < points.length then .range else .ok, data := [natByte written] })
  else (s, { outcome := .range, data := [0#8] })

/-! ## The set list (R183, R114) -/

/-- R183. -/
def opReadSetList (start count : Byte) (s : State) : State × Answer :=
  if ¬(1 ≤ start.toNat ∧ start.toNat ≤ 64) ∨ ¬(1 ≤ count.toNat ∧ count.toNat ≤ 54) then refuse .range s
  else
    let list := s.settings.setList
    let given := (list.drop (start.toNat - 1)).take count.toNat
    (s, { outcome := .ok
          data := [natByte list.length, natByte given.length] ++ given.map fun p => natByte (p.val + 1) })

/-- R114: the pages of a new set list, if every one is a song page and there are at most 64. -/
def setListOf? (pages : List (BitVec 7)) : Option (List SongPage) :=
  if 64 < pages.length then none else pages.mapM fun p => songPageOfNat? p.toNat

/-- R114, second case: the list emptied: the empty scene is active at once, with the parts of a switch that concern it. -/
def emptySetList (s : State) : State :=
  let s := applyLeave s.change.active.block.leave s
  let s := modifyChange (fun c =>
    { c with
      queue := [], staged := none, active := emptyScene, cursorEntry := 1, cursorScene := 1, cursorPage := none,
      burstCursor := 0, selectPlaced := false, adjusted := false, outcome := .noSet, origin := some .service }) s
  loadSongSlots [] s

/-- R114: a new list in place: its first song is asked for, or the empty scene taken. -/
def replaceSetList (list : List SongPage) (s : State) : State :=
  let s := modifySettings (fun t => { t with setList := list }) s
  match list with
  | [] => emptySetList s
  | _ :: _ => offerGoto .song 1 .service (modifyChange (fun c => { c with cursorEntry := 1 }) s)

/-- R114. -/
def opWriteSetList (pages : List (BitVec 7)) (s : State) : State × Answer :=
  if s.store.lock then refuse .locked s
  else if s.tempo.clock ≠ .stopped ∨ s.change.state ≠ .idle then refuse .busy s
  else
    match setListOf? pages with
    | none => refuse .range s
    | some list => (replaceSetList list s, bare .ok)

end Sys2Proof.Machine
end

