-- ==== Sys2Proof/Machine/StoreRequests.lean ====
section
/-! DEFINITION. The set store's requests, its operations and their ends, and its protection (spec 08, 8.2 to 8.5). -/

namespace Sys2Proof.Machine

/-! ## The page buffer (R153, R154) -/

/-- The offset that follows another in the buffer, wrapping from 4095 to 0. -/
def nextOffset (a : Nat) : Nat := (a + 1) % pageSize

/-- R153: bytes written into the buffer in list order. -/
def writeWrapped (m : Memory) (a : Nat) : List Byte → Memory
  | [] => m
  | b :: bs => writeWrapped (m.write a b) (nextOffset a) bs

/-- R154, R155: bytes of a page image from an offset on, wrapping. -/
def readWrapped (m : Memory) (a : Nat) (count : Nat) : List Byte :=
  (List.range count).map fun i => Memory.read m ((a + i) % pageSize)

/-- Whether the store is IDLE. -/
def State.storeIdle (s : State) : Bool := s.store.operation.isNone

/-- R153. -/
def opBufferWrite (offset : Half) (bytes : List Byte) (s : State) : State × Answer :=
  if pageSize ≤ offset.toNat then refuse .range s
  else if !s.storeIdle then refuse .busy s
  else (modifyStore (fun st => { st with buffer := writeWrapped st.buffer offset.toNat bytes }) s, bare .ok)

/-- The count of BUFFER READ and PAGE READ, 1–56. -/
def countOk (count : Byte) : Bool := 1 ≤ count.toNat && count.toNat ≤ 56

/-- R154. -/
def opBufferRead (offset : Half) (count : Byte) (s : State) : State × Answer :=
  if pageSize ≤ offset.toNat ∨ !countOk count then refuse .range s
  else (s, { outcome := .ok, data := readWrapped s.store.buffer offset.toNat count.toNat })

def PageClass.code : PageClass → Byte
  | .good => 0#8
  | .empty => 1#8
  | .damaged => 2#8
  | .invalid => 3#8

/-- R155. -/
def opPageRead (page : Byte) (offset : Half) (count : Byte) (s : State) : State × Answer :=
  if !s.storeIdle then refuse .busy s
  else
    match pageOfNat? page.toNat with
    | none => refuse .range s
    | some p =>
      if pageSize ≤ offset.toNat ∨ !countOk count then refuse .range s
      else
        (s, { outcome := .ok
              data := s.store.classes[p].code :: readWrapped (s.store.image p) offset.toNat count.toNat })

/-! ## Operations (R156–R159, R134) -/

/-- R163: whether a fetch is reading cells now, so that an operation accepted now stands SUSPENDED. -/
def fetchHoldsCells (s : State) : Bool :=
  match s.store.fetch with
  | some f => f.source == .cells
  | none => false

/-- R156, R163: an operation accepted. -/
def beginOperation (kind : OperationKind) (s : State) : State :=
  modifyStore (fun st =>
    { st with
      operation := some { kind := kind, begun := !fetchHoldsCells s, suspended := fetchHoldsCells s } }) s

/-- R156. -/
def opBufferLoad (page : Byte) (s : State) : State × Answer :=
  match pageOfNat? page.toNat with
  | none => refuse .range s
  | some p => if !s.storeIdle then refuse .busy s else (beginOperation (.load p) s, bare .started)

/-- R157, R193: a commit of the buffer accepted: its check is written into the buffer at once. -/
def beginCommit (p : Page) (s : State) : State :=
  beginOperation (.commit p) (modifyStore (fun st => { st with buffer := sealPage st.buffer }) s)

/-- R157. -/
def opCommit (page : Byte) (s : State) : State × Answer :=
  match pageOfNat? page.toNat with
  | none => refuse .range s
  | some p =>
    if !s.storeIdle then refuse .busy s
    else if s.store.protect[p] then refuse .pageProtected s
    else (beginCommit p s, bare .started)

/-- R158. -/
def opClear (page : Byte) (s : State) : State × Answer :=
  match pageOfNat? page.toNat with
  | none => refuse .range s
  | some p =>
    if !s.storeIdle then refuse .busy s
    else if s.store.protect[p] then refuse .pageProtected s
    else (beginOperation (.clear p) s, bare .started)

/-- R159: a page built from a working copy, and its commit. -/
def storeBuilt (p : Page) (bytes : List Byte) (s : State) : State × Answer :=
  if !s.storeIdle then refuse .busy s
  else if s.store.protect[p] then refuse .pageProtected s
  else (beginCommit p (modifyStore (fun st => { st with buffer := Memory.ofBytes 0 bytes }) s), bare .started)

/-- R159: STORE SETTINGS. -/
def opStoreSettings (s : State) : State × Answer := storeBuilt settingsPage (settingsBytes s.settings s.tempo.slots) s

/-- R159: STORE CURVES. -/
def opStoreCurves (s : State) : State × Answer := storeBuilt curvesPage (curveBytes s.curves) s

/-- R134: the slots that KEEP ADJUSTMENTS captures: 0 up to the slot in effect, when that is one of 0–3. -/
def capturedSlots (t : Tempo) : List TempoRecord :=
  if t.inEffect.val < 4 then t.slots.toList.take (t.inEffect.val + 1) else []

/-- R134. -/
def opKeep (s : State) : State × Answer :=
  match s.emptyActive, s.change.cursorPage with
  | false, some p =>
    if !s.storeIdle then refuse .busy s
    else if s.store.protect[p] then refuse .pageProtected s
    else
      (beginOperation
        (.keepLoad
          { page := p, scene := s.change.cursorScene, block := s.change.active.block, slots := capturedSlots s.tempo })
        (modifyChange (fun c => { c with keepStale := false }) s), bare .started)
  | _, _ => refuse .noSet s

/-! ## Protection (R165–R169) -/

/-- Whether a page is the page under operation. -/
def underOperation (p : Page) (s : State) : Bool :=
  match s.store.operation with
  | some op => op.kind.page == p
  | none => false

/-- R165: PROTECT and UNPROTECT. -/
def opProtectOne (on : Bool) (page : Byte) (s : State) : State × Answer :=
  if s.store.lock then refuse .locked s
  else
    match pageOfNat? page.toNat with
    | none => refuse .range s
    | some p =>
      if underOperation p s then refuse .busy s
      else if s.store.protect[p] = on then refuse .noChange s
      else (modifyStore (fun st => { st with protect := upd st.protect p fun _ => on }) s, bare .ok)

/-- R166: PROTECT ALL and UNPROTECT ALL. -/
def opProtectAll (on : Bool) (s : State) : State × Answer :=
  if s.store.lock then refuse .locked s
  else if !s.storeIdle then refuse .busy s
  else if s.store.protect.all (· == on) then refuse .noChange s
  else (modifyStore (fun st => { st with protect := Vector.replicate 66 on }) s, bare .ok)

/-- R167: LOCK. -/
def opLock (s : State) : State × Answer :=
  if s.store.lock then refuse .noChange s
  else (modifyStore (fun st => { st with lock := true }) s, bare .ok)

/-- R168: UNLOCK. -/
def opUnlock (s : State) : State × Answer :=
  if !s.store.lock then refuse .noChange s
  else if s.switchOn then refuse .locked s
  else (modifyStore (fun st => { st with lock := false }) s, bare .ok)

/-- Byte `i` of the protect flags: page p at byte (p − 1) div 8, bit (p − 1) mod 8. -/
def protectByte (flags : Vector Bool 66) (i : Nat) : Byte :=
  natByte ((List.range 8).map fun b => if flags[8 * i + b]?.getD false then 2 ^ b else 0).sum

/-- R169, spec 11 section 11.3. -/
def opReadProtection (s : State) : State × Answer :=
  (s, { outcome := .ok
        data := (List.range 9).map (protectByte s.store.protect)
          ++ [natByte (boolNat s.store.lock), natByte (boolNat s.switchOn)] })

/-! ## The ends of operations (R156–R160, R162, R163) -/

/-- R163: the operation in flight stops for the fetch that waits for it. -/
def suspendOperation (s : State) : State :=
  match s.store.fetch with
  | none => s
  | some f =>
    if awaitsSuspension f s then
      modifyStore (fun st => { st with operation := st.operation.map fun op => { op with suspended := true } }) s
    else s

/-- The operation that is at work on its page now. -/
def runningOperation? (s : State) : Option OperationKind :=
  match s.store.operation with
  | none => none
  | some op => if op.begun && !op.suspended then some op.kind else none

/-- R156: an operation ends: the last store outcome, and IDLE. -/
def endOperation (o : StoreOutcome) (s : State) : State :=
  modifyStore (fun st => { st with operation := none, lastOutcome := o }) s

/-- R160: an operation ends FAULT, which sets STORE. -/
def faultOperation (s : State) : State := flagStore (endOperation .fault s)

/-- R156: a page replaces the buffer whole. -/
def loadBuffer (p : Page) (s : State) : State := modifyStore (fun st => { st with buffer := st.image p }) s

/-- R156: a BUFFER LOAD ends. -/
def endLoad (s : State) : State :=
  match runningOperation? s with
  | some (.load p) =>
    let s := loadBuffer p s
    redecideFetch (if s.store.classes[p] = .damaged then faultOperation s else endOperation .ok s)
  | _ => s

/-- R135: the captured scene and slots written into the buffer, with the page check. -/
def patchBuffer (c : KeepCapture) (buffer : Memory) : Memory :=
  sealPage (patchSlots (patchScene buffer c.scene c.block) c.slots)

/-- R135, R156: the load step of KEEP ADJUSTMENTS ends. -/
def endKeepLoad (s : State) : State :=
  match runningOperation? s with
  | some (.keepLoad c) =>
    let s := loadBuffer c.page s
    redecideFetch
      (if s.store.classes[c.page] ≠ .good ∨ sceneCountOf s.store.buffer < c.scene then faultOperation s
       else
        modifyStore (fun st =>
          { st with
            buffer := patchBuffer c st.buffer
            operation := some { kind := .keepCommit c, begun := true, suspended := false } }) s)
  | _ => s

/-- The cells that lie in one page. -/
def inPage (cells : List Host.Cell) : List Host.Cell := cells.filter fun c => c.1 < pageSize

/-- R152, R157, R160: what a page holds when an operation on it has ended: the bytes that were read back, a class, and no
cut-off mark (log entry 12). -/
def setPage (p : Page) (image : Memory) (c : PageClass) (s : State) : State :=
  modifyStore (fun st =>
    { st.setImage p image with
      classes := upd st.classes p fun _ => c
      cutMarks := upd st.cutMarks p fun _ => false }) s

/-- R157, R160: a commit ends. The page reads back as the buffer but for the deviations (log entry 10). -/
def finishCommit (p : Page) (deviations : List Host.Cell) (s : State) : State :=
  let image := Memory.overlay s.store.buffer (inPage deviations)
  if image = s.store.buffer then endOperation .ok (setPage p image (committedClass p image) s)
  else faultOperation (setPage p image .damaged s)

/-- R136: the adjusted flag after a KEEP ADJUSTMENTS has ended. -/
def keepEnded (s : State) : State :=
  if s.store.lastOutcome = .ok ∧ !s.change.keepStale then modifyChange (fun c => { c with adjusted := false }) s else s

/-- R152, R157, R160: the end of the commit in flight, if one is at work. -/
def endCommit (deviations : List Host.Cell) (s : State) : State :=
  match runningOperation? s with
  | some (.commit p) => finishCommit p deviations s
  | some (.keepCommit c) => keepEnded (finishCommit c.page deviations s)
  | _ => s

/-- R158, R160: the end of the clear in flight, if one is at work. Every byte reads 0xFF but for the deviations. -/
def endClear (deviations : List Host.Cell) (s : State) : State :=
  match runningOperation? s with
  | some (.clear p) =>
    let image := Memory.overlay [] (inPage deviations)
    if image = [] then endOperation .ok (setPage p image .empty s) else faultOperation (setPage p image .damaged s)
  | _ => s

end Sys2Proof.Machine
end

