-- ==== Sys2Proof/Machine/Performance.lean ====
section
/-! DEFINITION. The performance requests (spec 09, 9.4): CHANGE, ADJUST, CLICK, SELECT TEMPO, PANIC, MUTE, FLUSH and
RESTART. -/

namespace Sys2Proof.Machine

/-! ## CHANGE (R115–R117) -/

/-- R115, R116: a stepping kind of CHANGE. -/
def opChangeStep (kind : StepKind) (number : Byte) (s : State) : State × Answer :=
  (offerStep kind number.toNat .service s, bare (if changeHasRoom s then .queued else .overflow))

/-- R115, R117: a GOTO kind of CHANGE. -/
def opChangeGoto (kind : GotoKind) (number : Byte) (s : State) : State × Answer :=
  (offerGoto kind number.toNat .service s, bare .queued)

/-- The code of a stepping kind (spec 11, 11.3). -/
def stepCode : StepKind → Byte
  | .nextScene => 1#8
  | .prevScene => 2#8
  | .nextSong => 3#8
  | .prevSong => 4#8

/-- The code of a GOTO kind (spec 11, 11.3). -/
def gotoCode : GotoKind → Byte
  | .scene => 5#8
  | .song => 6#8

/-- R115: CHANGE by its kind code. -/
def opChange (kind number : Byte) (s : State) : State × Answer :=
  match kind.toNat with
  | 1 => opChangeStep .nextScene number s
  | 2 => opChangeStep .prevScene number s
  | 3 => opChangeStep .nextSong number s
  | 4 => opChangeStep .prevSong number s
  | 5 => opChangeGoto .scene number s
  | 6 => opChangeGoto .song number s
  | _ => refuse .range s

/-! ## ADJUST (R131–R133, R42–R44) -/

/-- R131, R132: an item is set: the adjusted flag with it. -/
def adjusted (s : State) : State := modifyChange (fun c => { c with adjusted := true, keepStale := true }) s

/-- The scene block of the active copy changed. -/
def modifyBlock (f : SceneBlock → SceneBlock) (s : State) : State :=
  modifyChange (fun c => { c with active := { c.active with block := f c.active.block } }) s

/-- A zone of the active copy changed, by its list position 1–N. -/
def modifyZone (pos : Nat) (f : Zone → Zone) (s : State) : State :=
  modifyBlock (fun b => { b with zones := b.zones.modify (pos - 1) f }) s

/-- R131: the zone at a list position 1–N. -/
def zoneAtPosition (pos : Nat) (s : State) : Option Zone :=
  if pos = 0 then none else s.change.active.block.zones[pos - 1]?

/-- R131: a zone item: RANGE for a position or a value out of range, NO_CHANGE for the value held, else set. -/
def adjustZone (pos : Byte) (inRange : Zone → Bool) (holds : Zone → Bool) (set : Zone → Zone) (s : State) :
    State × Answer :=
  match zoneAtPosition pos.toNat s with
  | none => refuse .range s
  | some z =>
    if !inRange z then refuse .range s
    else if holds z then refuse .noChange s
    else (adjusted (modifyZone pos.toNat set s), bare .ok)

/-- ADJUST ZONE GAIN. -/
def opAdjustGain (zone : Byte) (value : Half) (s : State) : State × Answer :=
  adjustZone zone (fun _ => value.toNat ≤ 255) (fun z => z.gain.toNat == value.toNat)
    (fun z => { z with gain := natByte value.toNat }) s

/-- ADJUST ZONE OFFSET. -/
def opAdjustOffset (zone : Byte) (value : Half) (s : State) : State × Answer :=
  adjustZone zone (fun _ => -512 ≤ value.toInt && value.toInt ≤ 511) (fun z => z.offset == value)
    (fun z => { z with offset := value }) s

/-- ADJUST ZONE TRANSPOSE. -/
def opAdjustTranspose (zone : Byte) (value : Half) (s : State) : State × Answer :=
  adjustZone zone (fun _ => -48 ≤ value.toInt && value.toInt ≤ 48) (fun z => z.transpose.toInt == value.toInt)
    (fun z => { z with transpose := BitVec.ofInt 8 value.toInt }) s

/-- ADJUST ZONE ENABLED; a zone with the repaired mark cannot be turned on (R42). -/
def opAdjustEnabled (zone : Byte) (value : Half) (s : State) : State × Answer :=
  adjustZone zone (fun z => value.toNat ≤ 1 && !(value == 1#16 && z.repaired))
    (fun z => boolNat z.enabled == value.toNat) (fun z => { z with enabled := value == 1#16 }) s

/-- ADJUST MUTE SET: the value's low byte, bit n − 1 for OUTn (log entry 37). -/
def opAdjustMuteSet (target : Byte) (value : Half) (s : State) : State × Answer :=
  if target ≠ 0#8 then refuse .range s
  else if s.change.active.block.muteSet = loByte value then refuse .noChange s
  else (adjusted (modifyBlock (fun b => { b with muteSet := loByte value }) s), bare .ok)

/-- ADJUST FEED OVERRIDE: present in the active copy, and the feed's current override. -/
def opAdjustOverride (feed : Byte) (value : Half) (s : State) : State × Answer :=
  match portOfNat? feed.toNat, overrideOfNat? value.toNat with
  | some f, some o =>
    if s.change.active.block.overrides[f] = some o ∧ s.tempo.feeds[f].override = o then refuse .noChange s
    else
      (adjusted (modifyFeed f (fun x => { x with override := o })
        (modifyBlock (fun b => { b with overrides := upd b.overrides f fun _ => some o }) s)), bare .ok)
  | _, _ => refuse .range s

/-- R133: ADJUST TEMPO. -/
def opAdjustTempo (target : Byte) (value : Half) (s : State) : State × Answer :=
  match within? 4000 30000 value.toNat with
  | none => refuse .range s
  | some t =>
    let r := s.tempo.slots[s.tempo.inEffect]
    if target ≠ 0#8 then refuse .range s
    else if r.form = .steady ∧ r.t = t then refuse .noChange s
    else (adjusted (rewriteInEffect t s), bare .ok)

/-- R131: ADJUST by its item code; an unknown item gives RANGE. -/
def opAdjust (item target : Byte) (value : Half) (s : State) : State × Answer :=
  match item.toNat with
  | 1 => opAdjustGain target value s
  | 2 => opAdjustOffset target value s
  | 3 => opAdjustTranspose target value s
  | 4 => opAdjustEnabled target value s
  | 5 => opAdjustMuteSet target value s
  | 6 => opAdjustOverride target value s
  | 7 => opAdjustTempo target value s
  | _ => refuse .range s

/-! ## CLICK and SELECT TEMPO (R97, R85) -/

/-- CLICK START. -/
def opClickStart (s : State) : State × Answer :=
  if s.tempo.clock = .stopped then (doStart s, bare .ok) else refuse .noChange s

/-- CLICK STOP. -/
def opClickStop (s : State) : State × Answer :=
  if s.tempo.clock = .stopped then refuse .noChange s else (doStop s, bare .ok)

/-- CLICK CONTINUE. -/
def opClickContinue (s : State) : State × Answer :=
  if s.tempo.clock = .stopped then (doContinue s, bare .ok) else refuse .noChange s

/-- R97: CLICK by its action. -/
def opClick (action : Byte) (s : State) : State × Answer :=
  match action.toNat with
  | 1 => opClickStart s
  | 2 => opClickStop s
  | 3 => opClickContinue s
  | _ => refuse .range s

/-- R85. -/
def opSelectTempo (slot : Byte) (s : State) : State × Answer :=
  match s.settings.tempoSource with
  | .pedal => refuse .wrongMode s
  | .scene =>
    match slotOfNat? slot.toNat with
    | none => refuse .range s
    | some i =>
      if standingSlot s.tempo = i then refuse .noChange s else (modifyTempo (selectSlot i) s, bare .ok)

/-! ## PANIC, MUTE, FLUSH, RESTART (R79, R24, R25, R184) -/

/-- R79. -/
def opPanic (s : State) : State × Answer := (doPanic s, bare .ok)

/-- R24. -/
def opMute (port state : Byte) (s : State) : State × Answer :=
  match portOfNat? port.toNat, natBool? state.toNat with
  | some p, some on =>
    if s.link.outs[p].serviceMute = on then refuse .noChange s
    else (modifyOut p (fun o => { o with serviceMute := on }) s, bare .ok)
  | _, _ => refuse .range s

/-- R25. -/
def opFlush (port : Byte) (s : State) : State × Answer :=
  match portOfNat? port.toNat with
  | some p => (doFlush p s, bare .ok)
  | none => refuse .range s

/-- R184. -/
def opRestart (s : State) : State × Answer :=
  if !s.storeIdle then refuse .busy s
  else (modifyService (fun u => { u with restart := .accepted }) s, bare .ok)

/-! ## Requests taken from a waiting place (R174, R176) -/

/-- The carrying out of a request of the catalogue (spec 09, 9.4). -/
def perform : Request → State → State × Answer
  | .identify => opIdentify
  | .readStatus clear => opReadStatus clear
  | .readCounters selector clear => opReadCounters selector clear
  | .readSetting item index start count => opReadSetting item index start count
  | .writeSetting item index start values => opWriteSetting item index start values
  | .storeSettings => opStoreSettings
  | .readCurve partition start count => opReadCurve partition start count
  | .writeCurve partition start points => opWriteCurve partition start points
  | .storeCurves => opStoreCurves
  | .readSetList start count => opReadSetList start count
  | .writeSetList pages => opWriteSetList pages
  | .bufferWrite offset bytes => opBufferWrite offset bytes
  | .bufferRead offset count => opBufferRead offset count
  | .bufferLoad page => opBufferLoad page
  | .pageRead page offset count => opPageRead page offset count
  | .commit page => opCommit page
  | .clear page => opClear page
  | .protect page => opProtectOne true page
  | .unprotect page => opProtectOne false page
  | .protectAll => opProtectAll true
  | .unprotectAll => opProtectAll false
  | .lock => opLock
  | .unlock => opUnlock
  | .readProtection => opReadProtection
  | .change kind number => opChange kind number
  | .adjust item target value => opAdjust item target value
  | .keepAdjustments => opKeep
  | .click action => opClick action
  | .selectTempo slot => opSelectTempo slot
  | .panic => opPanic
  | .mute port state => opMute port state
  | .flush port => opFlush port
  | .restart => opRestart

/-- R176: a request by its code and parameter bytes: MALFORMED where they fit no form, else its own rule. -/
def performBytes (code : Byte) (params : List Byte) : State → State × Answer :=
  match parseRequest code params with
  | some r => checkedForm r (perform r)
  | none => refuse .malformed

/-- R174: the ports in the order they are considered: from the one after the pointer round to the pointer. -/
def portsAfter (p : Port) : List Port := (List.range 8).map fun i => ⟨(p.val + 1 + i) % 8, by omega⟩

/-- R174: the port whose request is taken next. -/
def nextServed? (u : Service) : Option Port := (portsAfter u.pointer).find? fun p => u.places[p].isSome

/-- R174, R16, R184: a free service unit takes the next waiting request. -/
def serviceTake (s : State) : State :=
  if s.serviceFree then
    match nextServed? s.service with
    | none => s
    | some p =>
      match s.service.places[p] with
      | none => s
      | some w =>
        takeRequest p w.unit w.tag w.code (performBytes w.code w.params)
          (modifyService (fun u => { u with places := upd u.places p fun _ => none }) s)
  else s

end Sys2Proof.Machine
end

