-- ==== Sys2Proof/Machine/Power.lean ====
section
/-! DEFINITION. Power-up, restart and loss of power (spec 08, 8.6; R80, R83, R137, R152, R185, R186). -/

namespace Sys2Proof.Machine

/-! ## What both power-up and restart do (R170, steps 2 to 4) -/

/-- R171: the settings page by its class. -/
def bootSettings (st : Store) : Settings :=
  if st.classes[settingsPage] = .good then settingsOfPage (Memory.read (st.image settingsPage)) else .default

/-- R83, R171: slots 4–15 by the class of the settings page. -/
def bootSlots (st : Store) : Vector TempoRecord 16 :=
  if st.classes[settingsPage] = .good then slotsOfPage (Memory.read (st.image settingsPage))
  else Vector.replicate 16 .default

/-- R56: the curve page by its class. -/
def bootCurves (st : Store) : Vector (Vector Nat 129) 15 :=
  if st.classes[curvesPage] = .good then curvesOfPage (Memory.read (st.image curvesPage)) else straightCurves

/-- What the power-up fetch gives (R137): the active copy, the outcome, the cursor page, the repairs counted, and whether
CHANGE is set. -/
structure BootScene where
  active  : SceneCopy
  outcome : ChangeOutcome
  page    : Option Page
  repairs : Nat
  failed  : Bool
  deriving DecidableEq, Repr

/-- R137: a failed power-up fetch. -/
def bootFailed (o : ChangeOutcome) : BootScene :=
  { active := emptyScene, outcome := o, page := none, repairs := 0, failed := true }

/-- R137, R170 step 4: the power-up fetch of scene 1 of the page of entry 1. -/
def bootScene (st : Store) (setList : List SongPage) : BootScene :=
  match setList with
  | [] => { active := emptyScene, outcome := .noSet, page := none, repairs := 0, failed := false }
  | first :: _ =>
    let p := songPage first
    match st.classes[p] with
    | .empty => bootFailed .empty
    | .damaged => bootFailed .damaged
    | .invalid => bootFailed .invalid
    | .good =>
      let rd := Memory.read (st.image p)
      let header := headerAt rd
      let block := sceneAt rd 1
      { active := { block := block.1, header := header.1, source := some (p, 1) }, outcome := .ok, page := some p,
        repairs := header.2 + block.2 + songSlotRepairs header.1.tempos, failed := false }

/-- R153, R156, R165, R167: the store at the start of work: every protect flag and the lock set, the buffer 0xFF, no
operation, no fetch. The cells, their marks and the classes stay. -/
def bootStore (st : Store) : Store :=
  { st with
    buffer := [], protect := Vector.replicate 66 true, lock := true, operation := none, lastOutcome := .ok,
    fetch := none }

/-- R139, R149: the debouncers UNSETTLED from a moment on, the contacts as they stand. -/
def bootPedals (p : Pedals) (now : Nat) : Pedals :=
  { contacts := p.contacts.map fun d => .fresh d.raw now, showLock := .fresh p.showLock.raw now }

/-- R170, R185: the part at work after its power-up or restart sequence, with these outbound ports and these flags. Every
counter is 0 but for the repairs of the power-up fetch (log entry 39). -/
def boot (outs : Vector OutPort 8) (flags : Status) (s : State) : State :=
  let st := s.store
  let settings := bootSettings st
  let scene := bootScene st settings.setList
  { power := true, now := s.now, freeTick := s.freeTick, settings := settings, curves := bootCurves st,
    link := { receivers := Vector.replicate 8 .sync, outs := outs },
    held := Held.empty,
    tempo := Tempo.fresh (songSlots scene.active.header.tempos (bootSlots st)) (settings.feeds.map (·.override)),
    change := Change.fresh scene.active scene.outcome scene.page,
    store := bootStore st,
    pedals := bootPedals s.pedals s.now,
    service := Service.fresh,
    status :=
      { Status.fresh with
        link := flags.link, overrun := flags.overrun, store := flags.store, change := flags.change || scene.failed,
        fetchRepairs := min scene.repairs Config.counterLimit },
    pending := s.pending }

/-! ## Loss of power (R152) -/

/-- R152: the page whose commit or clear has begun, and would be cut off. -/
def cutPage? (st : Store) : Option Page :=
  match st.operation with
  | none => none
  | some op =>
    if op.begun then
      match op.kind with
      | .commit p => some p
      | .keepCommit c => some c.page
      | .clear p => some p
      | .load _ | .keepLoad _ => none
    else none

/-- R152: what a loss of power leaves in the cells: the page of a commit or clear that had begun holds `torn` over what it
held, and its mark (log entry 11). -/
def cutOff (torn : List Host.Cell) (st : Store) : Store :=
  match cutPage? st with
  | none => st
  | some p =>
    { st.setImage p (Memory.overlay (st.image p) (inPage torn)) with cutMarks := upd st.cutMarks p fun _ => true }

/-- Power is removed: the cells and their marks stay, the contacts are outside the part, and all working state is lost
(log entries 11 and 13). -/
def losePower (torn : List Host.Cell) (s : State) : State :=
  let st := cutOff torn s.store
  { State.reset with
    power := false, now := s.now, freeTick := s.freeTick,
    store := { State.reset.store with cells := st.cells, cutMarks := st.cutMarks },
    pedals := bootPedals s.pedals s.now,
    pending := s.pending }

/-! ## Power-up (R170, R151) -/

/-- R151: the class of every page by its bytes. -/
def classifyAll (st : Store) : Vector PageClass 66 :=
  Vector.ofFn fun p => classify p st.cutMarks[p] (st.image p)

/-- R151, R186: all flags clear, but STORE when a page is classified DAMAGED. -/
def classifiedFlags (classes : Vector PageClass 66) : Status :=
  { Status.fresh with store := classes.any (· == .damaged) }

/-- R170: power is applied. Applied to a part at work it is a loss of power first (log entry 13). Moments are counted from
here (log entry 6), so the candidate time of every debouncer starts at 0 (R139, R149). -/
def doPowerUp (s : State) : State :=
  let s := (if s.power then losePower [] s else s).setNow 0
  let classes := classifyAll s.store
  boot (Vector.replicate 8 .fresh) (classifiedFlags classes) (modifyStore (fun st => { st with classes := classes }) s)

/-! ## Restart (R184, R185) -/

/-- R12, R17, R20, R185: an outbound port at a restart: a frame being sent is sent to its end, the queues are emptied, and
the gap counted from the last end is kept (log entry 15). -/
def restartPort (r : OutboundRecord) (o : OutPort) : OutPort :=
  { OutPort.fresh with
    gap := match o.line with
      | none => o.gap
      | some _ => if r.pacing = 0 then none else some r.pacing }

/-- R185: the restart, made when the reply of an accepted RESTART has ended. -/
def makeRestart (s : State) : State :=
  if s.service.restart = .due then
    boot (Vector.ofFn fun p => restartPort s.settings.outbound[p] s.link.outs[p]) s.status s
  else s

end Sys2Proof.Machine
end

