-- ==== Sys2Proof/Machine/EventCommands.lean ====
section
/-! DEFINITION. The meanings of the link, clock, contact, store-event and power commands, one definition per row of the
table. -/

namespace Sys2Proof.Machine

/-- A command that acts on a part at work; without power it changes nothing (log entry 13). -/
def powered (f : State → State) (s : State) : Host.Outcome State Fault Refusal := .next (if s.power then f s else s)

/-- R122, R123: the end of a fetch, at the moment of a beat boundary already taken or in mid-beat. -/
def fetchEnd (sameMoment : Bool) (s : State) : State :=
  doFetchEnd (if sameMoment && s.tempo.boundaryBegan && s.tempo.subTick == 0 then .afterBoundary else .midBeat) s

/-- R139: the raw level of a pedal's contact changes now. -/
def pedalContact (i : Pedal) (level : Level) (s : State) : State := modifyContact i (fun d => d.contact level s.now) s

/-! ## Power (spec 08, 8.6) -/

/-- R170: POWER_UP. -/
def execPowerUp (s : State) : Host.Outcome State Fault Refusal :=
  .next (doPowerUp s)

/-- R152: LOSS_OF_POWER, with what it leaves of the page under operation (log entry 11). -/
def execLossOfPower (torn : List Host.Cell) (s : State) : Host.Outcome State Fault Refusal :=
  powered (losePower torn) s

/-- R185: RESTART_MADE. -/
def execRestartMade (moment : Nat) (s : State) : Host.Outcome State Fault Refusal :=
  powered (fun s => makeRestart (advanceTo moment s)) s

/-! ## Reception (spec 01, 1.2 and 1.3) -/

/-- R1–R4: CHARACTER. -/
def execCharacter (port : Port) (c : Byte) (stopBitFound : Bool) (s : State) : Host.Outcome State Fault Refusal :=
  powered (receive port c stopBitFound) s

/-- R1: IDLE_RESYNC. -/
def execIdleResync (port : Port) (s : State) : Host.Outcome State Fault Refusal :=
  powered (resync port) s

/-- R2, R4: FRAME_CUT_SHORT. -/
def execFrameCutShort (port : Port) (s : State) : Host.Outcome State Fault Refusal :=
  powered (cutShort port) s

/-- R7, R29–R35: STRIKE, a Strike frame completing on a port (log entry 2). -/
def execStrike (port : Port) (lane : Lane) (key : Key) (amount : StrikeAmount) (s : State) :
    Host.Outcome State Fault Refusal :=
  powered (arrive port (strikeRow lane key amount)) s

/-- R7, R36: RELEASE. -/
def execRelease (port : Port) (lane : Lane) (key : Key) (amount : ReleaseAmount) (s : State) :
    Host.Outcome State Fault Refusal :=
  powered (arrive port (releaseRow lane key amount)) s

/-- R7, R37–R39: CONTROL. -/
def execControl (port : Port) (lane : Lane) (number : Byte) (value : Half) (s : State) :
    Host.Outcome State Fault Refusal :=
  powered (arrive port (.control (laneByte lane) number value)) s

/-- R7, R40: SUSTAIN_CONTROL, a Control with number 8. -/
def execSustainControl (port : Port) (lane : Lane) (value : Half) (s : State) : Host.Outcome State Fault Refusal :=
  powered (arrive port (.control (laneByte lane) 8#8 value)) s

/-- R8: SOUND_SELECT. -/
def execSoundSelect (port : Port) (lane : Lane) (bank : Half) (sound : Byte) (s : State) :
    Host.Outcome State Fault Refusal :=
  powered (arrive port (.soundSelect (laneByte lane) bank sound)) s

/-- R7, R90: TRANSPORT. -/
def execTransport (port : Port) (action : Byte) (bar : Half) (beat : Byte) (s : State) :
    Host.Outcome State Fault Refusal :=
  powered (arrive port (.transport action bar beat)) s

/-- R9: THRU_FRAME, any frame that completes on a port. -/
def execThruFrame (port : Port) (frame : Frame) (s : State) : Host.Outcome State Fault Refusal :=
  powered (arrive port frame) s

/-- R6, R173: SERVICE_REQUEST. -/
def execServiceRequest (port : Port) (target tag code : Byte) (params : List Byte) (s : State) :
    Host.Outcome State Fault Refusal :=
  powered (arrive port (.request target tag code params)) s

/-- R6: SERVICE_REPLY. -/
def execServiceReply (port : Port) (unit tag code outcome : Byte) (data : List Byte) (s : State) :
    Host.Outcome State Fault Refusal :=
  powered (arrive port (.reply unit tag code outcome data)) s

/-! ## Transmission (spec 01, 1.5; spec 04, 4.3) -/

/-- R17, R18, R20: FRAME_START. -/
def execFrameStart (port : Port) (s : State) : Host.Outcome State Fault Refusal :=
  powered (startFrame port) s

/-- R17–R20, R184: FRAME_END. -/
def execFrameEnd (port : Port) (s : State) : Host.Outcome State Fault Refusal :=
  powered (endFrame port) s

/-- R19: PACING_GAP_END. -/
def execPacingGapEnd (port : Port) (s : State) : Host.Outcome State Fault Refusal :=
  powered (endGap port) s

/-- R19: SETTLE_WINDOW_END. -/
def execSettleWindowEnd (port : Port) (s : State) : Host.Outcome State Fault Refusal :=
  powered (endWindow port) s

/-- R66, R67: RELEASE_DRAIN, the drain of a port run to its end (log entry 8). -/
def execReleaseDrain (port : Port) (s : State) : Host.Outcome State Fault Refusal :=
  powered (drainPort port) s

/-! ## The change controller (spec 06) -/

/-- R122, R123, R163: FETCH_END. `sameMoment` says that it falls at the moment of the beat boundary just taken
(log entry 22). -/
def execFetchEnd (sameMoment : Bool) (s : State) : Host.Outcome State Fault Refusal :=
  powered (fetchEnd sameMoment) s

/-- R128, R129: BURST_PLACE (log entry 9). -/
def execBurstPlace (s : State) : Host.Outcome State Fault Refusal :=
  powered (fun s => endChange (placeBursts s)) s

/-- R129: CHANGE_END (log entry 9). -/
def execChangeEnd (s : State) : Host.Outcome State Fault Refusal :=
  powered endChange s

/-! ## The clock (spec 05) -/

/-- R81, R99, R103: SUB_TICK. -/
def execSubTick (s : State) : Host.Outcome State Fault Refusal :=
  powered doSubTick s

/-- R89, R94, R95, R98: BEAT_BOUNDARY. -/
def execBeatBoundary (s : State) : Host.Outcome State Fault Refusal :=
  powered doBoundary s

/-! ## Contacts (spec 07) -/

/-- R139: PEDAL_CONTACT_CHANGE; the contacts are outside the part and change with the power off too. -/
def execPedalContactChange (pedal : Pedal) (level : Level) (moment : Nat) (s : State) :
    Host.Outcome State Fault Refusal :=
  .next (pedalContact pedal level (advanceTo moment s))

/-- R139, R140: PEDAL_SETTLED; it acts when a candidate has run its debounce. -/
def execPedalSettled (pedal : Pedal) (moment : Nat) (s : State) : Host.Outcome State Fault Refusal :=
  powered (fun s => settleIfDue pedal (advanceTo moment s)) s

/-- R149: SHOWLOCK_CONTACT_CHANGE. -/
def execShowlockContactChange (level : Level) (moment : Nat) (s : State) : Host.Outcome State Fault Refusal :=
  .next (showLockContact level (advanceTo moment s))

/-- R149: SHOWLOCK_SETTLED. -/
def execShowlockSettled (moment : Nat) (s : State) : Host.Outcome State Fault Refusal :=
  powered (fun s => showLockSettle (advanceTo moment s)) s

/-! ## Store events (spec 08, 8.3 and 8.4) -/

/-- R163: OPERATION_SUSPENDED. -/
def execOperationSuspended (s : State) : Host.Outcome State Fault Refusal :=
  powered suspendOperation s

/-- R156: BUFFER_LOAD_END. -/
def execBufferLoadEnd (s : State) : Host.Outcome State Fault Refusal :=
  powered endLoad s

/-- R135, R156: KEEP_LOAD_END. -/
def execKeepLoadEnd (s : State) : Host.Outcome State Fault Refusal :=
  powered endKeepLoad s

/-- R152, R157, R160, R136: COMMIT_END; `deviations` are the cells that read back otherwise than programmed (log
entry 10). -/
def execCommitEnd (deviations : List Host.Cell) (s : State) : Host.Outcome State Fault Refusal :=
  powered (endCommit deviations) s

/-- R152, R158, R160: CLEAR_END (log entry 10). -/
def execClearEnd (deviations : List Host.Cell) (s : State) : Host.Outcome State Fault Refusal :=
  powered (endClear deviations) s

end Sys2Proof.Machine
end

