-- ==== Sys2Proof/Machine/RequestCommands.lean ====
section
/-! DEFINITION. The meanings of the service unit's own commands and of the service requests, one definition per
row of the table. -/

namespace Sys2Proof.Machine

/-- R174, R16: SERVICE_TAKE. -/
def execServiceTake (moment : Nat) (s : State) : Host.Outcome State Fault Refusal :=
  powered (fun s => serviceTake (advanceTo moment s)) s

/-- R174: SERVICE_TIME_END: the unit is free again. -/
def execServiceTimeEnd (s : State) : Host.Outcome State Fault Refusal :=
  powered (modifyService fun u => { u with busy := none }) s

/-- R176: REQUEST_MALFORMED, a request by its code and parameter bytes. -/
def execRequestMalformed (head : Head) (code : Byte) (params : List Byte) (s : State) :
    Host.Outcome State Fault Refusal :=
  powered (serveCode head code params (performBytes code params)) s

/-- R178: IDENTIFY. -/
def execIdentify (head : Head) (s : State) : Host.Outcome State Fault Refusal :=
  powered (serve head .identify opIdentify) s

/-- R188, R191: READ_STATUS. -/
def execReadStatus (head : Head) (clear : Option Byte) (s : State) : Host.Outcome State Fault Refusal :=
  powered (serve head (.readStatus clear) (opReadStatus clear)) s

/-- R190: READ_COUNTERS. -/
def execReadCounters (head : Head) (selector clear : Byte) (s : State) : Host.Outcome State Fault Refusal :=
  powered (serve head (.readCounters selector clear) (opReadCounters selector clear)) s

/-- R182: READ_SETTING. -/
def execReadSetting (head : Head) (item index start count : Byte) (s : State) : Host.Outcome State Fault Refusal :=
  powered (serve head (.readSetting item index start count) (opReadSetting item index start count)) s

/-- R180, R181, R11: WRITE_SETTING_INBOUND_PORT. -/
def execWriteSettingInboundPort (head : Head) (index start : Byte) (values : List Half) (s : State) :
    Host.Outcome State Fault Refusal :=
  powered (serve head (.writeSetting 1#8 index start values) (opWriteInbound index start values)) s

/-- R180, R181, R21: WRITE_SETTING_OUTBOUND_PORT. -/
def execWriteSettingOutboundPort (head : Head) (index start : Byte) (values : List Half) (s : State) :
    Host.Outcome State Fault Refusal :=
  powered (serve head (.writeSetting 2#8 index start values) (opWriteOutbound index start values)) s

/-- R147, R148, R139: WRITE_SETTING_PEDAL. -/
def execWriteSettingPedal (head : Head) (index start : Byte) (values : List Half) (moment : Nat) (s : State) :
    Host.Outcome State Fault Refusal :=
  powered (fun s => serve head (.writeSetting 3#8 index start values) (opWritePedal index start values) (advanceTo moment s)) s

/-- R180, R181, R102: WRITE_SETTING_FEED. -/
def execWriteSettingFeed (head : Head) (index start : Byte) (values : List Half) (s : State) :
    Host.Outcome State Fault Refusal :=
  powered (serve head (.writeSetting 4#8 index start values) (opWriteFeed index start values)) s

/-- R180, R181, R88: WRITE_SETTING_TEMPO_SLOT. -/
def execWriteSettingTempoSlot (head : Head) (index start : Byte) (values : List Half) (s : State) :
    Host.Outcome State Fault Refusal :=
  powered (serve head (.writeSetting 5#8 index start values) (opWriteSlot index start values)) s

/-- R180, R181, R172: WRITE_SETTING_UNIT_NUMBER. -/
def execWriteSettingUnitNumber (head : Head) (index start : Byte) (values : List Half) (s : State) :
    Host.Outcome State Fault Refusal :=
  powered (serve head (.writeSetting 6#8 index start values) (opWriteUnit index start values)) s

/-- R180, R181, R84: WRITE_SETTING_TEMPO_SOURCE. -/
def execWriteSettingTempoSource (head : Head) (index start : Byte) (values : List Half) (s : State) :
    Host.Outcome State Fault Refusal :=
  powered (serve head (.writeSetting 7#8 index start values) (opWriteSource index start values)) s

/-- R159: STORE_SETTINGS. -/
def execStoreSettings (head : Head) (s : State) : Host.Outcome State Fault Refusal :=
  powered (serve head .storeSettings opStoreSettings) s

/-- R60: READ_CURVE. -/
def execReadCurve (head : Head) (partition start count : Byte) (s : State) : Host.Outcome State Fault Refusal :=
  powered (serve head (.readCurve partition start count) (opReadCurve partition start count)) s

/-- R58, R59: WRITE_CURVE. -/
def execWriteCurve (head : Head) (partition start : Byte) (points : List Half) (s : State) :
    Host.Outcome State Fault Refusal :=
  powered (serve head (.writeCurve partition start points) (opWriteCurve partition start points)) s

/-- R159: STORE_CURVES. -/
def execStoreCurves (head : Head) (s : State) : Host.Outcome State Fault Refusal :=
  powered (serve head .storeCurves opStoreCurves) s

/-- R183: READ_SET_LIST. -/
def execReadSetList (head : Head) (start count : Byte) (s : State) : Host.Outcome State Fault Refusal :=
  powered (serve head (.readSetList start count) (opReadSetList start count)) s

/-- R114: WRITE_SET_LIST. -/
def execWriteSetList (head : Head) (pages : List (BitVec 7)) (s : State) : Host.Outcome State Fault Refusal :=
  powered (serve head (.writeSetList pages) (opWriteSetList pages)) s

/-- R153: BUFFER_WRITE. -/
def execBufferWrite (head : Head) (offset : Half) (bytes : List Byte) (s : State) :
    Host.Outcome State Fault Refusal :=
  powered (serve head (.bufferWrite offset bytes) (opBufferWrite offset bytes)) s

/-- R154: BUFFER_READ. -/
def execBufferRead (head : Head) (offset : Half) (count : Byte) (s : State) : Host.Outcome State Fault Refusal :=
  powered (serve head (.bufferRead offset count) (opBufferRead offset count)) s

/-- R156: BUFFER_LOAD. -/
def execBufferLoad (head : Head) (page : Byte) (s : State) : Host.Outcome State Fault Refusal :=
  powered (serve head (.bufferLoad page) (opBufferLoad page)) s

/-- R155: PAGE_READ. -/
def execPageRead (head : Head) (page : Byte) (offset : Half) (count : Byte) (s : State) :
    Host.Outcome State Fault Refusal :=
  powered (serve head (.pageRead page offset count) (opPageRead page offset count)) s

/-- R157: COMMIT. -/
def execCommit (head : Head) (page : Byte) (s : State) : Host.Outcome State Fault Refusal :=
  powered (serve head (.commit page) (opCommit page)) s

/-- R158: CLEAR. -/
def execClear (head : Head) (page : Byte) (s : State) : Host.Outcome State Fault Refusal :=
  powered (serve head (.clear page) (opClear page)) s

/-- R165: PROTECT. -/
def execProtect (head : Head) (page : Byte) (s : State) : Host.Outcome State Fault Refusal :=
  powered (serve head (.protect page) (opProtectOne true page)) s

/-- R165: UNPROTECT. -/
def execUnprotect (head : Head) (page : Byte) (s : State) : Host.Outcome State Fault Refusal :=
  powered (serve head (.unprotect page) (opProtectOne false page)) s

/-- R166: PROTECT_ALL. -/
def execProtectAll (head : Head) (s : State) : Host.Outcome State Fault Refusal :=
  powered (serve head .protectAll (opProtectAll true)) s

/-- R166: UNPROTECT_ALL. -/
def execUnprotectAll (head : Head) (s : State) : Host.Outcome State Fault Refusal :=
  powered (serve head .unprotectAll (opProtectAll false)) s

/-- R167: LOCK. -/
def execLock (head : Head) (s : State) : Host.Outcome State Fault Refusal :=
  powered (serve head .lock opLock) s

/-- R168: UNLOCK. -/
def execUnlock (head : Head) (s : State) : Host.Outcome State Fault Refusal :=
  powered (serve head .unlock opUnlock) s

/-- R169: READ_PROTECTION. -/
def execReadProtection (head : Head) (s : State) : Host.Outcome State Fault Refusal :=
  powered (serve head .readProtection opReadProtection) s

/-- R115, R116: CHANGE_STEP. -/
def execChangeStep (head : Head) (kind : StepKind) (number : Byte) (s : State) : Host.Outcome State Fault Refusal :=
  powered (serve head (.change (stepCode kind) number) (opChangeStep kind number)) s

/-- R115, R117: CHANGE_GOTO. -/
def execChangeGoto (head : Head) (kind : GotoKind) (number : Byte) (s : State) : Host.Outcome State Fault Refusal :=
  powered (serve head (.change (gotoCode kind) number) (opChangeGoto kind number)) s

/-- R131, R43: ADJUST_ZONE_GAIN. -/
def execAdjustZoneGain (head : Head) (zone : Byte) (value : Half) (s : State) : Host.Outcome State Fault Refusal :=
  powered (serve head (.adjust 1#8 zone value) (opAdjustGain zone value)) s

/-- R131, R43: ADJUST_ZONE_OFFSET. -/
def execAdjustZoneOffset (head : Head) (zone : Byte) (value : Half) (s : State) : Host.Outcome State Fault Refusal :=
  powered (serve head (.adjust 2#8 zone value) (opAdjustOffset zone value)) s

/-- R131, R43: ADJUST_ZONE_TRANSPOSE. -/
def execAdjustZoneTranspose (head : Head) (zone : Byte) (value : Half) (s : State) :
    Host.Outcome State Fault Refusal :=
  powered (serve head (.adjust 3#8 zone value) (opAdjustTranspose zone value)) s

/-- R131, R42, R44: ADJUST_ZONE_ENABLED. -/
def execAdjustZoneEnabled (head : Head) (zone : Byte) (value : Half) (s : State) : Host.Outcome State Fault Refusal :=
  powered (serve head (.adjust 4#8 zone value) (opAdjustEnabled zone value)) s

/-- R131, R22: ADJUST_MUTE_SET. -/
def execAdjustMuteSet (head : Head) (target : Byte) (value : Half) (s : State) : Host.Outcome State Fault Refusal :=
  powered (serve head (.adjust 5#8 target value) (opAdjustMuteSet target value)) s

/-- R131, R102: ADJUST_FEED_OVERRIDE. -/
def execAdjustFeedOverride (head : Head) (feed : Byte) (value : Half) (s : State) :
    Host.Outcome State Fault Refusal :=
  powered (serve head (.adjust 6#8 feed value) (opAdjustOverride feed value)) s

/-- R133, R88: ADJUST_TEMPO. -/
def execAdjustTempo (head : Head) (target : Byte) (value : Half) (s : State) : Host.Outcome State Fault Refusal :=
  powered (serve head (.adjust 7#8 target value) (opAdjustTempo target value)) s

/-- R134: KEEP_ADJUSTMENTS. -/
def execKeepAdjustments (head : Head) (s : State) : Host.Outcome State Fault Refusal :=
  powered (serve head .keepAdjustments opKeep) s

/-- R97, R91: CLICK_START. -/
def execClickStart (head : Head) (s : State) : Host.Outcome State Fault Refusal :=
  powered (serve head (.click 1#8) opClickStart) s

/-- R97, R92: CLICK_STOP. -/
def execClickStop (head : Head) (s : State) : Host.Outcome State Fault Refusal :=
  powered (serve head (.click 2#8) opClickStop) s

/-- R97, R93: CLICK_CONTINUE. -/
def execClickContinue (head : Head) (s : State) : Host.Outcome State Fault Refusal :=
  powered (serve head (.click 3#8) opClickContinue) s

/-- R85, R87: SELECT_TEMPO. -/
def execSelectTempo (head : Head) (slot : Byte) (s : State) : Host.Outcome State Fault Refusal :=
  powered (serve head (.selectTempo slot) (opSelectTempo slot)) s

/-- R79, R78: PANIC. -/
def execPanic (head : Head) (s : State) : Host.Outcome State Fault Refusal :=
  powered (serve head .panic opPanic) s

/-- R24: MUTE. -/
def execMute (head : Head) (port state : Byte) (s : State) : Host.Outcome State Fault Refusal :=
  powered (serve head (.mute port state) (opMute port state)) s

/-- R25, R26: FLUSH. -/
def execFlush (head : Head) (port : Byte) (s : State) : Host.Outcome State Fault Refusal :=
  powered (serve head (.flush port) (opFlush port)) s

/-- R184: RESTART. -/
def execRestart (head : Head) (s : State) : Host.Outcome State Fault Refusal :=
  powered (serve head .restart opRestart) s

end Sys2Proof.Machine
end

