-- ==== Sys2Proof/Machine/Dispatch.lean ====
section
/-! DEFINITION. The one arm per command: each is a direct call of the command's meaning. -/

namespace Sys2Proof.Machine

def exec (i : Instr) (s : State) : Host.Outcome State Fault Refusal :=
  match i with
  | .powerUp => Sys2Proof.Machine.execPowerUp s
  | .character port c stopBitFound => Sys2Proof.Machine.execCharacter port c stopBitFound s
  | .idleResync port => Sys2Proof.Machine.execIdleResync port s
  | .frameCutShort port => Sys2Proof.Machine.execFrameCutShort port s
  | .strike port lane key amount => Sys2Proof.Machine.execStrike port lane key amount s
  | .release port lane key amount => Sys2Proof.Machine.execRelease port lane key amount s
  | .control port lane number value => Sys2Proof.Machine.execControl port lane number value s
  | .sustainControl port lane value => Sys2Proof.Machine.execSustainControl port lane value s
  | .soundSelect port lane bank sound => Sys2Proof.Machine.execSoundSelect port lane bank sound s
  | .transport port action bar beat => Sys2Proof.Machine.execTransport port action bar beat s
  | .thruFrame port frame => Sys2Proof.Machine.execThruFrame port frame s
  | .serviceRequest port target tag code params => Sys2Proof.Machine.execServiceRequest port target tag code params s
  | .serviceReply port unit tag code outcome data => Sys2Proof.Machine.execServiceReply port unit tag code outcome data s
  | .serviceTake moment => Sys2Proof.Machine.execServiceTake moment s
  | .serviceTimeEnd => Sys2Proof.Machine.execServiceTimeEnd s
  | .requestMalformed head code params => Sys2Proof.Machine.execRequestMalformed head code params s
  | .identify head => Sys2Proof.Machine.execIdentify head s
  | .readStatus head clear => Sys2Proof.Machine.execReadStatus head clear s
  | .readCounters head selector clear => Sys2Proof.Machine.execReadCounters head selector clear s
  | .readSetting head item index start count => Sys2Proof.Machine.execReadSetting head item index start count s
  | .writeSettingInboundPort head index start values => Sys2Proof.Machine.execWriteSettingInboundPort head index start values s
  | .writeSettingOutboundPort head index start values => Sys2Proof.Machine.execWriteSettingOutboundPort head index start values s
  | .writeSettingPedal head index start values moment => Sys2Proof.Machine.execWriteSettingPedal head index start values moment s
  | .writeSettingFeed head index start values => Sys2Proof.Machine.execWriteSettingFeed head index start values s
  | .writeSettingTempoSlot head index start values => Sys2Proof.Machine.execWriteSettingTempoSlot head index start values s
  | .writeSettingUnitNumber head index start values => Sys2Proof.Machine.execWriteSettingUnitNumber head index start values s
  | .writeSettingTempoSource head index start values => Sys2Proof.Machine.execWriteSettingTempoSource head index start values s
  | .storeSettings head => Sys2Proof.Machine.execStoreSettings head s
  | .readCurve head partition start count => Sys2Proof.Machine.execReadCurve head partition start count s
  | .writeCurve head partition start points => Sys2Proof.Machine.execWriteCurve head partition start points s
  | .storeCurves head => Sys2Proof.Machine.execStoreCurves head s
  | .readSetList head start count => Sys2Proof.Machine.execReadSetList head start count s
  | .writeSetList head pages => Sys2Proof.Machine.execWriteSetList head pages s
  | .bufferWrite head offset bytes => Sys2Proof.Machine.execBufferWrite head offset bytes s
  | .bufferRead head offset count => Sys2Proof.Machine.execBufferRead head offset count s
  | .bufferLoad head page => Sys2Proof.Machine.execBufferLoad head page s
  | .pageRead head page offset count => Sys2Proof.Machine.execPageRead head page offset count s
  | .commit head page => Sys2Proof.Machine.execCommit head page s
  | .clear head page => Sys2Proof.Machine.execClear head page s
  | .protect head page => Sys2Proof.Machine.execProtect head page s
  | .unprotect head page => Sys2Proof.Machine.execUnprotect head page s
  | .protectAll head => Sys2Proof.Machine.execProtectAll head s
  | .unprotectAll head => Sys2Proof.Machine.execUnprotectAll head s
  | .lock head => Sys2Proof.Machine.execLock head s
  | .unlock head => Sys2Proof.Machine.execUnlock head s
  | .readProtection head => Sys2Proof.Machine.execReadProtection head s
  | .changeStep head kind number => Sys2Proof.Machine.execChangeStep head kind number s
  | .changeGoto head kind number => Sys2Proof.Machine.execChangeGoto head kind number s
  | .operationSuspended => Sys2Proof.Machine.execOperationSuspended s
  | .fetchEnd sameMoment => Sys2Proof.Machine.execFetchEnd sameMoment s
  | .burstPlace => Sys2Proof.Machine.execBurstPlace s
  | .changeEnd => Sys2Proof.Machine.execChangeEnd s
  | .adjustZoneGain head zone value => Sys2Proof.Machine.execAdjustZoneGain head zone value s
  | .adjustZoneOffset head zone value => Sys2Proof.Machine.execAdjustZoneOffset head zone value s
  | .adjustZoneTranspose head zone value => Sys2Proof.Machine.execAdjustZoneTranspose head zone value s
  | .adjustZoneEnabled head zone value => Sys2Proof.Machine.execAdjustZoneEnabled head zone value s
  | .adjustMuteSet head target value => Sys2Proof.Machine.execAdjustMuteSet head target value s
  | .adjustFeedOverride head feed value => Sys2Proof.Machine.execAdjustFeedOverride head feed value s
  | .adjustTempo head target value => Sys2Proof.Machine.execAdjustTempo head target value s
  | .keepAdjustments head => Sys2Proof.Machine.execKeepAdjustments head s
  | .clickStart head => Sys2Proof.Machine.execClickStart head s
  | .clickStop head => Sys2Proof.Machine.execClickStop head s
  | .clickContinue head => Sys2Proof.Machine.execClickContinue head s
  | .selectTempo head slot => Sys2Proof.Machine.execSelectTempo head slot s
  | .panic head => Sys2Proof.Machine.execPanic head s
  | .mute head port state => Sys2Proof.Machine.execMute head port state s
  | .flush head port => Sys2Proof.Machine.execFlush head port s
  | .restart head => Sys2Proof.Machine.execRestart head s
  | .restartMade moment => Sys2Proof.Machine.execRestartMade moment s
  | .frameStart port => Sys2Proof.Machine.execFrameStart port s
  | .frameEnd port => Sys2Proof.Machine.execFrameEnd port s
  | .pacingGapEnd port => Sys2Proof.Machine.execPacingGapEnd port s
  | .settleWindowEnd port => Sys2Proof.Machine.execSettleWindowEnd port s
  | .releaseDrain port => Sys2Proof.Machine.execReleaseDrain port s
  | .bufferLoadEnd => Sys2Proof.Machine.execBufferLoadEnd s
  | .keepLoadEnd => Sys2Proof.Machine.execKeepLoadEnd s
  | .commitEnd deviations => Sys2Proof.Machine.execCommitEnd deviations s
  | .clearEnd deviations => Sys2Proof.Machine.execClearEnd deviations s
  | .subTick => Sys2Proof.Machine.execSubTick s
  | .beatBoundary => Sys2Proof.Machine.execBeatBoundary s
  | .pedalContactChange pedal level moment => Sys2Proof.Machine.execPedalContactChange pedal level moment s
  | .pedalSettled pedal moment => Sys2Proof.Machine.execPedalSettled pedal moment s
  | .showlockContactChange level moment => Sys2Proof.Machine.execShowlockContactChange level moment s
  | .showlockSettled moment => Sys2Proof.Machine.execShowlockSettled moment s
  | .lossOfPower torn => Sys2Proof.Machine.execLossOfPower torn s

end Sys2Proof.Machine
end

