-- ==== Sys2Proof/Safety.lean ====
section
/-! DEFINITION. What a run of the block must keep, in the terms that statements use: the state of a port that can take a
request, the part after a reply, and the invariants of the queues, the held-note table, the sustain logic, the clock and
the store. -/

namespace Sys2Proof.Machine

/-! ## Running commands and answering requests -/

/-- Commands carried out one after the other, up to the first that does not answer a next state. -/
def runAll : List Instr → State → Host.Outcome State Fault Refusal
  | [], s => .next s
  | c :: cs, s =>
    match exec c s with
    | .next t => runAll cs t
    | .fault r => .fault r
    | .refused r => .refused r

/-- A request of this head is for this part alone, or for all parts on a port with no pass port: it is answered here and
passed on nowhere (R6). -/
abbrev StaysHere (h : Head) (s : State) : Prop :=
  h.unit.toNat = s.settings.unitNumber ∨ (h.unit = 15#8 ∧ s.settings.inbound[h.port].pass = none)

/-- No request waits in the place of a port or of one that is considered before it, so a free unit takes a request that
completes on that port next (R174). -/
abbrev NextTaken (p : Port) (s : State) : Prop :=
  ∀ q : Port, turnOf s.service.pointer q ≤ turnOf s.service.pointer p → s.service.places[q] = none

/-- A request of this head is taken at once, has room for its reply and does nothing else: the part is powered, the service
unit is free, no restart is on its way, the service queue of the paired port holds fewer than 4 frames, no request is
taken before it, and it is not passed on (R6, R16, R174, R184). A request that is passed on too is `RequestRows`'s. -/
def Ready (h : Head) (s : State) : Prop :=
  s.power = true ∧ s.service.busy = none ∧ s.service.restart = .none ∧ s.link.outs[h.port].service.length < 4
    ∧ NextTaken h.port s ∧ StaysHere h s

/-- The part with the reply of a carried-out request placed: it stands at the tail of the service queue of OUTp, the
pointer names the port, and the service time of 40 µs, or 400 µs after PAGE READ, begins (R174, R175). -/
def replied (h : Head) (code : Byte) (o : Outcome) (data : List Byte) (s : State) : State :=
  { s with
    link :=
      { s.link with
        outs := s.link.outs.set h.port
          { s.link.outs[h.port] with
            service := s.link.outs[h.port].service
              ++ [{ frame := .reply h.unit h.tag code o.code data, source := .reply }]
            serviceWait := if s.link.outs[h.port].service = [] then 0 else s.link.outs[h.port].serviceWait } }
    service :=
      { s.service with busy := some (if code = 0x2B#8 then 400 else 40), pointer := h.port } }

/-- The part with the answer of a carried-out request placed as its reply: `replied`, but that the reply of an accepted
RESTART is the one whose end makes the restart (R174, R175, R184). -/
def answered (h : Head) (code : Byte) (r : State × Answer) : State :=
  let s := r.1
  { s with
    link :=
      { s.link with
        outs := s.link.outs.set h.port
          { s.link.outs[h.port] with
            service := s.link.outs[h.port].service
              ++ [{ frame := .reply h.unit h.tag code r.2.outcome.code r.2.data
                    source := if code = 0x4F#8 ∧ r.2.outcome = .ok then .restartReply else .reply }]
            serviceWait := if s.link.outs[h.port].service = [] then 0 else s.link.outs[h.port].serviceWait } }
    service :=
      { s.service with busy := some (if code = 0x2B#8 then 400 else 40), pointer := h.port } }

/-- The service request that a request row stands for: its head, its code and its parameter bytes, as spec 11, 11.3 lays
them out; none for the rows that are events. -/
def requestOf : Instr → Option (Head × Byte × List Byte)
  | .requestMalformed h code params => some (h, code, params)
  | .identify h => some (h, 0x01#8, [])
  | .readStatus h none => some (h, 0x02#8, [])
  | .readStatus h (some c) => some (h, 0x02#8, [c])
  | .readCounters h sel c => some (h, 0x03#8, [sel, c])
  | .readSetting h item i st n => some (h, 0x10#8, [item, i, st, n])
  | .writeSettingInboundPort h i st vs => some (h, 0x11#8, 1#8 :: i :: st :: halfBytes vs)
  | .writeSettingOutboundPort h i st vs => some (h, 0x11#8, 2#8 :: i :: st :: halfBytes vs)
  | .writeSettingPedal h i st vs _ => some (h, 0x11#8, 3#8 :: i :: st :: halfBytes vs)
  | .writeSettingFeed h i st vs => some (h, 0x11#8, 4#8 :: i :: st :: halfBytes vs)
  | .writeSettingTempoSlot h i st vs => some (h, 0x11#8, 5#8 :: i :: st :: halfBytes vs)
  | .writeSettingUnitNumber h i st vs => some (h, 0x11#8, 6#8 :: i :: st :: halfBytes vs)
  | .writeSettingTempoSource h i st vs => some (h, 0x11#8, 7#8 :: i :: st :: halfBytes vs)
  | .storeSettings h => some (h, 0x12#8, [])
  | .readCurve h part st n => some (h, 0x18#8, [part, st, n])
  | .writeCurve h part st vs => some (h, 0x19#8, part :: st :: halfBytes vs)
  | .storeCurves h => some (h, 0x1A#8, [])
  | .readSetList h st n => some (h, 0x20#8, [st, n])
  | .writeSetList h pages => some (h, 0x21#8, BitVec.ofNat 8 pages.length :: packPages pages)
  | .bufferWrite h o bs => some (h, 0x28#8, hiByte o :: loByte o :: bs)
  | .bufferRead h o n => some (h, 0x29#8, [hiByte o, loByte o, n])
  | .bufferLoad h p => some (h, 0x2A#8, [p])
  | .pageRead h p o n => some (h, 0x2B#8, [p, hiByte o, loByte o, n])
  | .commit h p => some (h, 0x2C#8, [p])
  | .clear h p => some (h, 0x2D#8, [p])
  | .protect h p => some (h, 0x30#8, [p])
  | .unprotect h p => some (h, 0x31#8, [p])
  | .protectAll h => some (h, 0x32#8, [])
  | .unprotectAll h => some (h, 0x33#8, [])
  | .lock h => some (h, 0x34#8, [])
  | .unlock h => some (h, 0x35#8, [])
  | .readProtection h => some (h, 0x36#8, [])
  | .changeStep h .nextScene n => some (h, 0x40#8, [1#8, n])
  | .changeStep h .prevScene n => some (h, 0x40#8, [2#8, n])
  | .changeStep h .nextSong n => some (h, 0x40#8, [3#8, n])
  | .changeStep h .prevSong n => some (h, 0x40#8, [4#8, n])
  | .changeGoto h .scene n => some (h, 0x40#8, [5#8, n])
  | .changeGoto h .song n => some (h, 0x40#8, [6#8, n])
  | .adjustZoneGain h z v => some (h, 0x41#8, [1#8, z, hiByte v, loByte v])
  | .adjustZoneOffset h z v => some (h, 0x41#8, [2#8, z, hiByte v, loByte v])
  | .adjustZoneTranspose h z v => some (h, 0x41#8, [3#8, z, hiByte v, loByte v])
  | .adjustZoneEnabled h z v => some (h, 0x41#8, [4#8, z, hiByte v, loByte v])
  | .adjustMuteSet h z v => some (h, 0x41#8, [5#8, z, hiByte v, loByte v])
  | .adjustFeedOverride h z v => some (h, 0x41#8, [6#8, z, hiByte v, loByte v])
  | .adjustTempo h z v => some (h, 0x41#8, [7#8, z, hiByte v, loByte v])
  | .keepAdjustments h => some (h, 0x42#8, [])
  | .clickStart h => some (h, 0x43#8, [1#8])
  | .clickStop h => some (h, 0x43#8, [2#8])
  | .clickContinue h => some (h, 0x43#8, [3#8])
  | .selectTempo h slot => some (h, 0x44#8, [slot])
  | .panic h => some (h, 0x45#8, [])
  | .mute h p st => some (h, 0x46#8, [p, st])
  | .flush h p => some (h, 0x47#8, [p])
  | .restart h => some (h, 0x4F#8, [])
  | .powerUp | .character .. | .idleResync _ | .frameCutShort _ | .strike .. | .release .. | .control ..
  | .sustainControl .. | .soundSelect .. | .transport .. | .thruFrame .. | .serviceRequest .. | .serviceReply ..
  | .serviceTake _ | .serviceTimeEnd | .operationSuspended | .fetchEnd _ | .burstPlace | .changeEnd | .restartMade _
  | .frameStart _ | .frameEnd _ | .pacingGapEnd _ | .settleWindowEnd _ | .releaseDrain _ | .bufferLoadEnd
  | .keepLoadEnd | .commitEnd _ | .clearEnd _ | .subTick | .beatBoundary | .pedalContactChange .. | .pedalSettled ..
  | .showlockContactChange .. | .showlockSettled _ | .lossOfPower _ => none

/-- The moment that a request row carries (R139, WRITE SETTING of a pedal), 0 for any other command. -/
def momentOf : Instr → Nat
  | .writeSettingPedal _ _ _ _ moment => moment
  | _ => 0

/-! ## Queues and counters -/

/-- R15: the frames of a play queue other than those that the held-note table and a flush have placed. -/
def otherThanReleases (play : List Queued) : Nat := play.countP fun x => x.source != .held && x.source != .silence

/-- R12, R15, R17, R18, R61, R106, R116: no queue, table or history holds more than its capacity, no play queue more than
28 frames beside Releases and Port Silence, and the burst mode and the interleave count lie in 0–8. -/
def CapacityInv (s : State) : Prop :=
  (∀ p : Port,
    s.link.outs[p].timing.length ≤ 4 ∧ s.link.outs[p].burst.length ≤ 16 ∧ s.link.outs[p].play.length ≤ 32
      ∧ s.link.outs[p].service.length ≤ 4 ∧ s.link.outs[p].serviceWait ≤ 16
      ∧ otherThanReleases s.link.outs[p].play ≤ 28 ∧ s.link.outs[p].interleave ≤ 8
      ∧ s.settings.outbound[p].burstMode ≤ 8)
    ∧ s.change.queue.length ≤ 4 ∧ s.held.table.length ≤ 128 ∧ s.tempo.taps.length ≤ 4

/-- R189: every counter lies in 0–65535. -/
def CounterInv (s : State) : Prop :=
  (∀ p : Port,
    s.status.rejected[p] ≤ 65535 ∧ s.status.playDrops[p] ≤ 65535 ∧ s.status.timingSlips[p] ≤ 65535
      ∧ s.status.serviceOverruns[p] ≤ 65535)
    ∧ s.status.heldOverflows ≤ 65535 ∧ s.status.changeOverflows ≤ 65535 ∧ s.status.fetchRepairs ≤ 65535

/-! ## Held notes and sustain -/

/-- R61: no two entries share their six-part identity; release order lists, once each, exactly the identities of the
RELEASING entries; a HELD entry has no release value. -/
def HeldInv (s : State) : Prop :=
  (s.held.table.map (·.ident)).Nodup ∧ s.held.releaseOrder.Nodup
    ∧ (∀ i, i ∈ s.held.releaseOrder ↔ ∃ e ∈ s.held.table, e.ident = i ∧ e.state = .releasing)
    ∧ ∀ e ∈ s.held.table, e.state = .held → e.release = none

/-- How many source lanes list a destination lane. -/
def listingLanes (d : DestLane) (s : State) : Nat :=
  sourceLanes.countP fun pl => s.held.sustain[pl.1][pl.2].forwarded.contains d

/-- R69: every hold count is the number of source lanes whose forwarded list names the destination lane, and at most 16; a
forwarded list holds at most 16 lanes, names a lane once, and is empty while its flag is up (R72); an entry is SUSTAINED
only while the flag of its source lane is down. Scene copies hold at most 16 zones (R110), which bounds the lists. -/
def SustainInv (s : State) : Prop :=
  (∀ d : DestLane, s.held.holds[d.port][d.lane] = listingLanes d s ∧ listingLanes d s ≤ 16)
    ∧ (∀ (p : Port) (l : Lane),
      s.held.sustain[p][l].forwarded.Nodup ∧ s.held.sustain[p][l].forwarded.length ≤ 16
        ∧ (s.held.sustain[p][l].down = false → s.held.sustain[p][l].forwarded = []))
    ∧ (∀ e ∈ s.held.table, e.state = .sustained → s.held.sustain[e.ident.src.port][e.ident.src.lane].down = true)
    ∧ s.change.active.block.zones.length ≤ 16
    ∧ ∀ c, s.change.staged = some c → c.block.zones.length ≤ 16

/-! ## The clock -/

/-- Spec 05, 5.2: every field of a tempo record in its range. -/
def TempoRecord.inRange (r : TempoRecord) : Prop :=
  4000 ≤ r.t ∧ r.t ≤ 30000 ∧ 4000 ≤ r.tEnd ∧ r.tEnd ≤ 30000 ∧ 1 ≤ r.rampBars ∧ r.rampBars ≤ 64 ∧ 1 ≤ r.meter
    ∧ r.meter ≤ 16

/-- R82, R89, R90, R109: the slots in range, the tempo in effect and the position in theirs, the beat at most the meter in
effect, a count-in bar only while the clock is COUNT_IN, and a count-in of at most 4 in both scene copies. -/
def ClockInv (s : State) : Prop :=
  (∀ i : Slot, s.tempo.slots[i].inRange)
    ∧ 4000 ≤ s.tempo.tempo ∧ s.tempo.tempo ≤ 30000 ∧ 1 ≤ s.tempo.meter ∧ s.tempo.meter ≤ 16
    ∧ 1 ≤ s.tempo.bar ∧ s.tempo.bar ≤ 9999 ∧ 1 ≤ s.tempo.beat ∧ s.tempo.beat ≤ s.tempo.meter
    ∧ s.tempo.subTick ≤ 959 ∧ s.tempo.countInBar ≤ 4
    ∧ (s.tempo.clock ≠ .countIn → s.tempo.countInBar = 0)
    ∧ s.change.active.header.countIn ≤ 4
    ∧ ∀ c, s.change.staged = some c → c.header.countIn ≤ 4

/-- The reference units that `n` sub-ticks last, from a sub-tick that has begun on (R81). -/
def subTickUnits : Nat → State → Nat
  | 0, _ => 0
  | n + 1, s =>
    match exec .subTick s with
    | .next t => t.tempo.units + subTickUnits n t
    | _ => 0

/-! ## The store -/

/-- The cells and the page buffer stand in canonical form (equal memories are equal data). -/
def MemoryInv (s : State) : Prop := Memory.wf s.store.cells ∧ Memory.wf s.store.buffer

/-- The page that the commit or clear in flight writes. -/
def writtenPage? (s : State) : Option Page :=
  match s.store.operation with
  | some op =>
    match op.kind with
    | .commit p => some p
    | .keepCommit c => some c.page
    | .clear p => some p
    | .keepLoad c => some c.page
    | .load _ => none
  | none => none

/-- R161, R165: the page under a commit or a clear is not protected. -/
def ProtectInv (s : State) : Prop := ∀ p : Page, writtenPage? s = some p → s.store.protect[p] = false

/-- A byte of a page as the cells hold it. -/
def pageByte (s : State) (p : Page) (i : Nat) : Byte := Memory.read s.store.cells (p.val * 4096 + i)

end Sys2Proof.Machine
end

