-- ==== Sys2Proof/Certificates/Slice0/Obligations.lean ====
section
/-! DEFINITION. The statements for the provers: what the commands of the KS-88 do, rule by rule, and what no command can
break. -/

open Sys2Proof Sys2Proof.Machine

/-! ## Steps and bytes -/

/-- A step takes the command at the front of the queue and carries it out on the part with the queue's rest; on an empty
queue the block idles, which is the model's choice (log entry 5). -/
def Obligations.StepRunsFrontCommand : Prop :=
  (∀ (c : Instr) (rest : List Instr) (s : State),
    s.pending = c :: rest → step s = exec c { s with pending := rest })
    ∧ ∀ s : State, s.pending = [] → step s = .next s

/-- R192 with R3: the bytes of a frame whose fields pass the checks are read back as that frame, for all twelve kinds.
-/
def Obligations.FramesRoundTrip : Prop := ∀ f : Frame, f.ok = true → parseFrame f.bytes = some f

/-- Spec 11, 11.3: the code and parameter bytes of a request are read back as that request, for the whole catalogue, the
packed pages of WRITE SET LIST included. -/
def Obligations.RequestsRoundTrip : Prop :=
  ∀ r : Request, r.formOk = true → parseRequest r.code r.params = some r

/-- R1–R3: the bytes of a frame, received one after the other by a READY receiver, do what the frame itself does when it
completes on that port, whatever the role of the port. That the row THRU_FRAME stands for any frame completing on a port
of any role is the model's reading (log entry 2). -/
def Obligations.CharactersSpellFrame : Prop :=
  ∀ (p : Port) (f : Frame) (s : State), f.ok = true → s.power = true → s.link.receivers[p] = .ready →
    runAll (f.bytes.map fun c => .character p c true) s = exec (.thruFrame p f) s

/-- R1, R2, R4: what a receiver does with a character that completes no frame, with one that completes a frame to be
rejected, with 60 µs of idle in SYNC, and with a frame cut short. A length byte outside 3–64 is rejected at once, any
other frame when it completes, which sends the receiver to SYNC, or is cut short, which sends it to READY. A frame with
a character error is rejected then, once, whatever its bytes are; that its character counts as one of the L with the
bits it has, the length byte too, is the model's reading (log entry 48). Idle, or a frame cut short, in a state that has
none of it changes nothing (log entry 4). -/
def Obligations.ReceiverStates : Prop :=
  ∀ (p : Port) (c : Byte) (stop : Bool) (s : State), s.power = true →
    (s.link.receivers[p] = .sync →
      exec (.character p c stop) s = .next s
        ∧ exec (.idleResync p) s
          = .next { s with link := { s.link with receivers := s.link.receivers.set p .ready } })
    ∧ (s.link.receivers[p] = .ready →
      exec (.idleResync p) s = .next s ∧ exec (.frameCutShort p) s = .next s
        ∧ exec (.character p c stop) s
          = .next
            (if 3 ≤ c.toNat ∧ c.toNat ≤ 64 then
              { s with
                link := { s.link with receivers := s.link.receivers.set p (.receiving c.toNat [c] (!stop)) } }
             else
              { s with
                link := { s.link with receivers := s.link.receivers.set p .sync }
                status :=
                  { s.status with
                    rejected := s.status.rejected.set p (min (s.status.rejected[p] + 1) 65535), link := true } }))
    ∧ ∀ length held failed, s.link.receivers[p] = .receiving length held failed →
      exec (.frameCutShort p) s
        = .next
          { s with
            link := { s.link with receivers := s.link.receivers.set p .ready }
            status :=
              { s.status with
                rejected := s.status.rejected.set p (min (s.status.rejected[p] + 1) 65535), link := true } }
      ∧ (held.length + 1 < length →
        exec (.character p c stop) s
          = .next
            { s with
              link :=
                { s.link with
                  receivers := s.link.receivers.set p (.receiving length (held ++ [c]) (failed || !stop)) } })
      ∧ (length ≤ held.length + 1 → failed = true ∨ stop = false ∨ parseFrame (held ++ [c]) = none →
        exec (.character p c stop) s
          = .next
            { s with
              link := { s.link with receivers := s.link.receivers.set p .sync }
              status :=
                { s.status with
                  rejected := s.status.rejected.set p (min (s.status.rejected[p] + 1) 65535), link := true } })

/-! ## Classification -/

/-- R9, R10: a frame other than a service frame on an OFF port changes nothing; on a THRU port it is placed, as
received, in the play queue of the pass port when that holds fewer than 28 frames, is counted as a play drop
otherwise, and is dropped without count when there is no pass port. The rows of the single kinds do what their frame
does (log entry 2). -/
def Obligations.OffAndThruPorts : Prop :=
  (∀ (p : Port) (f : Frame) (s : State), s.power = true → f.isService = false →
    (s.settings.inbound[p].role = .off → exec (.thruFrame p f) s = .next s)
    ∧ (s.settings.inbound[p].role = .thru → s.settings.inbound[p].pass = none → exec (.thruFrame p f) s = .next s)
    ∧ ∀ q : Port, s.settings.inbound[p].role = .thru → s.settings.inbound[p].pass = some q →
      exec (.thruFrame p f) s
        = .next
          (if s.link.outs[q].play.length < 28 then
            { s with
              link :=
                { s.link with
                  outs := s.link.outs.set q
                    { s.link.outs[q] with play := s.link.outs[q].play ++ [{ frame := f, source := .thru }] } } }
           else
            { s with
              status :=
                { s.status with
                  playDrops := s.status.playDrops.set q (min (s.status.playDrops[q] + 1) 65535)
                  overrun := true } }))
  ∧ ∀ (p : Port) (l : Lane) (k : Key) (n : Byte) (v : Half) (b : Byte) (vo : Option Half) (bo : Option Byte) (s : State),
    exec (.strike p l k (.long v)) s = exec (.thruFrame p (.strikeLong (laneByte l) (keyByte k) v)) s
    ∧ exec (.strike p l k (.short b)) s = exec (.thruFrame p (.strikeShort (laneByte l) (keyByte k) b)) s
    ∧ exec (.release p l k (.long vo)) s = exec (.thruFrame p (.releaseLong (laneByte l) (keyByte k) vo)) s
    ∧ exec (.release p l k (.short bo)) s = exec (.thruFrame p (.releaseShort (laneByte l) (keyByte k) bo)) s
    ∧ exec (.control p l n v) s = exec (.thruFrame p (.control (laneByte l) n v)) s
    ∧ exec (.sustainControl p l v) s = exec (.thruFrame p (.control (laneByte l) 8#8 v)) s
    ∧ exec (.soundSelect p l v b) s = exec (.thruFrame p (.soundSelect (laneByte l) v b)) s
    ∧ exec (.transport p n v b) s = exec (.thruFrame p (.transport n v b)) s

/-- What passing a service frame on from INp does (R6, R16), in the terms of `ServiceFramesClassified`. -/
def Sys2Proof.Machine.passedOnTo (p : Port) (f : Frame) (s : State) : State :=
  match s.settings.inbound[p].pass with
  | none => s
  | some q =>
    if s.link.outs[q].service.length < 4 then
      { s with
        link :=
          { s.link with
            outs := s.link.outs.set q
              { s.link.outs[q] with
                service := s.link.outs[q].service ++ [{ frame := f, source := .passedOn }]
                serviceWait := if s.link.outs[q].service = [] then 0 else s.link.outs[q].serviceWait } } }
    else
      { s with
        status :=
          { s.status with
            serviceOverruns := s.status.serviceOverruns.set p (min (s.status.serviceOverruns[p] + 1) 65535)
            overrun := true } }

/-- What handing a request to the waiting place of INp does (R173), in the terms of `ServiceFramesClassified`. -/
def Sys2Proof.Machine.heldWaiting (p : Port) (w : Waiting) (s : State) : State :=
  if s.service.places[p] = none then
    { s with service := { s.service with places := s.service.places.set p (some w) } }
  else
    { s with
      status :=
        { s.status with
          serviceOverruns := s.status.serviceOverruns.set p (min (s.status.serviceOverruns[p] + 1) 65535)
          overrun := true } }

/-- R6, R173: a Service Request for this part goes to the waiting place of its port, one for unit 15 goes there and is
passed on, any other request and every Service Reply is passed on, whatever the role of the port. -/
def Obligations.ServiceFramesClassified : Prop :=
  ∀ (p : Port) (target tag code outcome : Byte) (params : List Byte) (s : State), s.power = true →
    exec (.serviceReply p target tag code outcome params) s
        = .next (passedOnTo p (.reply target tag code outcome params) s)
    ∧ (target.toNat = s.settings.unitNumber →
      exec (.serviceRequest p target tag code params) s
        = .next (heldWaiting p { unit := target, tag := tag, code := code, params := params } s))
    ∧ (target.toNat ≠ s.settings.unitNumber → target = 15#8 →
      exec (.serviceRequest p target tag code params) s
        = .next
          (passedOnTo p (.request target tag code params)
            (heldWaiting p { unit := target, tag := tag, code := code, params := params } s)))
    ∧ (target.toNat ≠ s.settings.unitNumber → target ≠ 15#8 →
      exec (.serviceRequest p target tag code params) s
        = .next (passedOnTo p (.request target tag code params) s))

/-! ## Strikes, releases and controls -/

/-- R29–R33: the layers of a strike. A layer stands for a zone that matches, with the destination that its key stage
gives, and no zone that matches earlier in the list has that destination; no two layers share a destination; every
matching zone with a destination has a layer there, its own or an earlier zone's. A zone matches by exactly the five
tests of R29, and the key stage adds the transpose and folds by octaves. -/
def Obligations.LayersOfAStrike : Prop :=
  (∀ (zones : List Zone) (src : SourceTriple) (s10 : Nat),
    (∀ y ∈ layersOf zones src s10,
      y.1 ∈ zones ∧ zoneMatches src s10 y.1 = true ∧ layerDest y.1 src.key = some y.2
        ∧ ∃ before after : List Zone, zones = before ++ y.1 :: after
          ∧ ∀ z ∈ before, zoneMatches src s10 z = true → layerDest z src.key ≠ some y.2)
    ∧ ((layersOf zones src s10).map Prod.snd).Nodup
    ∧ ((layersOf zones src s10).map Prod.fst).Sublist zones
    ∧ ∀ z ∈ zones, zoneMatches src s10 z = true → ∀ d, layerDest z src.key = some d →
      ∃ y ∈ layersOf zones src s10, y.2 = d)
  ∧ (∀ (src : SourceTriple) (s10 : Nat) (z : Zone),
    zoneMatches src s10 z = true ↔
      z.enabled = true ∧ z.sourcePort.toNat = src.port.val + 1
        ∧ (z.sourceLane.toNat = 0 ∨ z.sourceLane.toNat = src.lane.val + 1)
        ∧ z.keyLow.toNat ≤ src.key.val ∧ src.key.val ≤ z.keyHigh.toNat
        ∧ z.strikeLow.toNat ≤ s10 ∧ s10 ≤ z.strikeHigh.toNat)
  ∧ ∀ (z : Zone) (key : Key) (t : Int), t = (key.val : Int) + z.transpose.toInt → -48 ≤ t → t ≤ 175 →
    (0 ≤ t ∧ t ≤ 127 → ∃ k, keyStage z key = some k ∧ (k.val : Int) = t)
    ∧ (t < 0 ∨ 127 < t → z.edge = 0#8 → keyStage z key = none)
    ∧ (t < 0 → z.edge ≠ 0#8 → ∃ k, keyStage z key = some k ∧ k.val ≤ 11 ∧ (12 : Int) ∣ (k.val : Int) - t)
    ∧ (127 < t → z.edge ≠ 0#8 →
      ∃ k, keyStage z key = some k ∧ 116 ≤ k.val ∧ (12 : Int) ∣ (k.val : Int) - t)

/-- R5, R48–R54, R57: the strike arithmetic. A raw value is raised and lowered into its range and a short one widened by
the fill rule; a partition interpolates between two neighbouring points, the division truncated toward zero, so that
the value rounds toward the first point and lies between the two; gain, offset and clamp give the shaped value; the
short form divides it by 8 and raises 0 to 1. A release value is widened and narrowed in the same way, with 0 kept.
Every shaped value lies in 1–1023, and in 1–127 in the short form; on a partition that holds the straight line the
curve stage gives back 1–1015 unchanged, and partition 0 gives back every value. -/
def Obligations.StrikeValues : Prop :=
  (∀ (curves : Vector (Vector Nat 129) 15) (z : Zone) (s10 : Nat),
    1 ≤ shapeStrike curves z s10 ∧ shapeStrike curves z s10 ≤ 1023
      ∧ 1 ≤ outputStrike .short (shapeStrike curves z s10) ∧ outputStrike .short (shapeStrike curves z s10) ≤ 127)
  ∧ (∀ (fill : Fill) (a : StrikeAmount), 1 ≤ expandStrike fill a ∧ expandStrike fill a ≤ 1023)
  ∧ (∀ partition s10 : Nat, 1 ≤ partition → partition ≤ 15 → 1 ≤ s10 → s10 ≤ 1015 →
    curveStage straightCurves partition s10 = s10)
  ∧ (∀ (curves : Vector (Vector Nat 129) 15) (s10 : Nat), curveStage curves 0 s10 = s10)
  ∧ (∀ (fill : Fill) (v : Half) (b : Byte),
    let raw := max 1 (min b.toNat 127)
    expandStrike fill (.long v) = max 1 (min v.toNat 1023)
      ∧ expandStrike .zero (.short b) = raw * 8 ∧ expandStrike .replicate (.short b) = raw * 8 + raw / 16)
  ∧ (∀ (curves : Vector (Vector Nat 129) 15) (n : Fin 15) (i : Fin 128) (r : Fin 8),
    let c : Nat := curveStage curves (n.val + 1) (8 * i.val + r.val)
    let p : Nat := curves[n][i.castSucc]
    let q : Nat := curves[n][i.succ]
    (c : Int) = p + (((q : Int) - p) * r.val).tdiv 8
      ∧ (p ≤ q → c = p + (q - p) * r.val / 8) ∧ (q < p → c = p - (p - q) * r.val / 8)
      ∧ min p q ≤ c ∧ c ≤ max p q)
  ∧ (∀ (curves : Vector (Vector Nat 129) 15) (z : Zone) (s10 : Nat),
    (shapeStrike curves z s10 : Int)
      = max 1 (min (((curveStage curves z.curve.toNat s10 * z.gain.toNat / 64 : Nat) : Int) + z.offset.toInt) 1023))
  ∧ (∀ v : Nat, outputStrike .long v = v ∧ outputStrike .short v = if v < 8 then 1 else v / 8)
  ∧ (∀ (fill : Fill) (v : Half) (b : Byte),
    let short := min b.toNat 127
    expandRelease fill (.long none) = none ∧ expandRelease fill (.short none) = none
      ∧ expandRelease fill (.long (some v)) = some (min v.toNat 1023)
      ∧ expandRelease .zero (.short (some b)) = some (short * 8)
      ∧ expandRelease .replicate (.short (some b)) = some (short * 8 + short / 16))
  ∧ ∀ (form : Form) (lane : Lane) (key : Key) (v : Nat),
    releaseFrame .long lane key (some v) = .releaseLong (laneByte lane) (keyByte key) (some (BitVec.ofNat 16 v))
      ∧ releaseFrame .short lane key (some v)
        = .releaseShort (laneByte lane) (keyByte key) (some (BitVec.ofNat 8 (v / 8)))
      ∧ (releaseFrame form lane key none = .releaseLong (laneByte lane) (keyByte key) none
        ∨ releaseFrame form lane key none = .releaseShort (laneByte lane) (keyByte key) none)
      ∧ (releaseFrame form lane key none).bytes.length = 5

/-- R62, R63, R35: the single layer of a strike on a PLAY port, by the mute state of its destination, the table and
the play queue: discarded, a held overflow, a play drop, a new HELD entry, or a re-strike. -/
def Obligations.StrikeOfOneLayer : Prop :=
  ∀ (p : Port) (l : Lane) (k : Key) (amount : StrikeAmount) (s : State) (z : Zone) (d : Dest),
    s.power = true → s.settings.inbound[p].role = .play →
    layersOf s.change.active.block.zones { port := p, lane := l, key := k }
      (expandStrike s.settings.inbound[p].fill amount) = [(z, d)] →
    let id : Ident := { src := { port := p, lane := l, key := k }, dst := d }
    let f : Queued :=
      { frame := strikeFrame s.settings.outbound[d.port].form d.lane d.key
          (shapeStrike s.curves z (expandStrike s.settings.inbound[p].fill amount))
        source := .zone }
    let queued : Link :=
      { s.link with
        outs := s.link.outs.set d.port { s.link.outs[d.port] with play := s.link.outs[d.port].play ++ [f] } }
    (s.muted d.port = true → exec (.strike p l k amount) s = .next s)
    ∧ (s.muted d.port = false → 28 ≤ s.link.outs[d.port].play.length →
      (s.held.table.length < 128 ∨ ∃ e ∈ s.held.table, e.ident = id) →
      exec (.strike p l k amount) s
        = .next
          { s with
            status :=
              { s.status with
                playDrops := s.status.playDrops.set d.port (min (s.status.playDrops[d.port] + 1) 65535)
                overrun := true } })
    ∧ (s.muted d.port = false → 128 ≤ s.held.table.length → (∀ e ∈ s.held.table, e.ident ≠ id) →
      exec (.strike p l k amount) s
        = .next
          { s with
            status :=
              { s.status with heldOverflows := min (s.status.heldOverflows + 1) 65535, overrun := true } })
    ∧ (s.muted d.port = false → s.link.outs[d.port].play.length < 28 → s.held.table.length < 128 →
      (∀ e ∈ s.held.table, e.ident ≠ id) →
      exec (.strike p l k amount) s
        = .next
          { s with
            link := queued
            held :=
              { s.held with
                table := s.held.table
                  ++ [{ ident := id, handling := if z.sustain = 1#8 then .forward else .hold, state := .held,
                        release := none }] } })
    ∧ (s.muted d.port = false → s.link.outs[d.port].play.length < 28 → (∃ e ∈ s.held.table, e.ident = id) →
      exec (.strike p l k amount) s
        = .next
          { s with
            link := queued
            held :=
              { s.held with
                table := s.held.table.map fun e =>
                  if e.ident = id then
                    { e with
                      handling := if z.sustain = 1#8 then .forward else .hold, state := .held, release := none }
                  else e
                releaseOrder := s.held.releaseOrder.filter fun i => i != id } })

/-- A counter that counts `n` events, holding at 65535 (R189). -/
def Sys2Proof.Machine.countedUp (old n : Nat) : Nat := if n = 0 then old else min (old + n) 65535

/-- The Strike that a layer of a strike sends (R34, R49–R53), in the terms of `StrikeFrame`. -/
def Sys2Proof.Machine.layerFrame (s : State) (s10 : Nat) (y : Zone × Dest) : Queued :=
  { frame := strikeFrame s.settings.outbound[y.2.port].form y.2.lane y.2.key (shapeStrike s.curves y.1 s10)
    source := .zone }

/-- The entry that a layer sent leaves (R62, R63), in the terms of `StrikeFrame`. -/
def Sys2Proof.Machine.layerEntry (src : SourceTriple) (y : Zone × Dest) : Entry :=
  { ident := { src := src, dst := y.2 }, handling := if y.1.sustain = 1#8 then .forward else .hold, state := .held
    release := none }

/-- R27, R30, R31, R34, R35, R45, R62, R63: a Strike on a PLAY port, whatever its layers. Of the layers on ports that
are not muted, each is sent, or dropped by its play queue, or dropped by the table, and nothing else of the part
changes. A layer sent has its own Strike at the tail of its port's play queue, in layer order, and its entry, re-struck
in its place, leaving release order, or new at the end of table order. Release order lists identities of entries only
(`HeldInv`, which `HeldNotesKept` says every step keeps), so a new entry takes none out of it. A play queue that dropped
one holds 28 frames, a table that dropped one 128 entries and none of its identity; each drop is counted and sets
OVERRUN. The layers are offered in list order, each finding what the earlier ones have left: one with a new identity is
dropped by a full table before its play queue is asked, and one with room in the table, or an entry already there, by a
full play queue. A later layer with the destination of an earlier one is none, whatever became of the earlier one (log
entry 43). -/
def Obligations.StrikeFrame : Prop :=
  ∀ (p : Port) (l : Lane) (k : Key) (amount : StrikeAmount) (s : State),
    s.power = true → s.settings.inbound[p].role = .play → HeldInv s →
    let src : SourceTriple := { port := p, lane := l, key := k }
    let s10 := expandStrike s.settings.inbound[p].fill amount
    let heard := (layersOf s.change.active.block.zones src s10).filter fun y => !s.muted y.2.port
    ∃ (takes queueFull : Dest → Bool) (t : State), exec (.strike p l k amount) s = .next t
      ∧ (let sent := heard.filter fun y => takes y.2
        let entries := sent.map (layerEntry src)
        let refused := heard.filter fun y => !takes y.2 && queueFull y.2
        let overflowed := heard.filter fun y => !takes y.2 && !queueFull y.2
        t = { s with
              link :=
                { s.link with
                  outs := Vector.ofFn fun q =>
                    { s.link.outs[q] with
                      play := s.link.outs[q].play ++ (sent.filter fun y => y.2.port == q).map (layerFrame s s10) } }
              held :=
                { s.held with
                  table := (s.held.table.map fun e => (entries.find? fun x => x.ident == e.ident).getD e)
                    ++ entries.filter fun x => s.held.table.all fun e => e.ident != x.ident
                  releaseOrder := s.held.releaseOrder.filter fun i => entries.all fun x => x.ident != i }
              status :=
                { s.status with
                  playDrops := Vector.ofFn fun q =>
                    countedUp s.status.playDrops[q] (refused.countP fun y => y.2.port == q)
                  heldOverflows := countedUp s.status.heldOverflows overflowed.length
                  overrun := s.status.overrun || !refused.isEmpty || !overflowed.isEmpty } }
          ∧ (∀ y ∈ sent, t.link.outs[y.2.port].play.length ≤ 28)
          ∧ (∀ y ∈ sent, (∀ e ∈ s.held.table, e.ident ≠ (layerEntry src y).ident) → t.held.table.length ≤ 128)
          ∧ (∀ y ∈ refused, 28 ≤ t.link.outs[y.2.port].play.length)
          ∧ (∀ y ∈ overflowed, 128 ≤ t.held.table.length ∧ ∀ e ∈ s.held.table, e.ident ≠ (layerEntry src y).ident)
          ∧ ∀ (before : List (Zone × Dest)) (y : Zone × Dest) (after : List (Zone × Dest)), heard = before ++ y :: after →
            let earlier := before.filter fun x => takes x.2
            let fresh : Zone × Dest → Bool := fun x => s.held.table.all fun e => e.ident != (layerEntry src x).ident
            let noPlace : Prop := fresh y = true ∧ 128 ≤ s.held.table.length + earlier.countP fresh
            let noRoom : Prop :=
              28 ≤ s.link.outs[y.2.port].play.length + earlier.countP fun x => x.2.port == y.2.port
            (takes y.2 = true ↔ ¬noPlace ∧ ¬noRoom) ∧ (queueFull y.2 = true ↔ ¬noPlace ∧ noRoom))

/-- R65, R36: the key up of a Release on a PLAY port: every HELD entry of the source triple becomes SUSTAINED, when it
is HOLD and the lane's flag is down, or RELEASING, with the widened release value; nothing else changes, and nothing
is sent. -/
def Obligations.KeyUp : Prop :=
  ∀ (p : Port) (l : Lane) (k : Key) (amount : ReleaseAmount) (s : State),
    s.power = true → s.settings.inbound[p].role = .play →
    let value := expandRelease s.settings.inbound[p].fill amount
    let mine : Entry → Bool := fun e => e.ident.src = { port := p, lane := l, key := k } ∧ e.state = .held
    let sustains : Entry → Bool := fun e => e.handling = .hold ∧ s.held.sustain[p][l].down = true
    exec (.release p l k amount) s
      = .next
        { s with
          held :=
            { s.held with
              table := s.held.table.map fun e =>
                if mine e then { e with state := if sustains e then .sustained else .releasing, release := value } else e
              releaseOrder := s.held.releaseOrder
                ++ (s.held.table.filter fun e => mine e && !sustains e).map (·.ident) } }

/-- An enabled zone of source lane (p, l) whose destination lane is `d` (R29, R37, R40). -/
def Sys2Proof.Machine.leadsTo (p : Port) (l : Lane) (d : DestLane) (z : Zone) : Prop :=
  z.enabled = true ∧ z.sourcePort.toNat = p.val + 1
    ∧ (z.sourceLane.toNat = 0 ∨ z.sourceLane.toNat = l.val + 1)
    ∧ z.destPort.toNat = d.port.val + 1 ∧ z.destLane.toNat = d.lane.val + 1

/-- The destination lanes that some zone of the list leads to, each once, in the list order of the first zone that does
(R38, R40). -/
def Sys2Proof.Machine.ListedInOrder (leads : DestLane → Zone → Prop) (zones : List Zone) (listed : List DestLane) :
    Prop :=
  listed.Nodup ∧ (∀ d : DestLane, d ∈ listed ↔ ∃ z ∈ zones, leads d z)
    ∧ ∀ d e : DestLane, List.Sublist [d, e] listed →
      ∃ (before : List Zone) (z : Zone) (after : List Zone),
        zones = before ++ z :: after ∧ leads d z ∧ ∀ y ∈ before, ¬leads e y

/-- The unmuted destinations on port `q` of a control from (p, l), in list order (R37–R39). -/
def Sys2Proof.Machine.controlDestsOn (s : State) (p : Port) (l : Lane) (q : Port) : List DestLane :=
  (controlDests s.change.active.block.zones p l).filter fun d => d.port == q && !s.muted q

/-- The part with frames offered to its play queues, those of one port one after the other (R15, R39): what finds fewer
than 28 frames stands at the tail, in order; the rest is counted against the port and sets OVERRUN. -/
def Sys2Proof.Machine.offeredPlay (frames : Port → List Queued) (s : State) : State :=
  let room : Port → Nat := fun q => 28 - s.link.outs[q].play.length
  { s with
    link :=
      { s.link with
        outs := Vector.ofFn fun q =>
          { s.link.outs[q] with play := s.link.outs[q].play ++ (frames q).take (room q) } }
    status :=
      { s.status with
        playDrops := Vector.ofFn fun q => countedUp s.status.playDrops[q] ((frames q).length - room q)
        overrun := s.status.overrun || (List.finRange 8).any fun q => room q < (frames q).length } }

/-- R37–R39, R5, R15: a Control other than sustain on a PLAY port: one Control per unmuted destination lane, in list
order, with the same number and the clamped value, is offered to the play queue of its port; one that finds 28 frames is
a play drop and sets OVERRUN; nothing else of the part changes. The destinations are those of the enabled zones of the
lane whose controls pass, each once, where the first such zone stands in list order. -/
def Obligations.ControlRouted : Prop :=
  (∀ (p : Port) (l : Lane) (number : Byte) (value : Half) (s : State),
    s.power = true → s.settings.inbound[p].role = .play → number ≠ 8#8 →
    exec (.control p l number value) s
      = .next
        (offeredPlay
          (fun q =>
            (controlDestsOn s p l q).map fun d =>
              { frame := .control (laneByte d.lane) number (BitVec.ofNat 16 (min value.toNat 16383))
                source := .zone })
          s))
  ∧ ∀ (zones : List Zone) (p : Port) (l : Lane),
    ListedInOrder (fun d z => leadsTo p l d z ∧ z.controls = 1#8) zones (controlDests zones p l)

/-- The sustain Control of a destination lane (R71, R72). -/
def Sys2Proof.Machine.sustainFrame (value : Half) (d : DestLane) : Queued :=
  { frame := .control (laneByte d.lane) 8#8 value, source := .sustain }

/-- What a sustain down on source lane (p, l) leaves (R71, R73): a repeated one nothing new; a down edge the flag
down, the lanes of the forwarding list that were not listed and have fewer than 16 counts at the end of the forwarded
list, in order, each with its hold count up by one and, when that count was 0, a Control 8 of 16383; each lane with 16
counts is a held overflow. -/
def Sys2Proof.Machine.SustainedDown (p : Port) (l : Lane) (s t : State) : Prop :=
  let record := s.held.sustain[p][l]
  let count : DestLane → Nat := fun d => s.held.holds[d.port][d.lane]
  let new := (forwardingList s p l).filter fun d => !record.forwarded.contains d
  let added := new.filter fun d => count d < 16
  let refused := new.filter fun d => 16 ≤ count d
  (record.down = true → t = s)
  ∧ (record.down = false →
    t = offeredPlay
          (fun q => (added.filter fun d => d.port == q && count d == 0).map (sustainFrame 16383#16))
          { s with
            held := t.held
            status :=
              { s.status with
                heldOverflows := countedUp s.status.heldOverflows refused.length
                overrun := s.status.overrun || !refused.isEmpty } }
      ∧ t.held.sustain[p][l] = { down := true, forwarded := record.forwarded ++ added }
      ∧ t.held.table = s.held.table ∧ t.held.releaseOrder = s.held.releaseOrder
      ∧ (∀ d : DestLane, t.held.holds[d.port][d.lane] = count d + if added.contains d then 1 else 0)
      ∧ ∀ (q : Port) (m : Lane), (q, m) ≠ (p, l) → t.held.sustain[q][m] = s.held.sustain[q][m])

/-- What a sustain up on source lane (p, l) leaves (R72, R73): a repeated one nothing new; an up edge the flag up, the
SUSTAINED entries of the lane RELEASING in table order, the hold count of each listed lane down by one with, when it
falls to 0, a Control 8 of 0, in list order, and the list empty. -/
def Sys2Proof.Machine.SustainedUp (p : Port) (l : Lane) (s t : State) : Prop :=
  let record := s.held.sustain[p][l]
  let count : DestLane → Nat := fun d => s.held.holds[d.port][d.lane]
  let theirs : Entry → Bool := fun e => e.state = .sustained ∧ e.ident.src.port = p ∧ e.ident.src.lane = l
  (record.down = false → t = s)
  ∧ (record.down = true →
    { t with link := s.link, held := s.held, status := s.status } = s
      ∧ (record.forwarded.Nodup →
        t = offeredPlay
              (fun q => (record.forwarded.filter fun d => d.port == q && count d - 1 == 0).map (sustainFrame 0#16))
              { s with held := t.held })
      ∧ t.held.sustain[p][l] = { down := false, forwarded := [] }
      ∧ t.held.table = s.held.table.map (fun e => if theirs e then { e with state := .releasing } else e)
      ∧ t.held.releaseOrder = s.held.releaseOrder ++ (s.held.table.filter theirs).map (·.ident)
      ∧ (∀ d : DestLane, t.held.holds[d.port][d.lane] = count d - record.forwarded.count d)
      ∧ ∀ (q : Port) (m : Lane), (q, m) ≠ (p, l) → t.held.sustain[q][m] = s.held.sustain[q][m])

/-- R71–R74, R40: a sustain Control on a PLAY port: 8192 or more is a sustain down on its lane, less is a sustain up,
each as a down or up edge or as a repeat that changes nothing. The forwarding list names the destination lanes of the
enabled FORWARD zones of the lane, each once, where the first such zone stands in list order. -/
def Obligations.SustainEdges : Prop :=
  (∀ (p : Port) (l : Lane) (value : Half) (s : State), s.power = true → s.settings.inbound[p].role = .play →
    (8192 ≤ value.toNat → ∃ t, exec (.sustainControl p l value) s = .next t ∧ SustainedDown p l s t)
    ∧ (value.toNat < 8192 → ∃ t, exec (.sustainControl p l value) s = .next t ∧ SustainedUp p l s t))
  ∧ ∀ (s : State) (p : Port) (l : Lane),
    ListedInOrder (fun d z => leadsTo p l d z ∧ z.sustain = 1#8) s.change.active.block.zones (forwardingList s p l)

/-- The destination lanes that a PANIC finds last listed, lane by lane of the source lanes given: those of a forwarded
list that no later source lane lists (R72, R78). -/
def Sys2Proof.Machine.lastListed (s : State) : List (Port × Lane) → List DestLane
  | [] => []
  | pl :: rest =>
    (s.held.sustain[pl.1][pl.2].forwarded.filter fun d =>
        rest.all fun m => !s.held.sustain[m.1][m.2].forwarded.contains d)
      ++ lastListed s rest

/-- What a PANIC leaves (R78): every HELD and SUSTAINED entry RELEASING in table order, none gone; every sustain flag
up and every forwarded list empty; with hold counts that count the listing lanes, every count 0, and one Control 8 of
0 offered for each listed destination lane, at the last source lane that lists it. -/
def Sys2Proof.Machine.Panicked (s t : State) : Prop :=
  t.held.table = s.held.table.map (fun e => { e with state := .releasing })
    ∧ t.held.releaseOrder = s.held.releaseOrder ++ (s.held.table.filter fun e => e.state != .releasing).map (·.ident)
    ∧ (∀ (p : Port) (l : Lane), t.held.sustain[p][l].down = false
      ∧ (s.held.sustain[p][l].down = true ∨ s.held.sustain[p][l].forwarded = [] →
        t.held.sustain[p][l].forwarded = []))
    ∧ (SustainInv s →
      (∀ d : DestLane, t.held.holds[d.port][d.lane] = 0)
      ∧ t = offeredPlay
              (fun q => ((lastListed s sourceLanes).filter fun d => d.port == q).map (sustainFrame 0#16))
              { s with held := t.held })
    ∧ { t with link := s.link, held := s.held, status := s.status } = s
    ∧ ∀ q : Port, s.link.outs[q].play <+: t.link.outs[q].play
      ∧ { t.link.outs[q] with play := s.link.outs[q].play } = s.link.outs[q]

/-- R8, R117: a Sound Select on a PLAY port. With select-as-change off, or for a sound of 8–63 or above 127, nothing
changes. With it on, while the part is SWITCHING, sound 0–7 leaves GOTO SCENE sound + 1, and sound 64–127 GOTO SONG
sound − 63, origin SELECT, as the only request of the change queue; in every state it does what the CHANGE request's
GOTO does, with that origin. -/
def Obligations.SoundSelectAsChange : Prop :=
  ∀ (p : Port) (l : Lane) (bank : Half) (sound : Byte) (s : State),
    s.power = true → s.settings.inbound[p].role = .play →
    (s.settings.inbound[p].selectAsChange = false → exec (.soundSelect p l bank sound) s = .next s)
    ∧ ((7 < sound.toNat ∧ sound.toNat < 64) ∨ 127 < sound.toNat → exec (.soundSelect p l bank sound) s = .next s)
    ∧ (s.settings.inbound[p].selectAsChange = true → sound.toNat ≤ 7 →
      exec (.soundSelect p l bank sound) s = .next (offerGoto .scene (sound.toNat + 1) .select s)
      ∧ (s.change.state = .switching →
        exec (.soundSelect p l bank sound) s
          = .next
            { s with
              change :=
                { s.change with queue := [{ kind := .gotoScene, number := sound.toNat + 1, origin := .select }] } }))
    ∧ (s.settings.inbound[p].selectAsChange = true → 64 ≤ sound.toNat → sound.toNat ≤ 127 →
      exec (.soundSelect p l bank sound) s = .next (offerGoto .song (sound.toNat - 63) .select s)
      ∧ (s.change.state = .switching →
        exec (.soundSelect p l bank sound) s
          = .next
            { s with
              change :=
                { s.change with queue := [{ kind := .gotoSong, number := sound.toNat - 63, origin := .select }] } }))

/-! ## The clock -/

/-- The frames of the timing queues, as a timing queue holds them. -/
def Sys2Proof.Machine.tempoFrames (fs : List Frame) : List Queued := fs.map fun f => { frame := f, source := .tempo }

/-- A Click of feed f for sub-tick 0 of a beat of a count-in, of beat 1, or of another beat (R104). -/
def Sys2Proof.Machine.beatClick (f : Port) (counting : Bool) (bar beat : Nat) : Frame :=
  let accent : Byte := if counting then 3#8 else if beat = 1 then 2#8 else 1#8
  .click (BitVec.ofNat 8 (f.val + 1)) accent (BitVec.ofNat 16 (if counting then 0 else bar)) (BitVec.ofNat 8 beat)

/-- The part with frames offered to its timing queues, those of one port one after the other (R13, R100): what finds
fewer than 4 frames stands at the tail, in order; the rest is a timing slip of the port and sets OVERRUN. -/
def Sys2Proof.Machine.offeredTiming (frames : Port → List Frame) (s : State) : State :=
  let room : Port → Nat := fun q => 4 - s.link.outs[q].timing.length
  { s with
    link :=
      { s.link with
        outs := Vector.ofFn fun q =>
          { s.link.outs[q] with timing := s.link.outs[q].timing ++ tempoFrames ((frames q).take (room q)) } }
    status :=
      { s.status with
        timingSlips := Vector.ofFn fun q => countedUp s.status.timingSlips[q] ((frames q).length - room q)
        overrun := s.status.overrun || (List.finRange 8).any fun q => room q < (frames q).length } }

/-- What OUTq is offered in the first sub-tick of a beat that START or CONTINUE begins, the position being that of `s`
(R99, R100, R103, R105): `transport`, if tick out is on, with its Beat Tick, and then the Click of sub-tick 0 of every
enabled feed with that destination that is not SILENT, whatever its lead, in feed order. -/
def Sys2Proof.Machine.firstBeatFrames (transport : List Frame) (s : State) (q : Port) : List Frame :=
  (if s.settings.outbound[q].tickOut = true then transport ++ [.beatTick] else [])
    ++ (List.finRange 8).filterMap fun f =>
      if s.settings.feeds[f].dest = q ∧ s.settings.feeds[f].enabled = true ∧ s.tempo.feeds[f].override ≠ .silent then
        some (beatClick f (s.tempo.clock = .countIn) s.tempo.bar s.tempo.beat)
      else none

/-- What START leaves of a STOPPED clock (R91), less the reply of a request. Under tempo source PEDAL the pedals are
sampled first: a pedal slot number other than the slot that stands is in effect at once, with its meter (R86, R87). -/
def Sys2Proof.Machine.StartedFrom (s t : State) : Prop :=
  t.tempo.bar = 1 ∧ t.tempo.beat = 1 ∧ t.tempo.subTick = 0 ∧ t.tempo.rampBeat = 0
    ∧ t.tempo.tempo = beatTempo t.tempo.slots[t.tempo.inEffect] 0 ∧ t.tempo.slots = s.tempo.slots
    ∧ (0 < t.tempo.tempo →
      t.tempo.accumulator = 100000000 % t.tempo.tempo ∧ t.tempo.units = 100000000 / t.tempo.tempo)
    ∧ (let stands := s.tempo.pendingSlot.getD s.tempo.inEffect
      let sampled : Prop := s.settings.tempoSource = .pedal ∧ stands ≠ pedalSlot s
      (¬sampled → t.tempo.inEffect = s.tempo.inEffect ∧ t.tempo.meter = s.tempo.meter
        ∧ t.tempo.pendingSlot = s.tempo.pendingSlot)
      ∧ (sampled → t.tempo.inEffect = pedalSlot s ∧ t.tempo.meter = s.tempo.slots[pedalSlot s].meter
        ∧ t.tempo.pendingSlot = none))
    ∧ t.tempo.taps = s.tempo.taps
    ∧ (s.change.active.header.countIn = 0 → t.tempo.clock = .running ∧ t.tempo.countInBar = 0)
    ∧ (s.change.active.header.countIn ≠ 0 → t.tempo.clock = .countIn ∧ t.tempo.countInBar = 1)
    ∧ (∀ f : Port, t.tempo.feeds[f].override = s.tempo.feeds[f].override)
    ∧ t = offeredTiming
            (firstBeatFrames (if s.change.active.header.countIn = 0 then [.transport 1#8 1#16 1#8] else []) t)
            { s with tempo := t.tempo }
    ∧ (∀ q : Port, t.link.outs[q].play = s.link.outs[q].play ∧ t.link.outs[q].burst = s.link.outs[q].burst)
    ∧ t.settings = s.settings ∧ t.curves = s.curves ∧ t.held = s.held ∧ t.change = s.change ∧ t.store = s.store
    ∧ t.pedals = s.pedals

/-- R91, R97, R7, R99, R100, R103: START, from a Transport frame that a PLAY port accepts and from CLICK START. A
STOPPED clock begins the song, in the slot that the pedals name under tempo source PEDAL, with its Transport START where
no count-in is run, the Beat Tick and the Click of every enabled feed that is not SILENT, in that order; nothing but the
clock and those offers changes. A clock that runs ignores START, and CLICK START replies NO_CHANGE. A Transport is
dropped when the port does not accept it or its action is not 1–3. A Click counts as placed once it is offered (log
entry 23). -/
def Obligations.ClockStart : Prop :=
  (∀ (p : Port) (action : Byte) (bar : Half) (beat : Byte) (s : State),
    s.power = true → s.settings.inbound[p].role = .play →
    (s.settings.inbound[p].transportAccept = false ∨ action.toNat = 0 ∨ 3 < action.toNat →
      exec (.transport p action bar beat) s = .next s)
    ∧ (s.settings.inbound[p].transportAccept = true → s.tempo.clock ≠ .stopped →
      exec (.transport p 1#8 bar beat) s = .next s)
    ∧ (s.settings.inbound[p].transportAccept = true → s.tempo.clock = .stopped →
      ∃ t, exec (.transport p 1#8 bar beat) s = .next t ∧ StartedFrom s t ∧ t.service = s.service))
  ∧ ∀ (h : Head) (s : State), Ready h s →
    (s.tempo.clock ≠ .stopped → exec (.clickStart h) s = .next (replied h 0x43#8 .noChange [] s))
    ∧ (s.tempo.clock = .stopped →
      ∃ t, exec (.clickStart h) s = .next (replied h 0x43#8 .ok [] t) ∧ StartedFrom s t ∧ t.service = s.service)

/-- The pending slot once the pedals have been sampled at a boundary (R86, R87): that of before under tempo source
SCENE; under PEDAL, the pedal slot number selected. -/
def Sys2Proof.Machine.sampledPending (s : State) : Option Slot :=
  match s.settings.tempoSource with
  | .scene => s.tempo.pendingSlot
  | .pedal =>
    if s.tempo.pendingSlot.getD s.tempo.inEffect = pedalSlot s then s.tempo.pendingSlot
    else if pedalSlot s = s.tempo.inEffect then none
    else some (pedalSlot s)

/-! ### The switch (R76, R83, R87–R89, R96, R125–R127) -/

/-- R87: a slot that takes effect while the clock is STOPPED, the kept position adjusted to its meter. -/
def Sys2Proof.Machine.tookEffect (i : Slot) (t : Tempo) : Tempo :=
  let taken : Tempo :=
    { t with
      inEffect := i, pendingSlot := none, rampBeat := 0, tempo := beatTempo t.slots[i] 0, meter := t.slots[i].meter }
  if t.slots[i].meter < t.beat then { taken with bar := min (t.bar + 1) 9999, beat := 1, subTick := 0 } else taken

/-- R87: the tempo engine once a slot has been selected. -/
def Sys2Proof.Machine.slotSelected (i : Slot) (t : Tempo) : Tempo :=
  if t.pendingSlot.getD t.inEffect = i then t
  else if t.clock = .stopped then tookEffect i t
  else if i = t.inEffect then { t with pendingSlot := none }
  else { t with pendingSlot := some i }

/-- R83, R88: the tempo engine once slots 0–3 have been loaded from a header's tempo records, a slot without a record of
its own, or with one out of range, as the default. -/
def Sys2Proof.Machine.songLoaded (tempos : List TempoRaw) (t : Tempo) : Tempo :=
  let loaded : Tempo :=
    { t with
      slots := Vector.ofFn fun i =>
        if i.val < 4 then (tempos[i.val]?.bind tempoOfRaw?).getD TempoRecord.default else t.slots[i] }
  if 4 ≤ t.inEffect.val then loaded
  else if t.clock = .stopped then tookEffect t.inEffect loaded
  else { loaded with pendingSlot := some t.inEffect }

/-- R76: the held notes as a scene is left. Under CUT every HELD and SUSTAINED entry becomes RELEASING, in table order,
with the release value it has (a HELD entry has none, `HeldInv`); under CARRY nothing changes. -/
def Sys2Proof.Machine.heldLeft (leave : LeavePolicy) (held : Held) : Held :=
  match leave with
  | .carry => held
  | .cut =>
    { held with
      table := held.table.map fun e => if e.state = .releasing then e else { e with state := .releasing }
      releaseOrder := held.releaseOrder ++ (held.table.filter fun e => e.state != .releasing).map (·.ident) }

/-- R125 and steps 1 to 5 of R126: the part as a switch has made a copy active and handed it to the held-note table, the
feeds and the tempo slots. The mute sources follow the active copy by themselves (`State.muted`). -/
def Sys2Proof.Machine.handedOver (copy : SceneCopy) (tg : Target) (s : State) : State :=
  let fed : Tempo :=
    { s.tempo with
      feeds := Vector.ofFn fun f => { s.tempo.feeds[f] with
        override := copy.block.overrides[f].getD s.tempo.feeds[f].override } }
  let loaded : Tempo := if tg.song = true then songLoaded copy.header.tempos fed else fed
  { s with
    held := heldLeft s.change.active.block.leave s.held
    change :=
      { s.change with
        state := .switching, target := some tg, staged := none, active := copy, cursorEntry := tg.entry
        cursorScene := tg.scene, cursorPage := some tg.page, burstCursor := 0, selectPlaced := false
        flushed := Vector.replicate 8 false, adjusted := false, keepStale := true, outcome := .ok
        origin := some tg.origin }
    tempo :=
      match copy.block.tempoSlot, s.settings.tempoSource with
      | some i, .scene => slotSelected i loaded
      | _, _ => loaded
    status :=
      if tg.song = true then
        { s.status with
          fetchRepairs :=
            min (s.status.fetchRepairs + (copy.header.tempos.take 4).countP fun raw => (tempoOfRaw? raw).isNone) 65535 }
      else s.status }

/-- R96: the position of a clock that runs reset by a song change: to the first bar of the new song's count-in, where one
was run and the song has one, or to RUNNING at bar 1 with a Transport START. -/
def Sys2Proof.Machine.positionReset (s : State) : State :=
  let again : Bool := s.tempo.clock = .countIn ∧ s.change.active.header.countIn ≠ 0
  offeredTiming
    (fun q => if s.settings.outbound[q].tickOut = true ∧ again = false then [.transport 1#8 1#16 1#8] else [])
    { s with
      tempo :=
        { s.tempo with
          bar := 1, beat := 1, subTick := 0, clock := if again then .countIn else .running
          countInBar := if again then 1 else if s.tempo.clock = .countIn then 0 else s.tempo.countInBar } }

/-- R89, R86: what a beat that begins with these frames makes of a clock that runs, its position being reached: the slot
pending, or sampled from the pedals, takes effect, or a ramp moves on; at a bar boundary the meter is taken; and
nothing else changes but the frames offered. -/
def Sys2Proof.Machine.BeatBegun (bar : Bool) (frames : State → Port → List Frame) (s t : State) : Prop :=
  let pending := sampledPending s
  let slot := pending.getD s.tempo.inEffect
  t.tempo.clock = s.tempo.clock ∧ t.tempo.bar = s.tempo.bar ∧ t.tempo.beat = s.tempo.beat
    ∧ t.tempo.subTick = s.tempo.subTick ∧ t.tempo.countInBar = s.tempo.countInBar
    ∧ t.tempo.inEffect = slot ∧ t.tempo.pendingSlot = none ∧ t.tempo.slots = s.tempo.slots
    ∧ t.tempo.meter = (if bar then s.tempo.slots[slot].meter else s.tempo.meter)
    ∧ t.tempo.rampBeat
      = (if pending ≠ none then 0
         else if s.tempo.slots[slot].form = .ramp then
          min (s.tempo.rampBeat + 1) (s.tempo.slots[slot].rampBars * s.tempo.slots[slot].meter)
         else s.tempo.rampBeat)
    ∧ t.tempo.tempo = beatTempo s.tempo.slots[slot] t.tempo.rampBeat
    ∧ (0 < t.tempo.tempo →
      t.tempo.accumulator = 100000000 % t.tempo.tempo ∧ t.tempo.units = 100000000 / t.tempo.tempo)
    ∧ (∀ f : Port, t.tempo.feeds[f].override = s.tempo.feeds[f].override) ∧ t.tempo.taps = s.tempo.taps
    ∧ t = offeredTiming (frames t) { s with tempo := t.tempo }

/-- What OUTq is offered in the first sub-tick of a beat that a song-change reset begins (R99, R103, R105): a Beat Tick
where one is still to come, and the Click of every enabled feed that is not SILENT and has not placed it already. -/
def Sys2Proof.Machine.resetFrames (tick : Bool) (placed : Port → Bool) (t : State) (q : Port) : List Frame :=
  (if tick = true ∧ t.settings.outbound[q].tickOut = true then [.beatTick] else [])
    ++ (List.finRange 8).filterMap fun f =>
      if t.settings.feeds[f].dest = q ∧ t.settings.feeds[f].enabled = true ∧ t.tempo.feeds[f].override ≠ .silent
          ∧ placed f = false then
        some (beatClick f (t.tempo.clock = .countIn) t.tempo.bar t.tempo.beat)
      else none

/-- R125–R127, R96: a switch other than at a beat boundary, before its burst is placed. A STOPPED clock starts where the
new copy has auto start on; one that runs has its position reset by a song change, which begins a beat of its own.
`after` says that the switch falls at the moment of a boundary already taken, whose Beat Tick and Clicks stand for those
of the new point. -/
def Sys2Proof.Machine.SwitchedNow (after : Bool) (copy : SceneCopy) (tg : Target) (s u : State) : Prop :=
  let handed := handedOver copy tg s
  (s.tempo.clock = .stopped → copy.block.autoStart = true → StartedFrom handed u)
  ∧ (s.tempo.clock = .stopped ∧ copy.block.autoStart = false ∨ s.tempo.clock ≠ .stopped ∧ tg.song = false →
    u = handed)
  ∧ (s.tempo.clock ≠ .stopped → tg.song = true →
    BeatBegun true (resetFrames (!after) fun f => after && s.tempo.feeds[f].beatPlaced) (positionReset handed) u)

/-! ### Stopping and going on -/

/-- What STOP leaves of a clock that ran (R92), while no change is WAITING: the part with its tempo engine changed so,
and the Transport STOP of the kept position offered to the timing queue of every tick-out port. -/
def Sys2Proof.Machine.StoppedFrom (s t : State) : Prop :=
  t.tempo.clock = .stopped ∧ t.tempo.pendingSlot = none ∧ t.tempo.slots = s.tempo.slots
    ∧ t.tempo.inEffect = s.tempo.pendingSlot.getD s.tempo.inEffect
    ∧ t.tempo.meter = s.tempo.slots[t.tempo.inEffect].meter
    ∧ (s.tempo.pendingSlot = none →
      t.tempo.rampBeat = s.tempo.rampBeat
        ∧ t.tempo.tempo = beatTempo s.tempo.slots[s.tempo.inEffect] s.tempo.rampBeat)
    ∧ (s.tempo.pendingSlot ≠ none →
      t.tempo.rampBeat = 0 ∧ t.tempo.tempo = beatTempo s.tempo.slots[t.tempo.inEffect] 0)
    ∧ (s.tempo.clock = .running → s.tempo.beat ≤ t.tempo.meter →
      t.tempo.bar = s.tempo.bar ∧ t.tempo.beat = s.tempo.beat ∧ t.tempo.subTick = s.tempo.subTick)
    ∧ (s.tempo.clock = .running → t.tempo.meter < s.tempo.beat →
      t.tempo.bar = min (s.tempo.bar + 1) 9999 ∧ t.tempo.beat = 1 ∧ t.tempo.subTick = 0)
    ∧ (s.tempo.clock = .countIn → 1 ≤ t.tempo.meter →
      t.tempo.bar = 1 ∧ t.tempo.beat = 1 ∧ t.tempo.subTick = 0 ∧ t.tempo.countInBar = 0)
    ∧ (∀ q : Port,
      t.link.outs[q].timing
        = if s.settings.outbound[q].tickOut = true ∧ s.link.outs[q].timing.length < 4 then
            s.link.outs[q].timing
              ++ tempoFrames [.transport 2#8 (BitVec.ofNat 16 t.tempo.bar) (BitVec.ofNat 8 t.tempo.beat)]
          else s.link.outs[q].timing)
    ∧ t.tempo.feeds = s.tempo.feeds ∧ t.tempo.taps = s.tempo.taps
    ∧ t = offeredTiming
            (fun q =>
              if s.settings.outbound[q].tickOut = true then
                [.transport 2#8 (BitVec.ofNat 16 t.tempo.bar) (BitVec.ofNat 8 t.tempo.beat)]
              else [])
            { s with tempo := t.tempo }
    ∧ t.settings = s.settings ∧ t.curves = s.curves ∧ t.held = s.held ∧ t.change = s.change ∧ t.store = s.store
    ∧ t.pedals = s.pedals

/-- What STOP leaves of a clock that ran while a change to a copy was WAITING (R124, R92): the stop, with its kept position
and its Transport STOP, then the switch with the clock STOPPED, so that it runs again only where the new copy has auto
start on, and then the burst as BURST_PLACE places it (log entry 9). -/
def Sys2Proof.Machine.SwitchedByStop (copy : SceneCopy) (tg : Target) (s t : State) : Prop :=
  (∃ stopped u : State, StoppedFrom s stopped ∧ SwitchedNow false copy tg stopped u ∧ exec .burstPlace u = .next t)
    ∧ t.change.active = copy ∧ t.change.staged = none ∧ t.change.cursorEntry = tg.entry ∧ t.change.cursorScene = tg.scene
    ∧ t.change.cursorPage = some tg.page ∧ t.change.adjusted = false
    ∧ (copy.block.autoStart = false → t.tempo.clock = .stopped)
    ∧ t.settings = s.settings ∧ t.curves = s.curves ∧ t.pedals = s.pedals ∧ t.service = s.service

/-- R92, R97, R124: STOP, from a Transport frame and from CLICK STOP. A STOPPED clock ignores it. A clock that runs
stops with its position kept, a pending slot in effect at once, the meter of the slot in effect, and a Transport STOP
offered to every tick-out port, a timing slip where it finds no room; nothing else changes. A WAITING change makes its
switch after that, with the clock STOPPED, auto start included (R125–R127), and its burst goes on as BURST_PLACE (log
entry 9). T in effect of a clock stopped within a RAMP at index k is T_k (the model's reading, log entry 42); the index
itself is open for a slot rewritten from STEADY to RAMP whose pending rewrite was cancelled (log entry 44). -/
def Obligations.ClockStop : Prop :=
  (∀ (p : Port) (bar : Half) (beat : Byte) (s : State),
    s.power = true → s.settings.inbound[p].role = .play → s.settings.inbound[p].transportAccept = true →
    (s.tempo.clock = .stopped → exec (.transport p 2#8 bar beat) s = .next s)
    ∧ (s.tempo.clock ≠ .stopped → s.change.state ≠ .waiting →
      ∃ t, exec (.transport p 2#8 bar beat) s = .next t ∧ StoppedFrom s t ∧ t.service = s.service)
    ∧ ∀ (copy : SceneCopy) (tg : Target),
      s.tempo.clock ≠ .stopped → s.change.state = .waiting → s.change.staged = some copy → s.change.target = some tg →
      ∃ t, exec (.transport p 2#8 bar beat) s = .next t ∧ SwitchedByStop copy tg s t)
  ∧ ∀ (h : Head) (s : State), Ready h s →
    (s.tempo.clock = .stopped → exec (.clickStop h) s = .next (replied h 0x43#8 .noChange [] s))
    ∧ (s.tempo.clock ≠ .stopped → s.change.state ≠ .waiting →
      ∃ t, exec (.clickStop h) s = .next (replied h 0x43#8 .ok [] t) ∧ StoppedFrom s t ∧ t.service = s.service)
    ∧ ∀ (copy : SceneCopy) (tg : Target),
      s.tempo.clock ≠ .stopped → s.change.state = .waiting → s.change.staged = some copy → s.change.target = some tg →
      ∃ t, exec (.clickStop h) s = .next (replied h 0x43#8 .ok [] t) ∧ SwitchedByStop copy tg s t

/-- What CONTINUE leaves of a STOPPED clock (R93), less the reply of a request. -/
def Sys2Proof.Machine.ContinuedFrom (s t : State) : Prop :=
  t.tempo.clock = .running ∧ t.tempo.bar = s.tempo.bar ∧ t.tempo.beat = s.tempo.beat ∧ t.tempo.subTick = 0
    ∧ t.tempo.countInBar = 0 ∧ t.tempo.rampBeat = s.tempo.rampBeat ∧ t.tempo.inEffect = s.tempo.inEffect
    ∧ t.tempo.slots = s.tempo.slots ∧ t.tempo.meter = s.tempo.meter
    ∧ t.tempo.tempo = beatTempo s.tempo.slots[s.tempo.inEffect] s.tempo.rampBeat
    ∧ (0 < t.tempo.tempo →
      t.tempo.accumulator = 100000000 % t.tempo.tempo ∧ t.tempo.units = 100000000 / t.tempo.tempo)
    ∧ (∀ f : Port, t.tempo.feeds[f].override = s.tempo.feeds[f].override)
    ∧ t = offeredTiming
            (firstBeatFrames [.transport 3#8 (BitVec.ofNat 16 s.tempo.bar) (BitVec.ofNat 8 s.tempo.beat)] t)
            { s with tempo := t.tempo }
    ∧ t.settings = s.settings ∧ t.curves = s.curves ∧ t.held = s.held ∧ t.change = s.change ∧ t.store = s.store
    ∧ t.pedals = s.pedals

/-- R93, R97, R99, R100, R103: CONTINUE, from a Transport frame and from CLICK CONTINUE: a STOPPED clock runs on at
the kept bar and beat, with a Transport CONTINUE, the Beat Tick and the Click of every enabled feed that is not
SILENT, in that order, and nothing but the clock and those offers changes; a clock that runs ignores it. The index
that a RAMP keeps is open for a slot rewritten from STEADY to RAMP whose pending rewrite was cancelled (log entry 44).
-/
def Obligations.ClockContinue : Prop :=
  (∀ (p : Port) (bar : Half) (beat : Byte) (s : State),
    s.power = true → s.settings.inbound[p].role = .play → s.settings.inbound[p].transportAccept = true →
    (s.tempo.clock ≠ .stopped → exec (.transport p 3#8 bar beat) s = .next s)
    ∧ (s.tempo.clock = .stopped →
      ∃ t, exec (.transport p 3#8 bar beat) s = .next t ∧ ContinuedFrom s t ∧ t.service = s.service))
  ∧ ∀ (h : Head) (s : State), Ready h s →
    (s.tempo.clock ≠ .stopped → exec (.clickContinue h) s = .next (replied h 0x43#8 .noChange [] s))
    ∧ (s.tempo.clock = .stopped →
      ∃ t, exec (.clickContinue h) s = .next (replied h 0x43#8 .ok [] t) ∧ ContinuedFrom s t
        ∧ t.service = s.service)

/-- R85, R86, R87: SELECT TEMPO in every store, controller and clock state: WRONG_MODE under PEDAL, RANGE above 15,
NO_CHANGE for the slot that would stand, else the slot is selected: at once while STOPPED, with the kept position
adjusted, and pending otherwise, or the pending selection cancelled. Bit n of the pedal slot number is 1 exactly while a
pedal assigned TEMPO BIT n is settled pressed. -/
def Obligations.SelectTempo : Prop :=
  (∀ (h : Head) (slot : Byte) (s : State), Ready h s →
    (s.settings.tempoSource = .pedal → exec (.selectTempo h slot) s = .next (replied h 0x44#8 .wrongMode [] s))
    ∧ (s.settings.tempoSource = .scene → 15 < slot.toNat →
      exec (.selectTempo h slot) s = .next (replied h 0x44#8 .range [] s))
    ∧ ∀ i : Slot, s.settings.tempoSource = .scene → slot.toNat = i.val →
      (s.tempo.pendingSlot.getD s.tempo.inEffect = i →
        exec (.selectTempo h slot) s = .next (replied h 0x44#8 .noChange [] s))
      ∧ (s.tempo.pendingSlot.getD s.tempo.inEffect ≠ i →
        let selected : Tempo :=
          { s.tempo with
            inEffect := i, pendingSlot := none, rampBeat := 0, tempo := beatTempo s.tempo.slots[i] 0,
            meter := s.tempo.slots[i].meter }
        exec (.selectTempo h slot) s
          = .next
            (replied h 0x44#8 .ok []
              { s with
                tempo :=
                  if s.tempo.clock = .stopped then
                    if s.tempo.slots[i].meter < s.tempo.beat then
                      { selected with bar := min (s.tempo.bar + 1) 9999, beat := 1, subTick := 0 }
                    else selected
                  else if i = s.tempo.inEffect then { s.tempo with pendingSlot := none }
                  else { s.tempo with pendingSlot := some i } })))
  ∧ ∀ s : State,
    let bit (n : Fin 4) : Prop := ∃ i : Pedal, s.settings.pedals[i].function = .tempoBit n
      ∧ s.pedals.contacts[i].settled = some (match s.settings.pedals[i].polarity with
        | .normal => .closed
        | .inverted => .opened)
    ∀ n : Fin 4, bit n ↔ (pedalSlot s).val.testBit n.val = true

/-- The Click of sub-tick 0 of the beat after the one that runs (R94, R95, R104). -/
def Sys2Proof.Machine.nextBeatClick (f : Port) (s : State) : Frame :=
  if s.tempo.beat + 1 ≤ s.tempo.meter then
    beatClick f (s.tempo.clock = .countIn) s.tempo.bar (s.tempo.beat + 1)
  else if s.tempo.clock ≠ .countIn then beatClick f false (min (s.tempo.bar + 1) 9999) 1
  else if s.tempo.countInBar < s.change.active.header.countIn then beatClick f true 1 1
  else beatClick f false 1 1

/-- R103–R105: the Click that feed f places as sub-tick x of a beat begins, in a clock that runs: for sub-tick 0 of the
next beat when x and the lead make 960, and for the point x + lead of this beat when that lies below 960 and is a
multiple of the interval; none from a disabled or SILENT feed, and between beats only under NORMAL. -/
def Sys2Proof.Machine.clickOf (x : Nat) (f : Port) (s : State) : Option Frame :=
  let r := s.settings.feeds[f]
  let o := s.tempo.feeds[f].override
  let counting : Bool := s.tempo.clock = .countIn
  if r.enabled = false ∨ o = .silent then none
  else if x + r.lead = 960 then some (nextBeatClick f s)
  else if 960 < x + r.lead ∨ (x + r.lead) % (960 / r.subdivision) ≠ 0 then none
  else if x + r.lead = 0 then some (beatClick f counting s.tempo.bar s.tempo.beat)
  else if o = .normal then
    some (.click (BitVec.ofNat 8 (f.val + 1)) (if counting then 3#8 else 0#8)
      (BitVec.ofNat 16 (if counting then 0 else s.tempo.bar)) (BitVec.ofNat 8 s.tempo.beat))
  else none

/-- What OUTq is offered as sub-tick x of a beat begins (R99, R100, R103): its Beat Tick, if tick out is on and x is a
multiple of 20, and then the Clicks of the feeds with that destination, in feed order. -/
def Sys2Proof.Machine.subTickFrames (x : Nat) (s : State) (q : Port) : List Frame :=
  (if s.settings.outbound[q].tickOut = true ∧ x % 20 = 0 then [.beatTick] else [])
    ++ (List.finRange 8).filterMap fun f => if s.settings.feeds[f].dest = q then clickOf x f s else none

/-- R81, R99–R105: SUB_TICK. It does nothing while the clock is STOPPED or sub-tick 959 runs (the model's reading of
the row, log entry 4: the next sub-tick 0 is begun by BEAT_BOUNDARY). Otherwise the next sub-tick begins: its length
is q or q + 1 units by the accumulator; a Beat Tick, at multiples of 20, and the Clicks that the feeds decide then are
offered to the timing queues, in that order, and a frame that finds 4 there is a timing slip; a feed marks a Click
placed for the next beat, once it is offered (log entry 23); and nothing else changes. BEAT is high during sub-ticks 0
to 239 while the clock runs. -/
def Obligations.SubTick : Prop :=
  (∀ s : State, s.power = true →
    (s.tempo.clock = .stopped ∨ 959 ≤ s.tempo.subTick → exec .subTick s = .next s)
    ∧ (s.tempo.clock ≠ .stopped → s.tempo.subTick < 959 →
      let x := s.tempo.subTick + 1
      let a := s.tempo.accumulator + 100000000 % s.tempo.tempo
      exec .subTick s
        = .next
          (offeredTiming (subTickFrames x s)
            { s with
              tempo :=
                { s.tempo with
                  subTick := x
                  accumulator := if s.tempo.tempo ≤ a then a - s.tempo.tempo else a
                  units := 100000000 / s.tempo.tempo + (if s.tempo.tempo ≤ a then 1 else 0)
                  feeds := Vector.ofFn fun f =>
                    if s.settings.feeds[f].enabled = true ∧ s.tempo.feeds[f].override ≠ .silent
                        ∧ x + s.settings.feeds[f].lead = 960 then
                      { s.tempo.feeds[f] with nextPlaced := true }
                    else s.tempo.feeds[f] } })))
  ∧ ∀ s : State, s.beatOutput = true ↔ s.tempo.clock ≠ .stopped ∧ s.tempo.subTick < 240

/-- R81, R82: a beat lasts 960q + (960r div T) units: its sub-tick 0, begun with the accumulator at 0, and the 959 that
SUB_TICK begins after it. The tempo of beat k of a record is its T under STEADY; under RAMP it is T_k, the division
truncated toward zero, and T end from beat B, the length of the ramp, on. -/
def Obligations.BeatLength : Prop :=
  (∀ s : State, s.power = true → s.tempo.clock ≠ .stopped → 0 < s.tempo.tempo → s.tempo.subTick = 0 →
    s.tempo.accumulator = 100000000 % s.tempo.tempo → s.tempo.units = 100000000 / s.tempo.tempo →
    s.tempo.units + subTickUnits 959 s
      = 960 * (100000000 / s.tempo.tempo) + 960 * (100000000 % s.tempo.tempo) / s.tempo.tempo)
  ∧ ∀ (r : TempoRecord) (k : Nat),
    let beats := r.rampBars * r.meter
    (r.form = .steady → beatTempo r k = r.t)
    ∧ (r.form = .ramp → beats ≤ k → beatTempo r k = r.tEnd)
    ∧ (r.form = .ramp → k < beats → r.t ≤ r.tEnd → beatTempo r k = r.t + (r.tEnd - r.t) * k / beats)
    ∧ (r.form = .ramp → k < beats → r.tEnd < r.t → beatTempo r k = r.t - (r.t - r.tEnd) * k / beats)

/-- R98, R124: whether the boundary that ends the beat now running meets the change point of the scene being left. The
bar number of a phrase is that of the bar which begins: the song bar, the count-in bar, or bar 1 where the count-in
ends. -/
def Sys2Proof.Machine.pointMetNext (s : State) : Prop :=
  let newBar := s.tempo.meter < s.tempo.beat + 1
  let number :=
    if s.tempo.clock = .running then min (s.tempo.bar + 1) 9999
    else if s.tempo.countInBar < s.change.active.header.countIn then s.tempo.countInBar + 1
    else 1
  match s.change.active.block.changePoint with
  | .immediate | .beat => True
  | .bar => newBar
  | .phrase2 => newBar ∧ (number - 1) % 2 = 0
  | .phrase4 => newBar ∧ (number - 1) % 4 = 0
  | .phrase8 => newBar ∧ (number - 1) % 8 = 0

/-- R94, R95, R100: the position as the beat that runs ends: the next beat, the next bar, or the end of a count-in with
its Transport START. -/
def Sys2Proof.Machine.Advanced (s a : State) : Prop :=
  let wraps : Bool := s.tempo.meter < s.tempo.beat + 1
  let ends : Bool :=
    s.tempo.clock = .countIn ∧ wraps = true ∧ s.change.active.header.countIn ≤ s.tempo.countInBar
  a = offeredTiming
        (fun q => if s.settings.outbound[q].tickOut = true ∧ ends = true then [.transport 1#8 1#16 1#8] else [])
        { s with tempo := a.tempo }
    ∧ a.tempo
      = { s.tempo with
          clock := if ends then .running else s.tempo.clock
          bar := if ends then 1 else if s.tempo.clock = .running ∧ wraps = true then min (s.tempo.bar + 1) 9999
            else s.tempo.bar
          beat := if wraps then 1 else s.tempo.beat + 1
          subTick := 0
          countInBar := if ends then 0 else if s.tempo.clock = .countIn ∧ wraps = true then s.tempo.countInBar + 1
            else s.tempo.countInBar
          feeds := a.tempo.feeds }
    ∧ ∀ f : Port, a.tempo.feeds[f].override = s.tempo.feeds[f].override

/-- R86, R89, R94–R96, R98–R100, R124: BEAT_BOUNDARY. Before sub-tick 959, or with the clock STOPPED, it does nothing
(the model's reading of the row, log entry 4). After it, with no change WAITING or a change point that is not met, the
position advances, a count-in ends after its last bar with a Transport START, the slot pending, or sampled from the
pedals, takes effect or a ramp moves on, the meter is taken at a bar boundary, and the Beat Tick and the Clicks of
sub-tick 0 follow; a WAITING change waits on. A WAITING change whose change point is met makes its switch, hands the new
copy over (R125, R126) and places its burst before the beat is settled, and one that changes the song resets the
position: under RUNNING with a Transport START before the Beat Tick, in a count-in to the first bar of the new song's
count-in, or to RUNNING where it has none. The position and the tempo lie in their ranges, which `ClockKept` says every
step keeps. Beside log entry 4 this rests on log entries 20 and 21 (a song-change reset and the end of a count-in at a
boundary), 23 (a Click counts as placed once offered), 32 (every boundary meets change point IMMEDIATE, under which no
run leaves a change WAITING) and 44 (the index of a slot rewritten from STEADY to RAMP whose pending rewrite was
cancelled). -/
def Obligations.BeatBoundary : Prop :=
  ∀ s : State, s.power = true → ClockInv s →
    let c := s.change.active.header.countIn
    let wraps : Bool := s.tempo.meter < s.tempo.beat + 1
    let ends : Bool := s.tempo.clock = .countIn ∧ wraps = true ∧ c ≤ s.tempo.countInBar
    (s.tempo.clock = .stopped ∨ s.tempo.subTick ≠ 959 → exec .beatBoundary s = .next s)
    ∧ (s.tempo.clock ≠ .stopped → s.tempo.subTick = 959 → ¬(s.change.state = .waiting ∧ pointMetNext s) →
      let pending := sampledPending s
      let slot := pending.getD s.tempo.inEffect
      ∃ t, exec .beatBoundary s = .next t
        ∧ t = offeredTiming
                (fun q =>
                  (if s.settings.outbound[q].tickOut = true ∧ ends = true then [.transport 1#8 1#16 1#8] else [])
                    ++ subTickFrames 0 t q)
                { s with tempo := t.tempo }
        ∧ t.tempo.subTick = 0 ∧ t.tempo.inEffect = slot ∧ t.tempo.pendingSlot = none ∧ t.tempo.slots = s.tempo.slots
        ∧ t.tempo.beat = (if wraps then 1 else s.tempo.beat + 1)
        ∧ (s.tempo.clock = .running →
          t.tempo.clock = .running ∧ t.tempo.bar = (if wraps then min (s.tempo.bar + 1) 9999 else s.tempo.bar))
        ∧ (ends = true → t.tempo.clock = .running ∧ t.tempo.bar = 1 ∧ t.tempo.countInBar = 0)
        ∧ (s.tempo.clock = .countIn → wraps = true → s.tempo.countInBar < c →
          t.tempo.clock = .countIn ∧ t.tempo.bar = s.tempo.bar ∧ t.tempo.countInBar = s.tempo.countInBar + 1)
        ∧ (s.tempo.clock = .countIn → wraps = false →
          t.tempo.clock = .countIn ∧ t.tempo.bar = s.tempo.bar ∧ t.tempo.countInBar = s.tempo.countInBar)
        ∧ t.tempo.meter = (if t.tempo.beat = 1 then s.tempo.slots[slot].meter else s.tempo.meter)
        ∧ t.tempo.rampBeat
          = (if pending ≠ none then 0
             else if s.tempo.slots[slot].form = .ramp then
              min (s.tempo.rampBeat + 1) (s.tempo.slots[slot].rampBars * s.tempo.slots[slot].meter)
             else s.tempo.rampBeat)
        ∧ t.tempo.tempo = beatTempo s.tempo.slots[slot] t.tempo.rampBeat
        ∧ (0 < t.tempo.tempo →
          t.tempo.accumulator = 100000000 % t.tempo.tempo ∧ t.tempo.units = 100000000 / t.tempo.tempo)
        ∧ (∀ f : Port, t.tempo.feeds[f].override = s.tempo.feeds[f].override) ∧ t.tempo.taps = s.tempo.taps)
    ∧ ∀ (copy : SceneCopy) (tg : Target),
      s.tempo.clock ≠ .stopped → s.tempo.subTick = 959 → s.change.state = .waiting → s.change.staged = some copy →
      s.change.target = some tg → pointMetNext s →
      ∃ t, exec .beatBoundary s = .next t
        ∧ (∃ a u v : State, Advanced s a
          ∧ u = (if tg.song = true then positionReset (handedOver copy tg a) else handedOver copy tg a)
          ∧ exec .burstPlace u = .next v
          ∧ BeatBegun (wraps || tg.song)
              (if tg.song = true then resetFrames true fun f => s.tempo.feeds[f].nextPlaced else subTickFrames 0) v t)
        ∧ t.change.active = copy ∧ t.change.cursorEntry = tg.entry ∧ t.change.cursorScene = tg.scene
        ∧ t.change.cursorPage = some tg.page ∧ t.change.adjusted = false
        ∧ t.settings = s.settings ∧ t.curves = s.curves ∧ t.pedals = s.pedals ∧ t.service = s.service
        ∧ (tg.song = false → t.tempo.beat = (if wraps then 1 else s.tempo.beat + 1) ∧ t.tempo.subTick = 0)
        ∧ (tg.song = true →
          t.tempo.bar = 1 ∧ t.tempo.beat = 1 ∧ t.tempo.subTick = 0
            ∧ (s.tempo.clock = .running ∨ ends = true ∨ copy.header.countIn = 0 → t.tempo.clock = .running)
            ∧ (s.tempo.clock = .countIn → ends = false → copy.header.countIn ≠ 0 →
              t.tempo.clock = .countIn ∧ t.tempo.countInBar = 1))
        ∧ ∀ q : Port, s.settings.outbound[q].tickOut = true → s.link.outs[q].timing = [] →
          (tg.song = true → s.tempo.clock = .running →
            tempoFrames [.transport 1#8 1#16 1#8, .beatTick] <+: t.link.outs[q].timing)
          ∧ (tg.song = false → tempoFrames (if ends then [.transport 1#8 1#16 1#8, .beatTick] else [.beatTick])
            <+: t.link.outs[q].timing)

/-! ## Requests taken by the change controller -/

/-- The kind of change request that a stepping kind stands for. -/
def Sys2Proof.Machine.requestKind : StepKind → ChangeKind
  | .nextScene => .nextScene
  | .prevScene => .prevScene
  | .nextSong => .nextSong
  | .prevSong => .prevSong

/-- Where a fetch of a page reads from, by the operation in flight at the request (R162): none where the page is under a
clear, which serves it as EMPTY. -/
def Sys2Proof.Machine.sourceOf (page : Page) (s : State) : Option FetchSource :=
  match s.store.operation with
  | none => some .cells
  | some op =>
    match op.kind with
    | .load _ | .keepLoad _ => some .afterLoad
    | .commit p => some (if p = page then .buffer s.store.buffer else .cells)
    | .keepCommit c => some (if c.page = page then .buffer s.store.buffer else .cells)
    | .clear p => if p = page then none else some .cells

/-- What the IDLE controller is when a request has just begun a fetch (R118, R121). -/
def Sys2Proof.Machine.fetching (entry scene : Nat) (song : Bool) (origin : Origin) (page : Page) (source : FetchSource)
    (s : State) : State :=
  { s with
    change :=
      { s.change with
        state := .fetching, queue := [], staged := none
        target := some { entry := entry, scene := scene, song := song, origin := origin, page := page } }
    store := { s.store with fetch := some { page := page, scene := scene, source := source } } }

/-- What the IDLE controller is when a request has just ended with an outcome (R120, R130). -/
def Sys2Proof.Machine.requestEnded (o : ChangeOutcome) (origin : Origin) (s : State) : State :=
  { s with
    change :=
      { s.change with
        state := .idle, queue := [], target := none, staged := none, outcome := o, origin := some origin }
    status :=
      if o = .ok ∨ o = .atEnd ∨ o = .noSet then s.status else { s.status with change := true } }

/-- R118, R121, R162, R164: a request with this target asks for its fetch. A change of entry, a GOTO SONG (`song`) and
every change from the empty scene is a song change, and fetches the page of the target entry; any other fetches the
cursor page. A page under a clear ends the request EMPTY. -/
def Sys2Proof.Machine.Asked (entry scene : Nat) (song : Bool) (origin : Origin) (s t : State) : Prop :=
  let songChange : Bool := song || s.change.active.source.isNone
  ∀ page : Page,
    (if songChange then (s.settings.setList[entry - 1]?).map fun p => ⟨p.val, by omega⟩ else s.change.cursorPage)
      = some page →
    t = match sourceOf page s with
      | none => requestEnded .empty origin s
      | some source => fetching entry scene songChange origin page source s

/-- R118–R120: what the IDLE controller makes of a stepping request, with no other waiting. -/
def Sys2Proof.Machine.StepTaken (kind : StepKind) (origin : Origin) (s t : State) : Prop :=
  let n := s.settings.setList.length
  let c := s.change.active.header.sceneCount
  let e := s.change.cursorEntry
  let scene := s.change.cursorScene
  let runsOn := scene = c ∧ s.change.active.header.runOn = true ∧ e < n
  (n = 0 → t = requestEnded .noSet origin s)
  ∧ (n ≠ 0 →
    match kind with
    | .nextScene =>
      (scene < c → Asked e (scene + 1) false origin s t) ∧ (runsOn → Asked (e + 1) 1 true origin s t)
        ∧ (c ≤ scene → ¬runsOn → t = requestEnded .atEnd origin s)
    | .prevScene =>
      (1 < scene → Asked e (scene - 1) false origin s t) ∧ (scene ≤ 1 → t = requestEnded .atEnd origin s)
    | .nextSong => (e < n → Asked (e + 1) 1 true origin s t) ∧ (n ≤ e → t = requestEnded .atEnd origin s)
    | .prevSong => (1 < e → Asked (e - 1) 1 true origin s t) ∧ (e ≤ 1 → t = requestEnded .atEnd origin s))

/-- R118–R120: what the IDLE controller makes of a GOTO. -/
def Sys2Proof.Machine.GotoTaken (kind : GotoKind) (m : Nat) (origin : Origin) (s t : State) : Prop :=
  let n := s.settings.setList.length
  let last := match kind with
    | .scene => s.change.active.header.sceneCount
    | .song => n
  (n = 0 → t = requestEnded .noSet origin s)
  ∧ (n ≠ 0 → m = 0 ∨ last < m → t = requestEnded .range origin s)
  ∧ (n ≠ 0 → 1 ≤ m → m ≤ last →
    match kind with
    | .scene => Asked s.change.cursorEntry m false origin s t
    | .song => Asked m 1 true origin s t)

/-- R118–R120: what the IDLE controller, with no other request waiting, makes of a request. -/
def Sys2Proof.Machine.RequestTaken (r : ChangeRequest) (s t : State) : Prop :=
  match r.kind with
  | .nextScene => StepTaken .nextScene r.origin s t
  | .prevScene => StepTaken .prevScene r.origin s t
  | .nextSong => StepTaken .nextSong r.origin s t
  | .prevSong => StepTaken .prevSong r.origin s t
  | .gotoScene => GotoTaken .scene r.number r.origin s t
  | .gotoSong => GotoTaken .song r.number r.origin s t

/-- R115, R118, R120: what the IDLE controller makes of a change queue: it takes the head; when that ends at once, the
controller is IDLE again and takes the next, and when it begins a fetch, the rest waits in its order. -/
def Sys2Proof.Machine.QueueTaken : List ChangeRequest → State → State → Prop
  | [], s, t => t = s
  | r :: rest, s, t =>
    ∃ u, RequestTaken r s u
      ∧ if u.change.state = .idle then QueueTaken rest u t
        else t = { u with change := { u.change with queue := rest } }

/-- The controller back in IDLE after a GOTO abandoned the change in flight (R117, R163, R164): the fetch ended, an
operation that stood SUSPENDED going on; how many repairs of a fetch being read were counted is open (log entry 17).
-/
def Sys2Proof.Machine.abandoned (repairs freeTick : Nat) (s : State) : State :=
  { s with
    freeTick := freeTick
    change := { s.change with state := .idle, target := none, staged := none }
    store :=
      { s.store with
        fetch := none, operation := s.store.operation.map fun op => { op with begun := true, suspended := false } }
    status := { s.status with fetchRepairs := repairs } }

/-! ## Contacts -/

/-- R139, R149: a contact's raw level changes at a moment, and with it the time of its candidate starts at 0; a level
that is already there starts nothing. The show-lock candidate settles when it has held for 20 ms, and gives no edge to
any function. A SHOWLOCK_SETTLED that comes before its 20 ms settles nothing (log entry 6). -/
def Obligations.Contacts : Prop :=
  ∀ (i : Pedal) (level : Level) (moment : Nat) (s : State),
    exec (.pedalContactChange i level moment) s
        = .next
          { s with
            now := max s.now moment
            pedals :=
              { s.pedals with
                contacts := s.pedals.contacts.set i
                  (if s.pedals.contacts[i].raw = level then s.pedals.contacts[i]
                   else { s.pedals.contacts[i] with raw := level, since := max s.now moment }) } }
    ∧ exec (.showlockContactChange level moment) s
        = .next
          { s with
            now := max s.now moment
            pedals :=
              { s.pedals with
                showLock :=
                  if s.pedals.showLock.raw = level then s.pedals.showLock
                  else { s.pedals.showLock with raw := level, since := max s.now moment } } }
    ∧ (s.power = true →
      exec (.showlockSettled moment) s
        = .next
          { s with
            now := max s.now moment
            pedals :=
              { s.pedals with
                showLock :=
                  if s.pedals.showLock.settled ≠ some s.pedals.showLock.raw
                      ∧ s.pedals.showLock.since + 20000 ≤ max s.now moment then
                    { s.pedals.showLock with settled := some s.pedals.showLock.raw }
                  else s.pedals.showLock } })

/-- The pedal function of a stepping request (R141, R142). -/
def Sys2Proof.Machine.stepFunction : StepKind → PedalFunction
  | .nextScene => .nextScene
  | .prevScene => .prevScene
  | .nextSong => .nextSong
  | .prevSong => .prevSong

/-- R139–R145, R106, R107: PEDAL_SETTLED. A candidate that has not run its debounce does not settle. One that has
becomes the settled level; with function NONE, MUTE HOLD or TEMPO BIT, or an edge function at the first settling or at a
release, nothing else happens. A SUSTAIN pedal that settles pressed gives a sustain down on its lane, and one that is
released a sustain up. On a press PANIC panics, MUTE TOGGLE turns over the toggle of its port, CLICK TOGGLE starts a
STOPPED clock and stops another, which makes the switch of a WAITING change, and a stepping function offers its request
with origin PEDAL: appended while a change is worked on, taken at once by an IDLE controller, dropped and counted when
four wait. A TAP begins a series, or joins the last three, and from the second tap on rewrites the slot in effect as
STEADY at the tempo tapped. The model's readings: a PEDAL_SETTLED that comes before its debounce settles nothing (log
entry 6); a SUSTAIN pedal that settles released for the first time gives no sustain up (log entry 29); T end and ramp
bars of the slot that a tap rewrites are not stated (log entry 41); T in effect of a clock that CLICK TOGGLE stops
within a RAMP is T_k (log entries 42 and 44). -/
def Obligations.PedalSettled : Prop :=
  ∀ (i : Pedal) (moment : Nat) (s : State), s.power = true →
    let d := s.pedals.contacts[i]
    let r := s.settings.pedals[i]
    let now := max s.now moment
    let base : State :=
      { s with
        now := now
        pedals := { s.pedals with contacts := s.pedals.contacts.set i { d with settled := some d.raw } } }
    let pressed : Level := match r.polarity with
      | .normal => .closed
      | .inverted => .opened
    (d.settled = some d.raw ∨ now < d.since + r.debounce * 1000 →
      exec (.pedalSettled i moment) s = .next { s with now := now })
    ∧ (d.settled ≠ some d.raw → d.since + r.debounce * 1000 ≤ now →
      (r.function = .none ∨ r.function = .muteHold ∨ (∃ n, r.function = .tempoBit n) →
        exec (.pedalSettled i moment) s = .next base)
      ∧ (r.function ≠ .sustain → d.settled = none ∨ d.raw ≠ pressed → exec (.pedalSettled i moment) s = .next base)
      ∧ (r.function = .sustain →
        (d.raw = pressed → ∃ t, exec (.pedalSettled i moment) s = .next t ∧ SustainedDown r.argPort r.argLane base t)
        ∧ (d.raw ≠ pressed → d.settled ≠ none →
          ∃ t, exec (.pedalSettled i moment) s = .next t ∧ SustainedUp r.argPort r.argLane base t)
        ∧ (d.raw ≠ pressed → d.settled = none → exec (.pedalSettled i moment) s = .next base))
      ∧ (d.settled ≠ none → d.raw = pressed →
        (r.function = .muteToggle →
          exec (.pedalSettled i moment) s
            = .next
              { base with
                link :=
                  { s.link with
                    outs := s.link.outs.set r.argPort
                      { s.link.outs[r.argPort] with muteToggle := !s.link.outs[r.argPort].muteToggle } } })
        ∧ (r.function = .panic → ∃ t, exec (.pedalSettled i moment) s = .next t ∧ Panicked base t)
        ∧ (r.function = .clickToggle →
          (s.tempo.clock = .stopped →
            ∃ t, exec (.pedalSettled i moment) s = .next t ∧ StartedFrom base t ∧ t.service = s.service)
          ∧ (s.tempo.clock ≠ .stopped → s.change.state ≠ .waiting →
            ∃ t, exec (.pedalSettled i moment) s = .next t ∧ StoppedFrom base t ∧ t.service = s.service)
          ∧ ∀ (copy : SceneCopy) (tg : Target),
            s.tempo.clock ≠ .stopped → s.change.state = .waiting → s.change.staged = some copy →
            s.change.target = some tg →
            ∃ t, exec (.pedalSettled i moment) s = .next t ∧ SwitchedByStop copy tg base t)
        ∧ (∀ kind : StepKind, r.function = stepFunction kind →
          (s.change.state ≠ .idle → s.change.queue.length < 4 →
            exec (.pedalSettled i moment) s
              = .next
                { base with
                  change :=
                    { s.change with
                      queue := s.change.queue ++ [{ kind := requestKind kind, number := 0, origin := .pedal }] } })
          ∧ (4 ≤ s.change.queue.length →
            exec (.pedalSettled i moment) s
              = .next
                { base with
                  status :=
                    { s.status with
                      changeOverflows := min (s.status.changeOverflows + 1) 65535, change := true } })
          ∧ (s.change.state = .idle → s.change.queue = [] →
            ∃ t, exec (.pedalSettled i moment) s = .next t ∧ StepTaken kind .pedal base t))
        ∧ (r.function = .tap →
          (s.tempo.taps = [] ∨ (∃ last, s.tempo.taps.getLast? = some last ∧ last + 2000000 < now) →
            exec (.pedalSettled i moment) s = .next { base with tempo := { s.tempo with taps := [now] } })
          ∧ ∀ first last : Nat, s.tempo.taps.getLast? = some last → now ≤ last + 2000000 →
            let series := (s.tempo.taps ++ [now]).drop (s.tempo.taps.length - 3)
            series.head? = some first → first < now →
            let tapped :=
              max 4000 (min ((2 * (6000000000 * (series.length - 1)) + (now - first)) / (2 * (now - first))) 30000)
            let slot := s.tempo.inEffect
            ∃ t, exec (.pedalSettled i moment) s = .next t
              ∧ t = { base with tempo := t.tempo }
              ∧ t.tempo.taps = series
              ∧ t.tempo.slots[slot].form = .steady ∧ t.tempo.slots[slot].t = tapped
              ∧ t.tempo.slots[slot].meter = s.tempo.slots[slot].meter
              ∧ (∀ j : Slot, j ≠ slot → t.tempo.slots[j] = s.tempo.slots[j])
              ∧ t.tempo.inEffect = slot ∧ t.tempo.clock = s.tempo.clock
              ∧ (s.tempo.clock ≠ .stopped →
                t.tempo.pendingSlot = some slot ∧ t.tempo.tempo = s.tempo.tempo ∧ t.tempo.bar = s.tempo.bar
                  ∧ t.tempo.beat = s.tempo.beat ∧ t.tempo.subTick = s.tempo.subTick)
              ∧ (s.tempo.clock = .stopped → t.tempo.pendingSlot = none ∧ t.tempo.tempo = tapped))))

/-! ## The service unit -/

/-- R6, R16, R173–R175: every request row, by its target unit and the state of the service unit, of the waiting places
and of the paired port's service queue. Ready, it is carried out with exactly one reply, at the tail of that queue,
with unit, tag and code copied. In every other case it is a SERVICE_REQUEST, which passes it on when it is for all
parts or another part and hands it to its waiting place when it is for this part or all parts; when it is heard and
round-robin order takes it next, SERVICE_TAKE follows at once, which drops it when the service queue is full (log
entry 3 reads a row as a request that completes on its port). -/
def Obligations.RequestRows : Prop :=
  ∀ (c : Instr) (h : Head) (code : Byte) (params : List Byte) (s : State), requestOf c = some (h, code, params) →
    s.power = true →
    let told : State := { s with now := max s.now (momentOf c) }
    let heard : Prop := h.unit.toNat = s.settings.unitNumber ∨ h.unit = 15#8
    let taken : Prop := heard ∧ s.service.busy = none ∧ s.service.restart = .none ∧ NextTaken h.port s
    (Ready h s →
      ∃ t o data src, exec c s = .next t
        ∧ (t.link.outs[h.port].service
              = s.link.outs[h.port].service ++ [{ frame := .reply h.unit h.tag code o data, source := src }]
            ∨ t.link.outs[h.port].service = [{ frame := .reply h.unit h.tag code o data, source := src }])
        ∧ (∀ q : Port, q ≠ h.port → t.link.outs[q].service = s.link.outs[q].service ∨ t.link.outs[q].service = [])
        ∧ t.service.busy = some (if code = 0x2B#8 then 400 else 40) ∧ t.service.pointer = h.port
        ∧ t.service.places = s.service.places)
    ∧ (taken →
      exec c s
        = runAll [.serviceRequest h.port h.unit h.tag code params, .serviceTake (momentOf c)] s)
    ∧ (¬taken → exec c s = exec (.serviceRequest h.port h.unit h.tag code params) told)
    ∧ (taken → StaysHere h s → 4 ≤ s.link.outs[h.port].service.length →
      exec c s
        = .next
          { told with
            service := { s.service with pointer := h.port }
            status :=
              { s.status with
                serviceOverruns :=
                  s.status.serviceOverruns.set h.port (min (s.status.serviceOverruns[h.port] + 1) 65535)
                overrun := true } })
    ∧ (¬taken → StaysHere h s →
      exec c s
        = .next (heldWaiting h.port { unit := h.unit, tag := h.tag, code := code, params := params } told))
    ∧ (taken →
      let passed : State :=
        if h.unit.toNat = s.settings.unitNumber then told
        else passedOnTo h.port (.request h.unit h.tag code params) told
      passed.link.outs[h.port].service.length < 4 →
      exec c s = .next (answered h code (performBytes code params passed)))

/-- A request of fitting length whose first parameter names nothing (R97, R115, R131, R180): a CLICK with another action
than 1–3, a CHANGE with another kind than 1–6, an ADJUST or a WRITE SETTING with another item than 1–7. -/
def Sys2Proof.Machine.UnknownItem (code : Byte) (params : List Byte) : Prop :=
  let first := (params.headD 0#8).toNat
  (code = 0x43#8 ∧ params.length = 1 ∧ (first = 0 ∨ 3 < first))
    ∨ (code = 0x40#8 ∧ params.length = 2 ∧ (first = 0 ∨ 6 < first))
    ∨ (code = 0x41#8 ∧ params.length = 4 ∧ (first = 0 ∨ 7 < first))
    ∨ (code = 0x11#8 ∧ 5 ≤ params.length ∧ params.length % 2 = 1 ∧ params.length ≤ 57 ∧ (first = 0 ∨ 7 < first))

/-- R174, R176, R16: SERVICE_TAKE considers the ports in order from the one after the pointer and takes the first
occupied place: the request leaves it and is carried out with its reply, or is dropped when the reply queue is full.
What its code and parameter bytes do and answer (`performBytes`) is what the row of that request does and answers,
RESTART included. With no place occupied, or the unit not free, it takes nothing (the model's reading of the row, log
entry 4). The service time goes by the code (log entry 26), and SERVICE_TIME_END frees the unit. A request whose code or
parameter length fits no form replies MALFORMED and changes nothing; an unknown CLICK action, CHANGE kind, ADJUST item
or WRITE SETTING item gives RANGE and changes nothing. -/
def Obligations.ServiceTake : Prop :=
  (∀ (moment : Nat) (s : State), s.power = true →
    let now : State := { s with now := max s.now moment }
    (s.service.busy ≠ none ∨ s.service.restart ≠ .none ∨ (∀ p : Port, s.service.places[p] = none) →
      exec (.serviceTake moment) s = .next now)
    ∧ ∀ (p : Port) (w : Waiting) (n : Nat), s.service.busy = none → s.service.restart = .none →
      n < 8 → p.val = (s.service.pointer.val + 1 + n) % 8 → s.service.places[p] = some w →
      (∀ m (q : Port), m < n → q.val = (s.service.pointer.val + 1 + m) % 8 → s.service.places[q] = none) →
      let emptied : State := { now with service := { s.service with places := s.service.places.set p none } }
      (4 ≤ s.link.outs[p].service.length →
        exec (.serviceTake moment) s
          = .next
            { emptied with
              service := { emptied.service with pointer := p }
              status :=
                { s.status with
                  serviceOverruns := s.status.serviceOverruns.set p (min (s.status.serviceOverruns[p] + 1) 65535)
                  overrun := true } })
      ∧ (s.link.outs[p].service.length < 4 →
        exec (.serviceTake moment) s
          = .next
            (answered { port := p, unit := w.unit, tag := w.tag } w.code (performBytes w.code w.params emptied))))
  ∧ (∀ (c : Instr) (h : Head) (code : Byte) (params : List Byte) (s : State),
    requestOf c = some (h, code, params) → Ready h s →
    exec c s = .next (answered h code (performBytes code params { s with now := max s.now (momentOf c) })))
  ∧ (∀ s : State, s.power = true →
    exec .serviceTimeEnd s = .next { s with service := { s.service with busy := none } })
  ∧ ∀ (h : Head) (code : Byte) (params : List Byte) (s : State), Ready h s →
    ((parseRequest code params = none ∨ (∃ r, parseRequest code params = some r ∧ r.formOk = false)) →
      exec (.requestMalformed h code params) s = .next (replied h code .malformed [] s))
    ∧ (UnknownItem code params →
      performBytes code params s = (s, { outcome := .range, data := [] })
        ∧ exec (.requestMalformed h code params) s = .next (replied h code .range [] s))

/-- R178, R187, R188, R190, R191: IDENTIFY replies with its five items and changes nothing. READ STATUS replies with the
record as it stands and clears the flags its option names; an option that names anything else gives RANGE. READ
COUNTERS replies with the counters of its selector and, with the clear option on, sets them to 0; a selector above 8,
or an option other than on or off, gives RANGE. R191, spec 11 section 11.3: the status record has 24 bytes, with the
controller state, the queue length, the cursor, the adjusted flag, the last outcomes with their origin, the store state,
the lock and switch levels, the clock state, the position, the slot and T in effect, the held-note count, one mute bit
per port and one bit per flag where the table puts them. R187: FAULT is high while at least one flag is set. -/
def Obligations.IdentifyAndStatus : Prop :=
  (∀ (h : Head) (s : State), Ready h s →
    exec (.identify h) s
        = .next (replied h 0x01#8 .ok [0x5A#8, 88#8, 1#8, BitVec.ofNat 8 s.settings.unitNumber, 66#8] s)
    ∧ exec (.readStatus h none) s = .next (replied h 0x02#8 .ok (statusRecord s) s)
    ∧ (∀ c : Byte,
      exec (.readStatus h (some c)) s
        = .next
          (if 16 ≤ c.toNat then replied h 0x02#8 .range [] s
           else
            replied h 0x02#8 .ok (statusRecord s)
              { s with
                status :=
                  { s.status with
                    link := s.status.link && !c.getLsbD 0, overrun := s.status.overrun && !c.getLsbD 1
                    store := s.status.store && !c.getLsbD 2, change := s.status.change && !c.getLsbD 3 } }))
    ∧ (∀ sel clear : Byte, 8 < sel.toNat ∨ 1 < clear.toNat →
      exec (.readCounters h sel clear) s = .next (replied h 0x03#8 .range [] s))
    ∧ (∀ clear : Byte, clear.toNat ≤ 1 →
      exec (.readCounters h 0#8 clear) s
        = .next
          (replied h 0x03#8 .ok
            ([s.status.heldOverflows, s.status.changeOverflows, s.status.fetchRepairs].flatMap natBytes)
            (if clear = 1#8 then
              { s with status := { s.status with heldOverflows := 0, changeOverflows := 0, fetchRepairs := 0 } }
             else s)))
    ∧ ∀ (p : Port) (sel clear : Byte), sel.toNat = p.val + 1 → clear.toNat ≤ 1 →
      exec (.readCounters h sel clear) s
        = .next
          (replied h 0x03#8 .ok
            ([s.status.rejected[p], s.status.playDrops[p], s.status.timingSlips[p], s.status.serviceOverruns[p]].flatMap
              natBytes)
            (if clear = 1#8 then
              { s with
                status :=
                  { s.status with
                    rejected := s.status.rejected.set p 0, playDrops := s.status.playDrops.set p 0
                    timingSlips := s.status.timingSlips.set p 0
                    serviceOverruns := s.status.serviceOverruns.set p 0 } }
             else s)))
  ∧ ∀ (s : State) (r : List Byte), statusRecord s = r →
    r.length = 24
    ∧ r.getD 0 0#8 = (match s.change.state with
      | .idle => 0#8
      | .fetching => 1#8
      | .waiting => 2#8
      | .switching => 3#8)
    ∧ r.getD 1 0#8 = BitVec.ofNat 8 s.change.queue.length
    ∧ r.getD 2 0#8 = BitVec.ofNat 8 s.change.cursorEntry
    ∧ r.getD 3 0#8 = BitVec.ofNat 8 s.change.cursorScene
    ∧ r.getD 4 0#8 = (if s.change.adjusted then 1#8 else 0#8)
    ∧ r.getD 5 0#8 = (match s.change.outcome with
      | .ok => 0#8
      | .atEnd => 11#8
      | .noSet => 12#8
      | .range => 7#8
      | .empty => 14#8
      | .damaged => 13#8
      | .invalid => 15#8)
    ∧ r.getD 6 0#8 = (match s.change.origin with
      | none => 0#8
      | some .pedal => 1#8
      | some .select => 2#8
      | some .service => 3#8)
    ∧ r.getD 7 0#8 = (match s.store.operation with
      | none => 0#8
      | some op =>
        if op.suspended then 4#8
        else match op.kind with
          | .load _ | .keepLoad _ => 1#8
          | .commit _ | .keepCommit _ => 2#8
          | .clear _ => 3#8)
    ∧ r.getD 8 0#8 = (match s.store.lastOutcome with
      | .ok => 0#8
      | .fault => 16#8)
    ∧ r.getD 9 0#8 = (if s.store.lock then 1#8 else 0#8)
    ∧ r.getD 10 0#8 = (if s.pedals.showLock.settled = some .opened then 0#8 else 1#8)
    ∧ r.getD 11 0#8 = (match s.tempo.clock with
      | .stopped => 0#8
      | .countIn => 1#8
      | .running => 2#8)
    ∧ half (r.getD 12 0#8) (r.getD 13 0#8) = BitVec.ofNat 16 s.tempo.bar
    ∧ r.getD 14 0#8 = BitVec.ofNat 8 s.tempo.beat
    ∧ half (r.getD 15 0#8) (r.getD 16 0#8) = BitVec.ofNat 16 s.tempo.subTick
    ∧ r.getD 17 0#8 = BitVec.ofNat 8 s.tempo.countInBar
    ∧ r.getD 18 0#8 = BitVec.ofNat 8 s.tempo.inEffect.val
    ∧ half (r.getD 19 0#8) (r.getD 20 0#8) = BitVec.ofNat 16 s.tempo.tempo
    ∧ r.getD 21 0#8 = BitVec.ofNat 8 s.held.table.length
    ∧ (∀ p : Port, (r.getD 22 0#8).getLsbD p.val = s.muted p)
    ∧ (r.getD 23 0#8).getLsbD 0 = s.status.link ∧ (r.getD 23 0#8).getLsbD 1 = s.status.overrun
    ∧ (r.getD 23 0#8).getLsbD 2 = s.status.store ∧ (r.getD 23 0#8).getLsbD 3 = s.status.change
    ∧ (s.faultOutput = true ↔
      s.status.link = true ∨ s.status.overrun = true ∨ s.status.store = true ∨ s.status.change = true)

/-! ## Settings and curves -/

/-- The fields of a record with a run of values written from a start field, for `WriteSettingRecords`: none for a start
field of 0 or beyond the record, or for a run past its last field (R180, rules 3 and 4). -/
def Sys2Proof.Machine.fieldsAfter (old : List Nat) (start : Nat) (values : List Nat) : Option (List Nat) :=
  if start = 0 ∨ old.length < start ∨ old.length < start - 1 + values.length then none
  else
    some ((List.range old.length).map fun j =>
      if start - 1 ≤ j ∧ j < start - 1 + values.length then values.getD (j - (start - 1)) 0 else old.getD j 0)

/-- What a WRITE SETTING of a record leaves, for `WriteSettingRecords`: RANGE and nothing changed, or the record written
whole by `write` with the reply giving the written fields as they now stand (R180, R181). -/
def Sys2Proof.Machine.settingWritten {α : Type} (h : Head) (of? : List Nat → Option α) (fieldsOf : α → List Nat) (old : α)
    (write : α → State) (start : Byte) (values : List Half) (s : State) : State :=
  match (fieldsAfter (fieldsOf old) start.toNat (values.map BitVec.toNat)).bind of? with
  | none => replied h 0x11#8 .range [] s
  | some new =>
    replied h 0x11#8 .ok ((((fieldsOf new).drop (start.toNat - 1)).take values.length).flatMap natBytes) (write new)

/-- R180, R181, R11, R21, R102, R172, R84: WRITE SETTING of a port record, a feed record, the unit number and the tempo
source, in every state of the part: refused whole with RANGE, or written whole, by the field order and the ranges of
R179, with a new burst mode setting the interleave count to 0 and a feed's current override set from its record. A write
that leaves the burst mode as it stood keeps the interleave count (the model's reading, log entry 34). -/
def Obligations.WriteSettingRecords : Prop :=
  (∀ (h : Head) (index start : Byte) (values : List Half) (s : State), Ready h s →
    1 ≤ values.length → values.length ≤ 27 →
    (index.toNat = 0 ∨ 8 < index.toNat →
      exec (.writeSettingInboundPort h index start values) s = .next (replied h 0x11#8 .range [] s)
      ∧ exec (.writeSettingOutboundPort h index start values) s = .next (replied h 0x11#8 .range [] s)
      ∧ exec (.writeSettingFeed h index start values) s = .next (replied h 0x11#8 .range [] s))
    ∧ (∀ i : Port, index.toNat = i.val + 1 →
      exec (.writeSettingInboundPort h index start values) s
        = .next
          (settingWritten h inboundOfFields? InboundRecord.fields s.settings.inbound[i]
            (fun r => { s with settings := { s.settings with inbound := s.settings.inbound.set i r } }) start values s)
      ∧ exec (.writeSettingOutboundPort h index start values) s
        = .next
          (settingWritten h outboundOfFields? OutboundRecord.fields s.settings.outbound[i]
            (fun r =>
              { s with
                settings := { s.settings with outbound := s.settings.outbound.set i r }
                link :=
                  if r.burstMode = s.settings.outbound[i].burstMode then s.link
                  else { s.link with outs := s.link.outs.set i { s.link.outs[i] with interleave := 0 } } })
            start values s)
      ∧ exec (.writeSettingFeed h index start values) s
        = .next
          (settingWritten h feedOfFields? FeedRecord.fields s.settings.feeds[i]
            (fun r =>
              { s with
                settings := { s.settings with feeds := s.settings.feeds.set i r }
                tempo :=
                  { s.tempo with
                    feeds := s.tempo.feeds.set i { s.tempo.feeds[i] with override := r.override } } })
            start values s))
    ∧ (index ≠ 1#8 →
      exec (.writeSettingUnitNumber h index start values) s = .next (replied h 0x11#8 .range [] s)
      ∧ exec (.writeSettingTempoSource h index start values) s = .next (replied h 0x11#8 .range [] s))
    ∧ exec (.writeSettingUnitNumber h 1#8 start values) s
      = .next
        (settingWritten h (fun l => match l with | [n] => if n ≤ 14 then some n else none | _ => none) (fun n => [n])
          s.settings.unitNumber (fun n => { s with settings := { s.settings with unitNumber := n } }) start values s)
    ∧ exec (.writeSettingTempoSource h 1#8 start values) s
      = .next
        (settingWritten h (fun l => match l with | [n] => tempoSourceOfNat? n | _ => none) (fun x => [x.code])
          s.settings.tempoSource (fun x => { s with settings := { s.settings with tempoSource := x } }) start values s))
  ∧ (∀ role pass fill select accept : Nat,
    (inboundOfFields? [role, pass, fill, select, accept] = none ↔
      2 < role ∨ 8 < pass ∨ 1 < fill ∨ 1 < select ∨ 1 < accept)
    ∧ ∀ r, inboundOfFields? [role, pass, fill, select, accept] = some r →
      r.fields = [role, pass, fill, select, accept]
        ∧ (r.role = .play ↔ role = 0) ∧ (r.role = .thru ↔ role = 1) ∧ (r.role = .off ↔ role = 2)
        ∧ (∀ p : Port, r.pass = some p ↔ pass = p.val + 1) ∧ (r.fill = .zero ↔ fill = 0)
        ∧ (r.selectAsChange = true ↔ select = 1) ∧ (r.transportAccept = true ↔ accept = 1))
  ∧ (∀ form pacing settle tick mode : Nat,
    (outboundOfFields? [form, pacing, settle, tick, mode] = none ↔
      1 < form ∨ 15 < pacing ∨ 255 < settle ∨ 1 < tick ∨ 8 < mode)
    ∧ ∀ r, outboundOfFields? [form, pacing, settle, tick, mode] = some r →
      r.fields = [form, pacing, settle, tick, mode]
        ∧ (r.form = .long ↔ form = 0) ∧ r.pacing = pacing ∧ r.settle = settle ∧ (r.tickOut = true ↔ tick = 1)
        ∧ r.burstMode = mode)
  ∧ (∀ enabled dest subdivision lead override : Nat,
    (feedOfFields? [enabled, dest, subdivision, lead, override] = none ↔
      1 < enabled ∨ dest = 0 ∨ 8 < dest ∨ subdivision = 0 ∨ 4 < subdivision ∨ 63 < lead ∨ 2 < override)
    ∧ ∀ r, feedOfFields? [enabled, dest, subdivision, lead, override] = some r →
      r.fields = [enabled, dest, subdivision, lead, override]
        ∧ (r.enabled = true ↔ enabled = 1) ∧ r.dest.val + 1 = dest ∧ r.subdivision = subdivision ∧ r.lead = lead
        ∧ (r.override = .normal ↔ override = 0) ∧ (r.override = .beatsOnly ↔ override = 1)
        ∧ (r.override = .silent ↔ override = 2))
  ∧ ∀ n : Nat,
    (tempoSourceOfNat? n = none ↔ 1 < n)
    ∧ ∀ x, tempoSourceOfNat? n = some x → x.code = n ∧ (x = .scene ↔ n = 0) ∧ (x = .pedal ↔ n = 1)

/-- An on or off field as READ SETTING gives it (spec 11, 11.4). -/
def Sys2Proof.Machine.onOff (b : Bool) : Nat := if b = true then 1 else 0

/-- A pedal function by its number (spec 11, 11.4). -/
def Sys2Proof.Machine.functionNumber : PedalFunction → Nat
  | .none => 0
  | .sustain => 1
  | .nextScene => 2
  | .prevScene => 3
  | .nextSong => 4
  | .prevSong => 5
  | .panic => 6
  | .tap => 7
  | .clickToggle => 8
  | .tempoBit n => 9 + n.val
  | .muteHold => 13
  | .muteToggle => 14

/-- R179, R182: READ SETTING: RANGE with no data for an unknown item, an index outside the item's range, a start field
of 0 or beyond the record, or a count of 0; otherwise the fields as they stand, with their number, and RANGE when the
count runs past the last. The index ranges are those of R179, and so is the record that each item and index names, with
its fields in field order; nothing changes. -/
def Obligations.ReadSetting : Prop :=
  (∀ (h : Head) (item index start count : Byte) (s : State), Ready h s →
    exec (.readSetting h item index start count) s
      = .next
        (match settingItem? item.toNat index.toNat with
        | none => replied h 0x10#8 .range [] s
        | some it =>
          if start.toNat = 0 ∨ (itemFields s it).length < start.toNat ∨ count.toNat = 0 then replied h 0x10#8 .range [] s
          else if (itemFields s it).length < start.toNat - 1 + count.toNat then
            replied h 0x10#8 .range
              (BitVec.ofNat 8 ((itemFields s it).length - (start.toNat - 1))
                :: ((itemFields s it).drop (start.toNat - 1)).flatMap natBytes) s
          else
            replied h 0x10#8 .ok
              (count :: (((itemFields s it).drop (start.toNat - 1)).take count.toNat).flatMap natBytes) s))
  ∧ ∀ item index : Nat,
    ((settingItem? item index).isSome ↔
      ((item = 1 ∨ item = 2 ∨ item = 4) ∧ 1 ≤ index ∧ index ≤ 8) ∨ (item = 3 ∧ 1 ≤ index ∧ index ≤ 6)
        ∨ (item = 5 ∧ 4 ≤ index ∧ index ≤ 15) ∨ ((item = 6 ∨ item = 7) ∧ index = 1))
    ∧ ∀ s : State,
      let fields := (settingItem? item index).map (itemFields s)
      (∀ i : Port, index = i.val + 1 →
        (item = 1 →
          let r := s.settings.inbound[i]
          fields
            = some [match r.role with
                | .play => 0
                | .thru => 1
                | .off => 2,
              match r.pass with
                | none => 0
                | some q => q.val + 1,
              match r.fill with
                | .zero => 0
                | .replicate => 1,
              onOff r.selectAsChange, onOff r.transportAccept])
        ∧ (item = 2 →
          let r := s.settings.outbound[i]
          fields
            = some [match r.form with
                | .long => 0
                | .short => 1,
              r.pacing, r.settle, onOff r.tickOut, r.burstMode])
        ∧ (item = 4 →
          let r := s.settings.feeds[i]
          fields
            = some [onOff r.enabled, r.dest.val + 1, r.subdivision, r.lead,
              match r.override with
                | .normal => 0
                | .beatsOnly => 1
                | .silent => 2]))
      ∧ (∀ i : Pedal, index = i.val + 1 → item = 3 →
        let r := s.settings.pedals[i]
        fields
          = some [functionNumber r.function,
            match r.polarity with
              | .normal => 0
              | .inverted => 1,
            r.debounce, r.argPort.val + 1, r.argLane.val + 1])
      ∧ (∀ i : Slot, index = i.val → 4 ≤ i.val → item = 5 →
        let r := s.tempo.slots[i]
        fields
          = some [match r.form with
              | .steady => 0
              | .ramp => 1,
            r.t, r.tEnd, r.rampBars, r.meter])
      ∧ (index = 1 → item = 6 → fields = some [s.settings.unitNumber])
      ∧ (index = 1 → item = 7 →
        fields
          = some [match s.settings.tempoSource with
              | .scene => 0
              | .pedal => 1])

/-- R88, R180, R181: WRITE SETTING of a tempo slot 4–15. The slot is written; a write of the slot in effect takes effect
at once while the clock is STOPPED and becomes pending while it runs; of any other slot it does nothing else. An index
outside 4–15 gives RANGE, and so does a value outside the ranges of R179, to which the tempo records of a song header
are held too (R83). -/
def Obligations.WriteTempoSlot : Prop :=
  (∀ (h : Head) (index start : Byte) (values : List Half) (s : State), Ready h s →
    1 ≤ values.length → values.length ≤ 27 →
    (index.toNat < 4 ∨ 15 < index.toNat →
      exec (.writeSettingTempoSlot h index start values) s = .next (replied h 0x11#8 .range [] s))
    ∧ ∀ i : Slot, 4 ≤ i.val → index.toNat = i.val →
      exec (.writeSettingTempoSlot h index start values) s
        = .next
          (settingWritten h tempoOfFields? TempoRecord.fields s.tempo.slots[i]
            (fun r =>
              let written : Tempo := { s.tempo with slots := s.tempo.slots.set i r }
              { s with
                tempo :=
                  if i ≠ s.tempo.inEffect then written
                  else if s.tempo.clock ≠ .stopped then { written with pendingSlot := some i }
                  else
                    let taken : Tempo :=
                      { written with pendingSlot := none, rampBeat := 0, tempo := beatTempo r 0, meter := r.meter }
                    if r.meter < s.tempo.beat then
                      { taken with bar := min (s.tempo.bar + 1) 9999, beat := 1, subTick := 0 }
                    else taken })
            start values s))
  ∧ (∀ form tempo tEnd rampBars meter : Nat,
    (tempoOfFields? [form, tempo, tEnd, rampBars, meter] = none ↔
      1 < form ∨ tempo < 4000 ∨ 30000 < tempo ∨ tEnd < 4000 ∨ 30000 < tEnd ∨ rampBars = 0 ∨ 64 < rampBars ∨ meter = 0
        ∨ 16 < meter)
    ∧ ∀ r, tempoOfFields? [form, tempo, tEnd, rampBars, meter] = some r →
      r.fields = [form, tempo, tEnd, rampBars, meter]
        ∧ (r.form = .steady ↔ form = 0) ∧ (r.form = .ramp ↔ form = 1) ∧ r.t = tempo ∧ r.tEnd = tEnd
        ∧ r.rampBars = rampBars ∧ r.meter = meter)
  ∧ ∀ raw : TempoRaw,
    tempoOfRaw? raw
      = tempoOfFields? [raw.form.toNat, raw.t.toNat, raw.tEnd.toNat, raw.rampBars.toNat, raw.meter.toNat]

/-- R147, R148, R138, R139: WRITE SETTING of a pedal record. RANGE outside 1–6, for a run that does not fit the
record, and for a function above 14, a polarity above 1, a port outside 1–8 or a lane outside 1–32, which are the only
refusals; a debounce below 2 or above 50 ms is stored, and given in the reply, as 2 or 50. A record whose function,
polarity or arguments changed reassigns the pedal in two steps: the old record lets go of what it held, a pressed
SUSTAIN with a sustain up on its lane; the new record, put in place, takes hold of what the settled level presses, a
SUSTAIN with a sustain down. After a change of the debounce, a candidate that has run as long settles as PEDAL_SETTLED
settles it; that it does so after a reassignment made by the same request is the model's choice (log entry 45). -/
def Obligations.WritePedal : Prop :=
  (∀ (h : Head) (index start : Byte) (values : List Half) (moment : Nat) (s : State), Ready h s →
    1 ≤ values.length → values.length ≤ 27 →
    (index.toNat = 0 ∨ 6 < index.toNat →
      exec (.writeSettingPedal h index start values moment) s
        = .next (replied h 0x11#8 .range [] { s with now := max s.now moment }))
    ∧ ∀ i : Pedal, index.toNat = i.val + 1 →
      let old := s.settings.pedals[i]
      let d := s.pedals.contacts[i]
      let presses : Polarity → Prop := fun p => d.settled = some (match p with
        | .normal => .closed
        | .inverted => .opened)
      let written := (fieldsAfter old.fields start.toNat (values.map BitVec.toNat)).bind pedalOfFields?
      (written = none →
        exec (.writeSettingPedal h index start values moment) s
          = .next (replied h 0x11#8 .range [] { s with now := max s.now moment }))
      ∧ ∀ new : PedalRecord, written = some new →
        let reply (t : State) : State :=
          replied h 0x11#8 .ok (((new.fields.drop (start.toNat - 1)).take values.length).flatMap natBytes) t
        let reassigned : Prop := new.function ≠ old.function ∨ new.polarity ≠ old.polarity
          ∨ new.argPort ≠ old.argPort ∨ new.argLane ≠ old.argLane
        ∃ lifted pressed t : State,
          exec (.writeSettingPedal h index start values moment) s = .next (reply t)
            ∧ (let told : State := { s with now := max s.now moment }
              (reassigned ∧ old.function = .sustain ∧ presses old.polarity →
                SustainedUp old.argPort old.argLane told lifted)
              ∧ (¬(reassigned ∧ old.function = .sustain ∧ presses old.polarity) → lifted = told))
            ∧ (let put : State :=
                { lifted with settings := { s.settings with pedals := s.settings.pedals.set i new } }
              (reassigned ∧ new.function = .sustain ∧ presses new.polarity →
                SustainedDown new.argPort new.argLane put pressed)
              ∧ (¬(reassigned ∧ new.function = .sustain ∧ presses new.polarity) → pressed = put))
            ∧ (new.debounce = old.debounce → t = pressed)
            ∧ (new.debounce ≠ old.debounce → exec (.pedalSettled i moment) pressed = .next t))
  ∧ ∀ function polarity debounce port lane : Nat,
    (pedalOfFields? [function, polarity, debounce, port, lane] = none ↔
      14 < function ∨ 1 < polarity ∨ port = 0 ∨ 8 < port ∨ lane = 0 ∨ 32 < lane)
    ∧ ∀ r, pedalOfFields? [function, polarity, debounce, port, lane] = some r →
      r.fields = [function, polarity, if debounce < 2 then 2 else if 50 < debounce then 50 else debounce, port, lane]

/-- R58–R60: WRITE CURVE and then READ CURVE. A write in range replaces the points from the start point on, up to
point 128, and no other, and replies with the number written, RANGE when some were discarded; a partition outside
1–15, a start point above 128 or a value above 1023 gives RANGE with 0 and changes nothing. A READ CURVE then gives
the points as they stand. -/
def Obligations.CurveWriteAndRead : Prop :=
  (∀ (h : Head) (partition start : Byte) (points : List Half) (s : State), Ready h s → points.length ≤ 28 →
    (partition.toNat = 0 ∨ 15 < partition.toNat ∨ 128 < start.toNat ∨ (∃ v ∈ points, 1023 < v.toNat) →
      exec (.writeCurve h partition start points) s = .next (replied h 0x19#8 .range [0#8] s))
    ∧ ∀ n : Fin 15, partition.toNat = n.val + 1 → start.toNat ≤ 128 → (∀ v ∈ points, v.toNat ≤ 1023) →
      ∃ curves : Vector (Vector Nat 129) 15,
        exec (.writeCurve h partition start points) s
            = .next
              (replied h 0x19#8 (if 129 < start.toNat + points.length then .range else .ok)
                [BitVec.ofNat 8 (min points.length (129 - start.toNat))] { s with curves := curves })
          ∧ (∀ m : Fin 15, m ≠ n → curves[m] = s.curves[m])
          ∧ ∀ j : Fin 129,
            curves[n][j]
              = if start.toNat ≤ j.val ∧ j.val < start.toNat + points.length then
                  ((points.map BitVec.toNat).getD (j.val - start.toNat) 0)
                else s.curves[n][j])
  ∧ ∀ (h : Head) (partition start count : Byte) (s : State), Ready h s →
    (15 < partition.toNat ∨ 128 < start.toNat ∨ count.toNat = 0 ∨ 28 < count.toNat →
      exec (.readCurve h partition start count) s = .next (replied h 0x18#8 .range [0#8] s))
    ∧ (start.toNat ≤ 128 → 1 ≤ count.toNat → count.toNat ≤ 28 →
      let given := min count.toNat (129 - start.toNat)
      let outcome : Outcome := if 129 < start.toNat + count.toNat then .range else .ok
      (partition.toNat = 0 →
        exec (.readCurve h partition start count) s
          = .next
            (replied h 0x18#8 outcome
              (BitVec.ofNat 8 given
                :: (List.range given).flatMap fun j => natBytes (min (8 * (start.toNat + j)) 1023)) s))
      ∧ ∀ n : Fin 15, partition.toNat = n.val + 1 →
        exec (.readCurve h partition start count) s
          = .next
            (replied h 0x18#8 outcome
              (BitVec.ofNat 8 given
                :: (List.range given).flatMap fun j => natBytes (s.curves[n].toList.getD (start.toNat + j) 0)) s))

/-- R183, R114: READ SET LIST gives the length and the entries asked for. WRITE SET LIST is refused, in this order, with
LOCKED, BUSY and RANGE. Accepted with pages, in every store state, it replaces the list and asks for the first song: the
cursor entry is 1, the cursor scene and page are kept, and the controller is FETCHING scene 1 of its page, from where
R162 says, or IDLE with the outcome EMPTY where that page is under a clear (in the same step, log entry 19). Accepted
empty, it makes the empty scene active, with the cursor at entry 1, scene 1, no page, and the outcome NO_SET; the held
notes are left as the scene left bids (R76), and slots 0–3 take the default, 120.00 in meter 4, at once where one of
them is in effect (R88). -/
def Obligations.SetList : Prop :=
  (∀ (h : Head) (start count : Byte) (s : State), Ready h s →
    (start.toNat = 0 ∨ 64 < start.toNat ∨ count.toNat = 0 ∨ 54 < count.toNat →
      exec (.readSetList h start count) s = .next (replied h 0x20#8 .range [] s))
    ∧ (1 ≤ start.toNat → start.toNat ≤ 64 → 1 ≤ count.toNat → count.toNat ≤ 54 →
      let given := ((s.settings.setList.map fun p => BitVec.ofNat 8 (p.val + 1)).drop (start.toNat - 1)).take count.toNat
      exec (.readSetList h start count) s
        = .next
          (replied h 0x20#8 .ok
            (BitVec.ofNat 8 s.settings.setList.length :: BitVec.ofNat 8 given.length :: given) s)))
  ∧ ∀ (h : Head) (pages : List (BitVec 7)) (s : State), Ready h s → pages.length ≤ 65 →
    (s.store.lock = true → exec (.writeSetList h pages) s = .next (replied h 0x21#8 .locked [] s))
    ∧ (s.store.lock = false → (s.tempo.clock ≠ .stopped ∨ s.change.state ≠ .idle) →
      exec (.writeSetList h pages) s = .next (replied h 0x21#8 .busy [] s))
    ∧ (s.store.lock = false → s.tempo.clock = .stopped → s.change.state = .idle →
      (pages.length = 65 ∨ ∃ p ∈ pages, p.toNat = 0 ∨ 64 < p.toNat) →
      exec (.writeSetList h pages) s = .next (replied h 0x21#8 .range [] s))
    ∧ (s.store.lock = false → s.tempo.clock = .stopped → s.change.state = .idle →
      ∀ (first : SongPage) (rest : List SongPage), pages.map BitVec.toNat = (first :: rest).map (fun p => p.val + 1) →
      pages.length ≤ 64 →
      let page : Page := ⟨first.val, by omega⟩
      let base : State :=
        { s with
          settings := { s.settings with setList := first :: rest }, change := { s.change with cursorEntry := 1 } }
      exec (.writeSetList h pages) s
        = .next
          (replied h 0x21#8 .ok []
            (match sourceOf page base with
              | none => requestEnded .empty .service base
              | some source => fetching 1 1 true .service page source base)))
    ∧ (s.store.lock = false → s.tempo.clock = .stopped → s.change.state = .idle → pages = [] →
      ∃ t, exec (.writeSetList h pages) s = .next (replied h 0x21#8 .ok [] t)
        ∧ t.settings = { s.settings with setList := [] } ∧ t.change.active = emptyScene ∧ t.change.cursorEntry = 1
        ∧ t.change.cursorScene = 1 ∧ t.change.cursorPage = none ∧ t.change.queue = [] ∧ t.change.adjusted = false
        ∧ t.change.outcome = .noSet ∧ t.change.origin = some .service ∧ t.change.state = .idle
        ∧ (∀ i : Slot, i.val < 4 → t.tempo.slots[i] = TempoRecord.default)
        ∧ (∀ i : Slot, 4 ≤ i.val → t.tempo.slots[i] = s.tempo.slots[i])
        ∧ t.held = heldLeft s.change.active.block.leave s.held
        ∧ t.tempo = songLoaded [] s.tempo
        ∧ (s.tempo.inEffect.val < 4 →
          t.tempo.inEffect = s.tempo.inEffect ∧ t.tempo.pendingSlot = none ∧ t.tempo.tempo = 12000
            ∧ t.tempo.meter = 4 ∧ t.tempo.rampBeat = 0)
        ∧ t.tempo.clock = .stopped ∧ t.link = s.link ∧ t.store = s.store ∧ t.curves = s.curves ∧ t.pedals = s.pedals
        ∧ t.service = s.service ∧ t.status = s.status)

/-! ## The store -/

/-- R153–R155: BUFFER WRITE, BUFFER READ and PAGE READ. An offset above 4095, or a count outside 1–56, gives RANGE.
While the store is not IDLE, BUFFER WRITE and PAGE READ give BUSY. A write puts its bytes at the offsets from its own
on, wrapping from 4095 to 0, and leaves every other byte of the buffer as it was; a read gives the bytes from its
offset on, wrapping the same way, PAGE READ with the class before them. -/
def Obligations.BufferAndPageReads : Prop :=
  (∀ (h : Head) (offset : Half) (bytes : List Byte) (s : State), Ready h s → 1 ≤ bytes.length → bytes.length ≤ 56 →
    (4095 < offset.toNat → exec (.bufferWrite h offset bytes) s = .next (replied h 0x28#8 .range [] s))
    ∧ (offset.toNat ≤ 4095 → s.store.operation ≠ none →
      exec (.bufferWrite h offset bytes) s = .next (replied h 0x28#8 .busy [] s))
    ∧ (offset.toNat ≤ 4095 → s.store.operation = none → Memory.wf s.store.buffer →
      ∃ buffer : Memory,
        exec (.bufferWrite h offset bytes) s
            = .next (replied h 0x28#8 .ok [] { s with store := { s.store with buffer := buffer } })
          ∧ Memory.wf buffer
          ∧ ∀ a : Nat,
            Memory.read buffer a
              = if a < 4096 ∧ (a + 4096 - offset.toNat) % 4096 < bytes.length then
                  bytes.getD ((a + 4096 - offset.toNat) % 4096) 0#8
                else Memory.read s.store.buffer a))
  ∧ (∀ (h : Head) (offset : Half) (count : Byte) (s : State), Ready h s →
    (4095 < offset.toNat ∨ count.toNat = 0 ∨ 56 < count.toNat →
      exec (.bufferRead h offset count) s = .next (replied h 0x29#8 .range [] s))
    ∧ (offset.toNat ≤ 4095 → 1 ≤ count.toNat → count.toNat ≤ 56 →
      exec (.bufferRead h offset count) s
        = .next
          (replied h 0x29#8 .ok
            ((List.range count.toNat).map fun j => Memory.read s.store.buffer ((offset.toNat + j) % 4096)) s)))
  ∧ ∀ (h : Head) (page : Byte) (offset : Half) (count : Byte) (s : State), Ready h s →
    (s.store.operation ≠ none → exec (.pageRead h page offset count) s = .next (replied h 0x2B#8 .busy [] s))
    ∧ (s.store.operation = none →
      page.toNat = 0 ∨ 66 < page.toNat ∨ 4095 < offset.toNat ∨ count.toNat = 0 ∨ 56 < count.toNat →
      exec (.pageRead h page offset count) s = .next (replied h 0x2B#8 .range [] s))
    ∧ ∀ p : Page, s.store.operation = none → page.toNat = p.val + 1 → offset.toNat ≤ 4095 → 1 ≤ count.toNat →
      count.toNat ≤ 56 →
      exec (.pageRead h page offset count) s
        = .next
          (replied h 0x2B#8 .ok
            (s.store.classes[p].code
              :: (List.range count.toNat).map fun j => pageByte s p ((offset.toNat + j) % 4096)) s)

/-- What accepting an operation leaves (R156, R163): it stands SUSPENDED, not begun, while a fetch reads cells. -/
def Sys2Proof.Machine.accepted (kind : OperationKind) (buffer : Memory) (s : State) : State :=
  let reading : Bool := match s.store.fetch with
    | some f => f.source = .cells
    | none => false
  { s with
    store :=
      { s.store with buffer := buffer, operation := some { kind := kind, begun := !reading, suspended := reading } } }

/-- R156–R159, R163: BUFFER LOAD, COMMIT, CLEAR, STORE SETTINGS and STORE CURVES: refused in the order RANGE, BUSY,
PROTECTED (BUFFER LOAD by no protect flag), else STARTED, with the check written into the buffer of a commit at once.
-/
def Obligations.StoreOperationsAccepted : Prop :=
  ∀ (h : Head) (page : Byte) (s : State), Ready h s →
    (page.toNat = 0 ∨ 66 < page.toNat →
      exec (.bufferLoad h page) s = .next (replied h 0x2A#8 .range [] s)
      ∧ exec (.commit h page) s = .next (replied h 0x2C#8 .range [] s)
      ∧ exec (.clear h page) s = .next (replied h 0x2D#8 .range [] s))
    ∧ (∀ p : Page, page.toNat = p.val + 1 → s.store.operation ≠ none →
      exec (.bufferLoad h page) s = .next (replied h 0x2A#8 .busy [] s)
      ∧ exec (.commit h page) s = .next (replied h 0x2C#8 .busy [] s)
      ∧ exec (.clear h page) s = .next (replied h 0x2D#8 .busy [] s))
    ∧ (s.store.operation ≠ none →
      exec (.storeSettings h) s = .next (replied h 0x12#8 .busy [] s)
      ∧ exec (.storeCurves h) s = .next (replied h 0x1A#8 .busy [] s))
    ∧ (∀ p : Page, page.toNat = p.val + 1 → s.store.operation = none →
      exec (.bufferLoad h page) s = .next (replied h 0x2A#8 .started [] (accepted (.load p) s.store.buffer s))
      ∧ exec (.commit h page) s
        = .next
          (if s.store.protect[p] then replied h 0x2C#8 .pageProtected [] s
           else replied h 0x2C#8 .started [] (accepted (.commit p) (sealPage s.store.buffer) s))
      ∧ exec (.clear h page) s
        = .next
          (if s.store.protect[p] then replied h 0x2D#8 .pageProtected [] s
           else replied h 0x2D#8 .started [] (accepted (.clear p) s.store.buffer s)))
    ∧ (s.store.operation = none →
      exec (.storeSettings h) s
        = .next
          (if s.store.protect[(64 : Page)] then replied h 0x12#8 .pageProtected [] s
           else
            replied h 0x12#8 .started []
              (accepted (.commit 64)
                (sealPage (Memory.ofBytes 0 (settingsBytes s.settings s.tempo.slots))) s))
      ∧ exec (.storeCurves h) s
        = .next
          (if s.store.protect[(65 : Page)] then replied h 0x1A#8 .pageProtected [] s
           else
            replied h 0x1A#8 .started []
              (accepted (.commit 65) (sealPage (Memory.ofBytes 0 (curveBytes s.curves))) s)))

/-- R193, R171, R57, R159: what STORE SETTINGS and STORE CURVES build, a load reads back: settings in their ranges and
tempo slots 4–15 come back as they stood, and points of 0–1023 as they stood; the page check that a commit writes is
the one classification compares. -/
def Obligations.StoredPagesReadBack : Prop :=
  (∀ (st : Settings) (slots : Vector TempoRecord 16),
    (∀ i : Port, inboundOfFields? st.inbound[i].fields = some st.inbound[i]
      ∧ outboundOfFields? st.outbound[i].fields = some st.outbound[i]
      ∧ feedOfFields? st.feeds[i].fields = some st.feeds[i]) →
    (∀ i : Pedal, pedalOfFields? st.pedals[i].fields = some st.pedals[i]) →
    st.setList.length ≤ 64 → st.unitNumber ≤ 14 → (∀ i : Slot, slots[i].inRange) →
    settingsOfPage (Memory.read (sealPage (Memory.ofBytes 0 (settingsBytes st slots)))) = st
    ∧ ∀ i : Slot, 4 ≤ i.val →
      (slotsOfPage (Memory.read (sealPage (Memory.ofBytes 0 (settingsBytes st slots)))))[i] = slots[i])
  ∧ (∀ curves : Vector (Vector Nat 129) 15, (∀ (n : Fin 15) (j : Fin 129), curves[n][j] ≤ 1023) →
    curvesOfPage (Memory.read (sealPage (Memory.ofBytes 0 (curveBytes curves)))) = curves)
  ∧ ∀ image : Memory, Memory.wf image →
    storedCheck (sealPage image) = pageSum (sealPage image) ∧ pageSum (sealPage image) = pageSum image

/-- R165, R166, R169: PROTECT, UNPROTECT, PROTECT ALL and UNPROTECT ALL by the lock flag, the page, the operation in
flight and the flags as they stand; READ PROTECTION gives the flags in page order, the lock flag and the switch level.
-/
def Obligations.Protection : Prop :=
  ∀ (h : Head) (s : State), Ready h s →
    (∀ page : Byte,
      (s.store.lock = true →
        exec (.protect h page) s = .next (replied h 0x30#8 .locked [] s)
        ∧ exec (.unprotect h page) s = .next (replied h 0x31#8 .locked [] s))
      ∧ (s.store.lock = false → page.toNat = 0 ∨ 66 < page.toNat →
        exec (.protect h page) s = .next (replied h 0x30#8 .range [] s)
        ∧ exec (.unprotect h page) s = .next (replied h 0x31#8 .range [] s))
      ∧ ∀ p : Page, s.store.lock = false → page.toNat = p.val + 1 →
        ((∃ op, s.store.operation = some op ∧ op.kind.page = p) →
          exec (.protect h page) s = .next (replied h 0x30#8 .busy [] s)
          ∧ exec (.unprotect h page) s = .next (replied h 0x31#8 .busy [] s))
        ∧ ((∀ op, s.store.operation = some op → op.kind.page ≠ p) →
          exec (.protect h page) s
            = .next
              (if s.store.protect[p] then replied h 0x30#8 .noChange [] s
               else
                replied h 0x30#8 .ok []
                  { s with store := { s.store with protect := s.store.protect.set p true } })
          ∧ exec (.unprotect h page) s
            = .next
              (if s.store.protect[p] then
                replied h 0x31#8 .ok []
                  { s with store := { s.store with protect := s.store.protect.set p false } }
               else replied h 0x31#8 .noChange [] s)))
    ∧ (s.store.lock = true →
      exec (.protectAll h) s = .next (replied h 0x32#8 .locked [] s)
      ∧ exec (.unprotectAll h) s = .next (replied h 0x33#8 .locked [] s))
    ∧ (s.store.lock = false → s.store.operation ≠ none →
      exec (.protectAll h) s = .next (replied h 0x32#8 .busy [] s)
      ∧ exec (.unprotectAll h) s = .next (replied h 0x33#8 .busy [] s))
    ∧ (s.store.lock = false → s.store.operation = none →
      exec (.protectAll h) s
        = .next
          (if s.store.protect = Vector.replicate 66 true then replied h 0x32#8 .noChange [] s
           else
            replied h 0x32#8 .ok [] { s with store := { s.store with protect := Vector.replicate 66 true } })
      ∧ exec (.unprotectAll h) s
        = .next
          (if s.store.protect = Vector.replicate 66 false then replied h 0x33#8 .noChange [] s
           else
            replied h 0x33#8 .ok [] { s with store := { s.store with protect := Vector.replicate 66 false } }))
    ∧ ∃ flags : List Byte,
      exec (.readProtection h) s
          = .next
            (replied h 0x36#8 .ok
              (flags ++ [if s.store.lock then 1#8 else 0#8, if s.switchOn then 1#8 else 0#8]) s)
        ∧ flags.length = 9
        ∧ (∀ p : Page, (flags.getD (p.val / 8) 0#8).getLsbD (p.val % 8) = s.store.protect[p])
        ∧ ∀ b : Nat, 2 ≤ b → b < 8 → (flags.getD 8 0#8).getLsbD b = false

/-- R168, R167: LOCK sets the lock flag; UNLOCK is NO_CHANGE when it is clear, LOCKED while the switch level is ON,
which an UNSETTLED switch reads as, and otherwise clears it; in every store state. -/
def Obligations.LockAndUnlock : Prop :=
  ∀ (h : Head) (s : State), Ready h s →
    exec (.lock h) s
        = .next
          (if s.store.lock then replied h 0x34#8 .noChange [] s
           else replied h 0x34#8 .ok [] { s with store := { s.store with lock := true } })
    ∧ (s.store.lock = false → exec (.unlock h) s = .next (replied h 0x35#8 .noChange [] s))
    ∧ (s.store.lock = true → s.pedals.showLock.settled ≠ some .opened →
      exec (.unlock h) s = .next (replied h 0x35#8 .locked [] s))
    ∧ (s.store.lock = true → s.pedals.showLock.settled = some .opened →
      exec (.unlock h) s = .next (replied h 0x35#8 .ok [] { s with store := { s.store with lock := false } }))

/-- The byte at an offset of a page once an operation that writes `byte` there has ended: the last deviation at that
offset, if there is one (log entry 10). -/
def Sys2Proof.Machine.readBack (deviations : List Host.Cell) (byte : Nat → Byte) (i : Nat) : Byte :=
  match deviations.reverse.find? fun c => c.1 == i with
  | some c => c.2
  | none => byte i

/-- What the end of a commit leaves of the store, a commit of a KEEP ADJUSTMENTS included (R135, R152, R157, R160): the
page holds what was read back (log entry 10), which is the buffer where nothing reads back wrong, with the class that
its committed scene count gives; or the commit ends FAULT and the page is DAMAGED. -/
def Sys2Proof.Machine.PageCommitted (p : Page) (deviations : List Host.Cell) (s t : State) : Prop :=
  let written := Memory.read s.store.buffer
  let sceneCount := (written 17).toNat
  let wrong : Prop := ∃ i, i < 4096 ∧ readBack deviations written i ≠ written i
  t.store.operation = none ∧ t.store.buffer = s.store.buffer ∧ t.store.protect = s.store.protect
    ∧ t.store.fetch = s.store.fetch ∧ t.settings = s.settings ∧ t.curves = s.curves
    ∧ (∀ q : Page, q ≠ p → t.store.classes[q] = s.store.classes[q] ∧ ∀ i, i < 4096 → pageByte t q i = pageByte s q i)
    ∧ (∀ i, i < 4096 → pageByte t p i = readBack deviations written i)
    ∧ (¬wrong →
      t.store.lastOutcome = .ok ∧ t.status = s.status
        ∧ t.store.classes[p] = (if p.val < 64 ∧ (sceneCount = 0 ∨ 8 < sceneCount) then .invalid else .good))
    ∧ (wrong →
      t.store.lastOutcome = .fault ∧ t.status = { s.status with store := true } ∧ t.store.classes[p] = .damaged)

/-- R152, R136, R156–R158, R160, R163: the ends of a BUFFER LOAD, a commit, the commit of a KEEP ADJUSTMENTS and a
clear, and the suspension of an operation for a fetch. A commit or clear ends FAULT exactly when a byte of the page
reads back otherwise than it was written; the operand of the row lists the cells that do, and the page holds what was
read back (the model's choice, log entry 10). The commit of a KEEP ADJUSTMENTS ends like any other, and clears the
adjusted flag where it ends OK and nothing has been adjusted or switched since it was accepted. An operation that has
not begun, or stands SUSPENDED, does not end, and the row of an end with no operation of its kind at work does nothing,
nor does OPERATION_SUSPENDED with no operation in flight or no fetch that reads the cells (log entry 4). -/
def Obligations.StoreOperationsEnd : Prop :=
  (∀ (s : State) (p : Page), s.power = true → s.store.fetch = none →
    s.store.operation = some { kind := .load p, begun := true, suspended := false } →
    exec .bufferLoadEnd s
      = .next
        { s with
          store :=
            { s.store with
              buffer := s.store.image p, operation := none
              lastOutcome := if s.store.classes[p] = .damaged then .fault else .ok }
          status := if s.store.classes[p] = .damaged then { s.status with store := true } else s.status })
  ∧ (∀ (s : State) (p : Page) (deviations : List Host.Cell), s.power = true →
    s.store.operation = some { kind := .commit p, begun := true, suspended := false } →
    MemoryInv s → (∀ c ∈ s.store.buffer, c.1 < 4096) →
    ∃ t, exec (.commitEnd deviations) s = .next t ∧ PageCommitted p deviations s t ∧ t.change = s.change)
  ∧ (∀ (s : State) (c : KeepCapture), s.power = true →
    s.store.operation = some { kind := .keepCommit c, begun := true, suspended := false } →
    ∃ t, exec (.commitEnd []) s = .next t ∧ t.store.operation = none ∧ t.store.lastOutcome = .ok
      ∧ t.change = { s.change with adjusted := s.change.adjusted && s.change.keepStale })
  ∧ (∀ (s : State) (c : KeepCapture) (deviations : List Host.Cell), s.power = true →
    s.store.operation = some { kind := .keepCommit c, begun := true, suspended := false } →
    MemoryInv s → (∀ x ∈ s.store.buffer, x.1 < 4096) →
    let wrong : Prop :=
      ∃ i, i < 4096 ∧ readBack deviations (Memory.read s.store.buffer) i ≠ Memory.read s.store.buffer i
    ∃ t, exec (.commitEnd deviations) s = .next t ∧ PageCommitted c.page deviations s t
      ∧ (wrong → t.change = s.change)
      ∧ (¬wrong → t.change = { s.change with adjusted := s.change.adjusted && s.change.keepStale }))
  ∧ (∀ (s : State) (p : Page) (deviations : List Host.Cell), s.power = true →
    s.store.operation = some { kind := .clear p, begun := true, suspended := false } → Memory.wf s.store.cells →
    let wrong : Prop := ∃ i, i < 4096 ∧ readBack deviations (fun _ => 0xFF#8) i ≠ 0xFF#8
    ∃ t, exec (.clearEnd deviations) s = .next t
      ∧ t.store.operation = none ∧ t.store.buffer = s.store.buffer ∧ t.store.protect = s.store.protect
      ∧ (∀ q : Page, q ≠ p → t.store.classes[q] = s.store.classes[q] ∧ ∀ i, i < 4096 → pageByte t q i = pageByte s q i)
      ∧ (∀ i, i < 4096 → pageByte t p i = readBack deviations (fun _ => 0xFF#8) i)
      ∧ (¬wrong → t.store.lastOutcome = .ok ∧ t.status = s.status ∧ t.store.classes[p] = .empty)
      ∧ (wrong →
        t.store.lastOutcome = .fault ∧ t.status = { s.status with store := true } ∧ t.store.classes[p] = .damaged))
  ∧ (∀ (s : State) (op : Operation) (f : Fetch), s.power = true → s.store.operation = some op →
    s.store.fetch = some f → f.source = .cells →
    exec .operationSuspended s
      = .next { s with store := { s.store with operation := some { op with suspended := true } } })
  ∧ ∀ (s : State) (deviations : List Host.Cell), s.power = true →
    let atWork (kind : OperationKind) : Prop :=
      ∃ op, s.store.operation = some op ∧ op.kind = kind ∧ op.begun = true ∧ op.suspended = false
    ((∀ p, ¬atWork (.load p)) → exec .bufferLoadEnd s = .next s)
      ∧ ((∀ c, ¬atWork (.keepLoad c)) → exec .keepLoadEnd s = .next s)
      ∧ ((∀ p, ¬atWork (.commit p)) → (∀ c, ¬atWork (.keepCommit c)) → exec (.commitEnd deviations) s = .next s)
      ∧ ((∀ p, ¬atWork (.clear p)) → exec (.clearEnd deviations) s = .next s)
      ∧ ((s.store.operation = none ∨ s.store.fetch = none ∨ ∃ f, s.store.fetch = some f ∧ f.source ≠ .cells) →
        exec .operationSuspended s = .next s)

/-- The bytes of a zone record of a page (spec 11, 11.4), a repaired zone with the enabled value it was fetched with
(R135). -/
def Sys2Proof.Machine.keptZone (z : Zone) : List Byte :=
  [z.sourcePort, z.sourceLane, z.keyLow, z.keyHigh, hiByte z.strikeLow, loByte z.strikeLow, hiByte z.strikeHigh,
    loByte z.strikeHigh, z.destPort, z.destLane, z.transpose, z.edge, z.sustain, z.controls,
    if z.repaired then z.enabledStored else if z.enabled then 1#8 else 0#8, z.curve, z.gain, hiByte z.offset,
    loByte z.offset]

/-- The first 27 bytes of a scene block of a page (spec 11, 11.4), an absent optional field as 0xFF. -/
def Sys2Proof.Machine.keptFields (b : SceneBlock) : List Byte :=
  b.name
    ++ [match b.tempoSlot with
          | none => 0xFF#8
          | some slot => BitVec.ofNat 8 slot.val,
        match b.changePoint with
          | .immediate => 0#8
          | .beat => 1#8
          | .bar => 2#8
          | .phrase2 => 3#8
          | .phrase4 => 4#8
          | .phrase8 => 5#8,
        match b.leave with
          | .carry => 0#8
          | .cut => 1#8,
        b.muteSet]
    ++ (b.overrides.toList.map fun o =>
        match o with
        | none => 0xFF#8
        | some .normal => 0#8
        | some .beatsOnly => 1#8
        | some .silent => 2#8)
    ++ [if b.autoStart then 1#8 else 0#8, BitVec.ofNat 8 b.zones.length, BitVec.ofNat 8 b.bursts.length]

/-- The bytes of a tempo record of a page (spec 11, 11.4). -/
def Sys2Proof.Machine.keptTempo (r : TempoRecord) : List Byte :=
  [match r.form with
    | .steady => 0#8
    | .ramp => 1#8,
   hiByte (BitVec.ofNat 16 r.t), loByte (BitVec.ofNat 16 r.t), hiByte (BitVec.ofNat 16 r.tEnd),
   loByte (BitVec.ofNat 16 r.tEnd), BitVec.ofNat 8 r.rampBars, BitVec.ofNat 8 r.meter]

/-- R135: the byte at an offset below the check that KEEP ADJUSTMENTS commits: the captured scene block, its zones and
burst entries over that block, the captured slots over the tempo records with their count raised, and for the rest
what the page held (the records beyond the counts among it: log entry 25). -/
def Sys2Proof.Machine.keptByte (c : KeepCapture) (page : Nat → Byte) (a : Nat) : Byte :=
  let base := 48 + (c.scene - 1) * 427
  let run (start : Nat) (bytes : List Byte) : Option Byte := if start ≤ a then bytes[a - start]? else none
  ((run base (keptFields c.block)).or
    ((run (base + 27) (c.block.zones.flatMap keptZone)).or
      ((run (base + 331)
          (c.block.bursts.flatMap fun e => [e.port, e.lane, hiByte e.bank, loByte e.bank, e.sound, e.level])).or
        (run 20 (c.slots.flatMap keptTempo))))).getD
    (if a = 19 ∧ (page 19).toNat < c.slots.length then BitVec.ofNat 8 c.slots.length else page a)

/-- R134, R135, R156: KEEP ADJUSTMENTS is refused, in this order, with NO_SET, BUSY and PROTECTED, else STARTED with
the cursor page and scene, the scene block of the active copy and the slots up to the slot in effect captured. Its
load step ends FAULT when the page is not GOOD or the scene lies beyond the loaded scene count; otherwise the buffer
holds the page with every captured field in its place, and sealed, and the commit begins. Records beyond the captured
counts stay as the page had them (log entry 25). -/
def Obligations.KeepAdjustments : Prop :=
  (∀ (h : Head) (s : State), Ready h s →
    (s.change.active.source = none → exec (.keepAdjustments h) s = .next (replied h 0x42#8 .noSet [] s))
    ∧ ∀ p : Page, s.change.active.source ≠ none → s.change.cursorPage = some p →
      (s.store.operation ≠ none → exec (.keepAdjustments h) s = .next (replied h 0x42#8 .busy [] s))
      ∧ (s.store.operation = none → s.store.protect[p] = true →
        exec (.keepAdjustments h) s = .next (replied h 0x42#8 .pageProtected [] s))
      ∧ (s.store.operation = none → s.store.protect[p] = false →
        exec (.keepAdjustments h) s
          = .next
            (replied h 0x42#8 .started []
              (accepted
                (.keepLoad
                  { page := p, scene := s.change.cursorScene, block := s.change.active.block
                    slots :=
                      if s.tempo.inEffect.val < 4 then s.tempo.slots.toList.take (s.tempo.inEffect.val + 1) else [] })
                s.store.buffer { s with change := { s.change with keepStale := false } }))))
  ∧ ∀ (s : State) (c : KeepCapture), s.power = true → s.store.fetch = none →
    s.store.operation = some { kind := .keepLoad c, begun := true, suspended := false } →
    ((s.store.classes[c.page] ≠ .good ∨ (pageByte s c.page 17).toNat < c.scene) →
      exec .keepLoadEnd s
        = .next
          { s with
            store :=
              { s.store with buffer := s.store.image c.page, operation := none, lastOutcome := .fault }
            status := { s.status with store := true } })
    ∧ (s.store.classes[c.page] = .good → c.scene ≤ (pageByte s c.page 17).toNat → 1 ≤ c.scene → c.scene ≤ 8 →
      MemoryInv s → c.block.name.length = 12 → c.block.zones.length ≤ 16 → c.block.bursts.length ≤ 16 →
      c.slots.length ≤ 4 →
      ∃ buffer : Memory,
        exec .keepLoadEnd s
            = .next
              { s with
                store :=
                  { s.store with
                    buffer := buffer
                    operation := some { kind := .keepCommit c, begun := true, suspended := false } } }
          ∧ storedCheck buffer = pageSum buffer
          ∧ ∀ a, a < 4094 → Memory.read buffer a = keptByte c (pageByte s c.page) a)

/-! ## Changes -/

/-- R115–R117: a CHANGE while a change is worked on. A step is appended, origin SERVICE, and replies QUEUED while the
queue holds fewer than 4 requests; otherwise it is dropped, counted, sets CHANGE and replies OVERFLOW. A GOTO while
SWITCHING replies QUEUED and is the only request of the queue. -/
def Obligations.ChangeQueue : Prop :=
  ∀ (h : Head) (number : Byte) (s : State), Ready h s →
    (∀ kind : StepKind, s.change.state ≠ .idle →
      (s.change.queue.length < 4 →
        exec (.changeStep h kind number) s
          = .next
            (replied h 0x40#8 .queued []
              { s with
                change :=
                  { s.change with
                    queue := s.change.queue
                      ++ [{ kind := requestKind kind, number := number.toNat, origin := .service }] } }))
      ∧ (4 ≤ s.change.queue.length →
        exec (.changeStep h kind number) s
          = .next
            (replied h 0x40#8 .overflow []
              { s with
                status :=
                  { s.status with
                    changeOverflows := min (s.status.changeOverflows + 1) 65535, change := true } })))
    ∧ (s.change.state = .switching →
      exec (.changeGoto h .scene number) s
          = .next
            (replied h 0x40#8 .queued []
              { s with
                change :=
                  { s.change with
                    queue := [{ kind := .gotoScene, number := number.toNat, origin := .service }] } })
      ∧ exec (.changeGoto h .song number) s
          = .next
            (replied h 0x40#8 .queued []
              { s with
                change :=
                  { s.change with
                    queue := [{ kind := .gotoSong, number := number.toNat, origin := .service }] } }))

/-- R117–R121, R130, R162, R164: requests taken by the controller, in every store state. A stepping request in IDLE
with an empty queue, and a GOTO in IDLE, is taken at once by the table of R119: NO_SET with an empty set list, AT_END
or RANGE where it has no target, else a fetch, from the cells, the page buffer or after a load, or EMPTY from a page
under a clear. A GOTO in WAITING or FETCHING first abandons the change in flight. A CHANGE replies QUEUED. How many
repairs of an abandoned fetch were counted is open (log entry 17), and a fetch of a page under a clear ends EMPTY in
the step that asks for it (log entry 19). -/
def Obligations.TakeRequest : Prop :=
  ∀ (h : Head) (number : Byte) (s : State), Ready h s →
    (s.change.state = .idle → s.change.queue = [] →
      ∀ kind, ∃ t, exec (.changeStep h kind number) s = .next (replied h 0x40#8 .queued [] t)
        ∧ StepTaken kind .service s t)
    ∧ ∀ kind : GotoKind,
      (s.change.state = .idle →
        ∃ t, exec (.changeGoto h kind number) s = .next (replied h 0x40#8 .queued [] t)
          ∧ GotoTaken kind number.toNat .service s t)
      ∧ (s.change.state = .waiting → s.store.fetch = none →
        ∃ t, exec (.changeGoto h kind number) s = .next (replied h 0x40#8 .queued [] t)
          ∧ GotoTaken kind number.toNat .service
              { s with change := { s.change with state := .idle, target := none, staged := none } } t)
      ∧ (s.change.state = .fetching → s.store.fetch ≠ none →
        ∃ (repairs freeTick : Nat) (t : State),
          exec (.changeGoto h kind number) s = .next (replied h 0x40#8 .queued [] t)
            ∧ GotoTaken kind number.toNat .service (abandoned repairs freeTick s) t
            ∧ (CounterInv s → s.status.fetchRepairs ≤ repairs ∧ repairs ≤ 65535)
            ∧ (∀ f op, s.store.fetch = some f → s.store.operation = some op →
              f.source = .afterLoad ∨ (f.source = .cells ∧ op.suspended = false) → CounterInv s →
              repairs = s.status.fetchRepairs))

/-- Whether a fetch is being read (R162, R163): it waits for no load, and for no operation to stop. -/
def Sys2Proof.Machine.beingRead (f : Fetch) (s : State) : Prop :=
  f.source ≠ .afterLoad ∧ (f.source = .cells → ∀ op, s.store.operation = some op → op.suspended = true)

/-- The bytes that a fetch reads (R162). -/
def Sys2Proof.Machine.readFrom (f : Fetch) (s : State) : Nat → Byte :=
  match f.source with
  | .buffer image => Memory.read image
  | _ => Memory.read (s.store.image f.page)

/-- The class that a fetch finds (R162): that of the page, or, for the buffer, the one its scene count gives. -/
def Sys2Proof.Machine.foundClass (f : Fetch) (s : State) : PageClass :=
  match f.source with
  | .buffer _ =>
    if f.page.val < 64 ∧ ((readFrom f s 17).toNat = 0 ∨ 8 < (readFrom f s 17).toNat) then .invalid else .good
  | _ => s.store.classes[f.page]

/-- 1 where a field is out of its range, 0 where it is not. -/
def Sys2Proof.Machine.one (outOfRange : Bool) : Nat := if outOfRange then 1 else 0

/-- R109: how a song header is repaired, and how many repairs that is. -/
def Sys2Proof.Machine.HeaderRepaired (rd : Nat → Byte) : Prop :=
  let b : Nat → Nat := fun a => (rd a).toNat
  let x := (headerAt rd).1
  x.countIn = (if b 16 ≤ 4 then b 16 else 0) ∧ (x.runOn = true ↔ b 18 = 1) ∧ x.sceneCount = b 17
    ∧ x.tempos.length = min (b 19) 4
    ∧ (headerAt rd).2 = one (4 < b 16) + one (1 < b 18) + one (4 < b 19)

/-- R41, R110, R111: how a scene block is repaired, and how many repairs that is. -/
def Sys2Proof.Machine.SceneRepaired (rd : Nat → Byte) (scene : Nat) : Prop :=
  let b : Nat → Nat := fun j => (rd (48 + (scene - 1) * 427 + j)).toNat
  let x := (sceneAt rd scene).1
  x.tempoSlot.map Fin.val = (if b 12 ≤ 15 then some (b 12) else none)
    ∧ x.changePoint.code = (if b 13 ≤ 5 then b 13 else 0) ∧ x.leave.code = (if b 14 ≤ 1 then b 14 else 0)
    ∧ (∀ i : Port, x.overrides[i].map Override.code = if b (16 + i.val) ≤ 2 then some (b (16 + i.val)) else none)
    ∧ (x.autoStart = true ↔ b 24 = 1) ∧ x.zones.length = min (b 25) 16 ∧ x.bursts.length = min (b 26) 16
    ∧ (∀ z ∈ x.zones,
      (z.enabled = true ↔ z.enabledStored = 1#8 ∧ z.repaired = false)
      ∧ (z.repaired = true ↔
        z.sourcePort.toNat = 0 ∨ 8 < z.sourcePort.toNat ∨ 32 < z.sourceLane.toNat ∨ 127 < z.keyLow.toNat
          ∨ 127 < z.keyHigh.toNat ∨ z.keyHigh.toNat < z.keyLow.toNat ∨ z.strikeLow.toNat = 0
          ∨ 1023 < z.strikeLow.toNat ∨ z.strikeHigh.toNat = 0 ∨ 1023 < z.strikeHigh.toNat
          ∨ z.strikeHigh.toNat < z.strikeLow.toNat ∨ z.destPort.toNat = 0 ∨ 8 < z.destPort.toNat
          ∨ z.destLane.toNat = 0 ∨ 32 < z.destLane.toNat ∨ z.transpose.toInt < -48 ∨ 48 < z.transpose.toInt
          ∨ 1 < z.edge.toNat ∨ 1 < z.sustain.toNat ∨ 1 < z.controls.toNat ∨ 1 < z.enabledStored.toNat
          ∨ 15 < z.curve.toNat ∨ z.offset.toInt < -512 ∨ 511 < z.offset.toInt))
    ∧ (∀ e ∈ x.bursts,
      e.skip = true ↔
        e.port.toNat = 0 ∨ 8 < e.port.toNat ∨ e.lane.toNat = 0 ∨ 32 < e.lane.toNat ∨ 1023 < e.bank.toNat
          ∨ 127 < e.sound.toNat ∨ (127 < e.level.toNat ∧ e.level.toNat ≠ 255))
    ∧ (sceneAt rd scene).2
      = one (15 < b 12 ∧ b 12 ≠ 255) + one (5 < b 13) + one (1 < b 14)
        + (List.finRange 8).countP (fun i => 2 < b (16 + i.val) ∧ b (16 + i.val) ≠ 255) + one (1 < b 24)
        + one (16 < b 25) + one (16 < b 26) + x.zones.countP (·.repaired) + x.bursts.countP (·.skip)

/-- R108, R121–R123, R125, R162, R163: FETCH_END. A fetch that waits for a load, or for an operation to stop, has no end
yet, and the row does nothing (log entry 4). While a fetch is read the staged copy stands, being filled. Its end ends
the change when the class found is not GOOD, or the scene lies beyond the count read, with CHANGE set and the cursor and
active copy kept. Otherwise the copy holds the scene and, for a song change, the header of the bytes read, and the
switch is made at once while the clock is STOPPED or under change point IMMEDIATE, handing the new copy over as R125 to
R127 and R96 state, with the feed overrides, the tempo slots, the position and auto start; its burst is placed as
BURST_PLACE places it, the change ending at once where nothing of the burst is left (log entry 9); the change is
WAITING, staged, with the queue kept, otherwise. A controller left IDLE takes the requests that wait. The repairs made
are counted (R41, R109–R111) and an operation that stood SUSPENDED goes on. A fetch that waited for a load is decided
again at its end: from the cells, or from the buffer where a KEEP ADJUSTMENTS goes on to commit that page. The model's
choices: all repairs are counted at the end of the fetch (log entry 17), those of a fetch that ends RANGE for the header
and the whole scene block (log entry 18), and a fetch from the buffer reads it as it stood when it was decided (log
entry 16); a song-change reset settles as a beat and bar boundary (log entry 20), and one at the moment of a boundary
already taken gives no second Beat Tick, its Transport START behind what the boundary placed (log entry 22), a Click
counting as placed once it is offered (log entry 23); and the index of a slot rewritten from STEADY to RAMP whose
pending rewrite was cancelled goes on (log entry 44). -/
def Obligations.FetchEnds : Prop :=
  (∀ (same : Bool) (f : Fetch) (tg : Target) (s : State), s.power = true → s.change.state = .fetching →
    s.change.target = some tg → s.store.fetch = some f →
    (¬beingRead f s →
      exec (.fetchEnd same) s = .next s ∧ (s.change.staged = none → s.stagedCopy = .absent))
    ∧ (beingRead f s → CounterInv s →
      let rd := readFrom f s
      let count := (rd 17).toNat
      let header := if tg.song then headerAt rd else (s.change.active.header, 0)
      let copy : SceneCopy := { block := (sceneAt rd f.scene).1, header := header.1, source := some (f.page, f.scene) }
      let closed : State :=
        { s with
          store :=
            { s.store with
              fetch := none
              operation := s.store.operation.map fun op => { op with begun := true, suspended := false } } }
      let read : State :=
        { closed with
          status :=
            { s.status with fetchRepairs := min (s.status.fetchRepairs + (sceneAt rd f.scene).2 + header.2) 65535 } }
      (s.change.staged = none → s.stagedCopy = .filling f.page f.scene)
      ∧ (foundClass f s = .empty →
        ∃ t, exec (.fetchEnd same) s = .next t
          ∧ QueueTaken s.change.queue (requestEnded .empty tg.origin closed) t)
      ∧ (foundClass f s = .damaged →
        ∃ t, exec (.fetchEnd same) s = .next t
          ∧ QueueTaken s.change.queue (requestEnded .damaged tg.origin closed) t)
      ∧ (foundClass f s = .invalid →
        ∃ t, exec (.fetchEnd same) s = .next t
          ∧ QueueTaken s.change.queue (requestEnded .invalid tg.origin closed) t)
      ∧ (foundClass f s = .good → count < f.scene →
        ∃ t, exec (.fetchEnd same) s = .next t ∧ QueueTaken s.change.queue (requestEnded .range tg.origin read) t)
      ∧ (foundClass f s = .good → f.scene ≤ count → s.tempo.clock ≠ .stopped →
        s.change.active.block.changePoint ≠ .immediate →
        let t : State := { read with change := { s.change with state := .waiting, staged := some copy } }
        exec (.fetchEnd same) s = .next t ∧ t.stagedCopy = .complete copy)
      ∧ (foundClass f s = .good → f.scene ≤ count →
        (s.tempo.clock = .stopped ∨ s.change.active.block.changePoint = .immediate) →
        ∃ u t, exec (.fetchEnd same) s = .next t ∧ exec .burstPlace u = .next t
          ∧ SwitchedNow (same && s.tempo.boundaryBegan && s.tempo.subTick == 0) copy tg read u
          ∧ u.stagedCopy = .absent
          ∧ (∀ q : Port, u.link.outs[q].burst = s.link.outs[q].burst)
          ∧ t.change.active = copy ∧ t.change.staged = none
          ∧ t.change.cursorEntry = tg.entry ∧ t.change.cursorScene = tg.scene ∧ t.change.cursorPage = some tg.page
          ∧ t.change.adjusted = false
          ∧ (s.change.queue = [] →
            t.stagedCopy = .absent ∧ t.change.outcome = .ok ∧ t.change.origin = some tg.origin
              ∧ (t.change.state = .switching ∨ t.change.state = .idle) ∧ t.store = read.store
              ∧ t.status.fetchRepairs
                = min (read.status.fetchRepairs + (if tg.song then songSlotRepairs copy.header.tempos else 0)) 65535)
          ∧ (∀ i : Slot, i.val < 4 → tg.song = true →
            t.tempo.slots[i] = ((copy.header.tempos[i.val]?.bind tempoOfRaw?).getD TempoRecord.default))
          ∧ (s.change.active.block.leave = .carry → t.held = s.held)
          ∧ (s.change.active.block.leave = .cut → ∀ e ∈ t.held.table, e.state = .releasing))))
  ∧ (∀ (f : Fetch) (s : State), s.power = true → s.store.fetch = some f → f.source = .afterLoad →
    (∀ p : Page, s.store.operation = some { kind := .load p, begun := true, suspended := false } →
      ∃ t, exec .bufferLoadEnd s = .next t ∧ t.store.operation = none
        ∧ t.store.fetch = some { f with source := .cells } ∧ t.store.buffer = s.store.image p)
    ∧ ∀ c : KeepCapture, s.store.operation = some { kind := .keepLoad c, begun := true, suspended := false } →
      ∃ t, exec .keepLoadEnd s = .next t
        ∧ (t.store.operation = none → t.store.fetch = some { f with source := .cells })
        ∧ (t.store.operation ≠ none →
          t.store.operation = some { kind := .keepCommit c, begun := true, suspended := false }
            ∧ t.store.fetch
              = some { f with source := if c.page = f.page then .buffer t.store.buffer else .cells }))
  ∧ ∀ rd : Nat → Byte, HeaderRepaired rd ∧ ∀ scene : Nat, SceneRepaired rd scene

/-- R128, R129, R14, R111, R26: BURST_PLACE and CHANGE_END. Neither does anything outside SWITCHING (the model's reading
of the rows, log entries 4 and 9). BURST_PLACE works the entries from the burst cursor on: it passes a skipped entry and
one for a port flushed during the change; it places the Sound Select of any other where the burst queue of its port
holds fewer than 16 frames, then its level Control where that queue again does, each frame waiting for room on its own,
and passes the entry with its last frame. An entry without room holds the cursor. The change ends, at the row itself
(log entry 9), when the cursor has passed the list and no burst queue holds a frame, and the IDLE controller takes the
requests that wait, first in, first out, until one begins a fetch; the rest keeps its order. -/
def Obligations.BurstAndChangeEnd : Prop :=
  ∀ s : State, s.power = true →
    (s.change.state ≠ .switching → exec .burstPlace s = .next s ∧ exec .changeEnd s = .next s)
    ∧ (∀ (e : BurstEntry) (rest : List BurstEntry), s.change.state = .switching →
      s.change.active.block.bursts.drop s.change.burstCursor = e :: rest →
      let passed : Change := { s.change with burstCursor := s.change.burstCursor + 1, selectPlaced := false }
      exec .changeEnd s = .next s
      ∧ (e.skip = true ∨ (∃ p : Port, e.port.toNat = p.val + 1 ∧ s.change.flushed[p] = true) →
        exec .burstPlace s = exec .burstPlace { s with change := passed })
      ∧ ∀ p : Port, e.skip = false → e.port.toNat = p.val + 1 → s.change.flushed[p] = false →
        let n := s.link.outs[p].burst.length
        let placed (frames : List Frame) : Link :=
          { s.link with
            outs := s.link.outs.set p
              { s.link.outs[p] with
                burst := s.link.outs[p].burst ++ frames.map fun f => { frame := f, source := .burst } } }
        let select : Frame := .soundSelect e.lane e.bank e.sound
        let level : Frame := .control e.lane 16#8 (BitVec.ofNat 16 (e.level.toNat * 129))
        (s.change.selectPlaced = false →
          (16 ≤ n → exec .burstPlace s = .next s)
          ∧ (n < 16 → e.level = 0xFF#8 →
            exec .burstPlace s = exec .burstPlace { s with change := passed, link := placed [select] })
          ∧ (n < 15 → e.level ≠ 0xFF#8 →
            exec .burstPlace s = exec .burstPlace { s with change := passed, link := placed [select, level] })
          ∧ (n = 15 → e.level ≠ 0xFF#8 →
            exec .burstPlace s
              = .next { s with change := { s.change with selectPlaced := true }, link := placed [select] }))
        ∧ (s.change.selectPlaced = true → e.level ≠ 0xFF#8 →
          (16 ≤ n → exec .burstPlace s = .next s)
          ∧ (n < 16 →
            exec .burstPlace s = exec .burstPlace { s with change := passed, link := placed [level] })))
    ∧ (s.change.state = .switching → s.change.active.block.bursts.length ≤ s.change.burstCursor →
      ((∃ p : Port, s.link.outs[p].burst ≠ []) → exec .burstPlace s = .next s)
      ∧ ((∀ p : Port, s.link.outs[p].burst = []) →
        exec .burstPlace s = exec .changeEnd s
        ∧ ∃ t, exec .changeEnd s = .next t
          ∧ QueueTaken s.change.queue
              { s with change := { s.change with state := .idle, target := none, queue := [] } } t))
    ∧ ((∃ p : Port, s.link.outs[p].burst ≠ []) → exec .changeEnd s = .next s)

/-! ## Live adjustments -/

/-- The part with the zone at a list position of the active copy replaced by an ADJUST, and the adjusted flag set. -/
def Sys2Proof.Machine.zoneAdjusted (pos : Nat) (z : Zone) (s : State) : State :=
  { s with
    change :=
      { s.change with
        adjusted := true, keepStale := true
        active :=
          { s.change.active with
            block := { s.change.active.block with zones := s.change.active.block.zones.set (pos - 1) z } } } }

/-- R131, R42–R44: the zone items of ADJUST. RANGE for a position outside 1–N, for a value out of range, and for
enabling a repaired zone; NO_CHANGE for the value the active copy holds; otherwise that one field of that one zone is
set. -/
def Obligations.AdjustZones : Prop :=
  ∀ (h : Head) (zone : Byte) (value : Half) (s : State), Ready h s →
    (zone.toNat = 0 ∨ s.change.active.block.zones.length < zone.toNat →
      exec (.adjustZoneGain h zone value) s = .next (replied h 0x41#8 .range [] s)
      ∧ exec (.adjustZoneOffset h zone value) s = .next (replied h 0x41#8 .range [] s)
      ∧ exec (.adjustZoneTranspose h zone value) s = .next (replied h 0x41#8 .range [] s)
      ∧ exec (.adjustZoneEnabled h zone value) s = .next (replied h 0x41#8 .range [] s))
    ∧ ∀ z : Zone, 1 ≤ zone.toNat → s.change.active.block.zones[zone.toNat - 1]? = some z →
      exec (.adjustZoneGain h zone value) s
        = .next
          (if 255 < value.toNat then replied h 0x41#8 .range [] s
           else if z.gain.toNat = value.toNat then replied h 0x41#8 .noChange [] s
           else
            replied h 0x41#8 .ok []
              (zoneAdjusted zone.toNat { z with gain := BitVec.ofNat 8 value.toNat } s))
      ∧ exec (.adjustZoneOffset h zone value) s
        = .next
          (if value.toInt < -512 ∨ 511 < value.toInt then replied h 0x41#8 .range [] s
           else if z.offset = value then replied h 0x41#8 .noChange [] s
           else replied h 0x41#8 .ok [] (zoneAdjusted zone.toNat { z with offset := value } s))
      ∧ (∃ z' : Zone, { z' with transpose := z.transpose } = z
        ∧ (-48 ≤ value.toInt → value.toInt ≤ 48 → z'.transpose.toInt = value.toInt)
        ∧ exec (.adjustZoneTranspose h zone value) s
          = .next
            (if value.toInt < -48 ∨ 48 < value.toInt then replied h 0x41#8 .range [] s
             else if z.transpose.toInt = value.toInt then replied h 0x41#8 .noChange [] s
             else replied h 0x41#8 .ok [] (zoneAdjusted zone.toNat z' s)))
      ∧ exec (.adjustZoneEnabled h zone value) s
        = .next
          (if 1 < value.toNat ∨ (value = 1#16 ∧ z.repaired = true) then replied h 0x41#8 .range [] s
           else if (z.enabled = true ↔ value = 1#16) then replied h 0x41#8 .noChange [] s
           else replied h 0x41#8 .ok [] (zoneAdjusted zone.toNat { z with enabled := !z.enabled } s))

/-- R131–R133, R22, R102: ADJUST of the mute set, of a feed override and of the tempo: RANGE for a target or value out
of range, NO_CHANGE for what stands already, otherwise the active copy's mute set (its low byte, log entry 37), the
override of copy and feed, or the slot in effect, made STEADY at the value: pending while the clock runs, at once
while it is STOPPED. The adjusted flag is set. The slot that ADJUST TEMPO makes STEADY keeps its T end and ramp bars
(the model's choice, log entry 41). -/
def Obligations.AdjustOthers : Prop :=
  ∀ (h : Head) (target : Byte) (value : Half) (s : State), Ready h s →
    exec (.adjustMuteSet h target value) s
      = .next
        (if target ≠ 0#8 then replied h 0x41#8 .range [] s
         else if s.change.active.block.muteSet.toNat = value.toNat % 256 then replied h 0x41#8 .noChange [] s
         else
          replied h 0x41#8 .ok []
            { s with
              change :=
                { s.change with
                  adjusted := true, keepStale := true
                  active :=
                    { s.change.active with
                      block := { s.change.active.block with muteSet := BitVec.ofNat 8 value.toNat } } } })
    ∧ (target.toNat = 0 ∨ 8 < target.toNat ∨ 2 < value.toNat →
      exec (.adjustFeedOverride h target value) s = .next (replied h 0x41#8 .range [] s))
    ∧ (∀ (f : Port) (o : Override), target.toNat = f.val + 1 → value.toNat = o.code →
      exec (.adjustFeedOverride h target value) s
        = .next
          (if s.change.active.block.overrides[f] = some o ∧ s.tempo.feeds[f].override = o then
            replied h 0x41#8 .noChange [] s
           else
            replied h 0x41#8 .ok []
              { s with
                change :=
                  { s.change with
                    adjusted := true, keepStale := true
                    active :=
                      { s.change.active with
                        block :=
                          { s.change.active.block with
                            overrides := s.change.active.block.overrides.set f (some o) } } }
                tempo := { s.tempo with feeds := s.tempo.feeds.set f { s.tempo.feeds[f] with override := o } } }))
    ∧ (target ≠ 0#8 ∨ value.toNat < 4000 ∨ 30000 < value.toNat →
      exec (.adjustTempo h target value) s = .next (replied h 0x41#8 .range [] s))
    ∧ (4000 ≤ value.toNat → value.toNat ≤ 30000 →
      let r := s.tempo.slots[s.tempo.inEffect]
      (r.form = .steady → r.t = value.toNat →
        exec (.adjustTempo h 0#8 value) s = .next (replied h 0x41#8 .noChange [] s))
      ∧ (r.form ≠ .steady ∨ r.t ≠ value.toNat → s.tempo.clock ≠ .stopped →
        exec (.adjustTempo h 0#8 value) s
          = .next
            (replied h 0x41#8 .ok []
              { s with
                change := { s.change with adjusted := true, keepStale := true }
                tempo :=
                  { s.tempo with
                    slots := s.tempo.slots.set s.tempo.inEffect { r with form := .steady, t := value.toNat }
                    pendingSlot := some s.tempo.inEffect } }))
      ∧ (r.form ≠ .steady ∨ r.t ≠ value.toNat → s.tempo.clock = .stopped → s.tempo.beat ≤ r.meter →
        exec (.adjustTempo h 0#8 value) s
          = .next
            (replied h 0x41#8 .ok []
              { s with
                change := { s.change with adjusted := true, keepStale := true }
                tempo :=
                  { s.tempo with
                    slots := s.tempo.slots.set s.tempo.inEffect { r with form := .steady, t := value.toNat }
                    pendingSlot := none, rampBeat := 0, tempo := value.toNat, meter := r.meter } })))

/-! ## Remedies -/

/-- R78, R79, R72, R74: PANIC replies OK whatever there is to release, and leaves what R78 says. -/
def Obligations.Panic : Prop :=
  ∀ (h : Head) (s : State), Ready h s →
    ∃ t, exec (.panic h) s = .next (replied h 0x45#8 .ok [] t) ∧ Panicked s t

/-- R24: MUTE. A port outside 1–8, or a state other than ON and OFF, gives RANGE; a flag that already stands so,
NO_CHANGE; otherwise the service mute flag of that port is set or cleared, and with it, as R22 states, the port is
muted or not. -/
def Obligations.Mute : Prop :=
  ∀ (h : Head) (port state : Byte) (s : State), Ready h s →
    (port.toNat = 0 ∨ 8 < port.toNat ∨ 1 < state.toNat →
      exec (.mute h port state) s = .next (replied h 0x46#8 .range [] s))
    ∧ ∀ p : Port, port.toNat = p.val + 1 → state.toNat ≤ 1 →
      (s.link.outs[p].serviceMute = (state == 1#8) →
        exec (.mute h port state) s = .next (replied h 0x46#8 .noChange [] s))
      ∧ (s.link.outs[p].serviceMute ≠ (state == 1#8) →
        ∃ t, exec (.mute h port state) s = .next (replied h 0x46#8 .ok [] t)
          ∧ t = { s with
                  link :=
                    { s.link with
                      outs := s.link.outs.set p { s.link.outs[p] with serviceMute := state == 1#8 } } }
          ∧ (t.muted p = true ↔
            state = 1#8 ∨ s.change.active.block.muteSet.getLsbD p.val = true ∨ s.link.outs[p].muteToggle = true
              ∨ ∃ i : Pedal, s.settings.pedals[i].function = .muteHold ∧ s.settings.pedals[i].argPort = p
                  ∧ s.pressed i = true)
          ∧ ∀ q : Port, q ≠ p → t.muted q = s.muted q)

/-- R77: the held-note table and the sustain logic after a flush of a port: its entries discarded, its hold counts 0 and
its lanes out of every forwarded list. -/
def Sys2Proof.Machine.FlushedHeld (p : Port) (old held : Held) : Prop :=
  held.table = old.table.filter (fun e => e.ident.dst.port != p)
    ∧ held.releaseOrder = old.releaseOrder.filter (fun i => i.dst.port != p)
    ∧ (∀ (q : Port) (l : Lane), held.holds[q][l] = if q = p then 0 else old.holds[q][l])
    ∧ ∀ (q : Port) (l : Lane),
      held.sustain[q][l].down = old.sustain[q][l].down
        ∧ held.sustain[q][l].forwarded = old.sustain[q][l].forwarded.filter fun d => d.port != p

/-- R25: the part after a flush of a port, less what the change controller makes of it: the port's queues emptied but for
one Port Silence, and its two counts 0. -/
def Sys2Proof.Machine.flushedTo (p : Port) (held : Held) (s : State) : State :=
  { s with
    held := held
    link :=
      { s.link with
        outs := s.link.outs.set p
          { s.link.outs[p] with
            timing := [], burst := [], service := []
            play := [{ frame := .portSilence, source := .silence }]
            serviceWait := 0, interleave := 0 } } }

/-- R25, R26, R77: FLUSH. A port outside 1–8 gives RANGE. Otherwise the port's queues are emptied but for one Port
Silence, its two counts are 0, its entries are discarded, its hold counts are 0 and its lanes leave every forwarded
list; nothing else changes, outside SWITCHING. While SWITCHING, the port is flushed for the rest of the change, the
entry at the burst cursor is passed over where it is for that port, and what follows is what BURST_PLACE does then:
placing goes on, and a FLUSH that leaves nothing of the burst ends the change within itself (log entry 9). A burst whose
remaining entries are all for the port is over with it. -/
def Obligations.Flush : Prop :=
  ∀ (h : Head) (port : Byte) (s : State), Ready h s →
    (port.toNat = 0 ∨ 8 < port.toNat → exec (.flush h port) s = .next (replied h 0x47#8 .range [] s))
    ∧ ∀ p : Port, port.toNat = p.val + 1 →
      ∃ held : Held, FlushedHeld p s.held held
        ∧ (s.change.state ≠ .switching →
          exec (.flush h port) s = .next (replied h 0x47#8 .ok [] (flushedTo p held s)))
        ∧ (s.change.state = .switching →
          let here := (s.change.active.block.bursts[s.change.burstCursor]?).map (·.port.toNat) = some (p.val + 1)
          ∃ t, exec (.flush h port) s = .next (replied h 0x47#8 .ok [] t)
            ∧ exec .burstPlace
                { flushedTo p held s with
                  change :=
                    { s.change with
                      flushed := s.change.flushed.set p true
                      burstCursor := if here then s.change.burstCursor + 1 else s.change.burstCursor
                      selectPlaced := if here then false else s.change.selectPlaced } }
              = .next t)
        ∧ (s.change.state = .switching → s.change.queue = [] →
          (∀ e ∈ s.change.active.block.bursts.drop s.change.burstCursor, e.port.toNat = p.val + 1) →
          (∀ q : Port, q ≠ p → s.link.outs[q].burst = []) →
          ∃ t, exec (.flush h port) s = .next (replied h 0x47#8 .ok [] t)
            ∧ t.change.state = .idle ∧ t.change.active = s.change.active ∧ t.link.outs[p].burst = []
            ∧ t.link.outs[p].play = [{ frame := .portSilence, source := .silence }])

/-- What the power-up and restart sequence loads, by the classes it works from (R171, R83, R56, R57, R170, R137), with
slot 0 in effect at the position bar 1, beat 1, and every counter 0 but for fetch repairs (R83, R189, log entry 39):
settings, tempo slots 4–15 and curves from pages 65 and 66, each by its defaults where the page is not GOOD, and an
inbound record whose pass port byte is 0xFF by its default (log entry 47); then scene 1 and the header of the page of
the first entry of the set list, with their repairs, where that page is GOOD; else, or with an empty list, the empty
scene. The CHANGE flag is `before` and set by a failed fetch. -/
def Sys2Proof.Machine.BootedFrom (before : Bool) (t : State) : Prop :=
  let rd (p : Page) : Nat → Byte := Memory.read (t.store.image p)
  let loaded : Prop := t.store.classes[(64 : Page)] = .good
  t.settings = (if loaded then settingsOfPage (rd 64) else Settings.default)
    ∧ (∀ i : Slot, 4 ≤ i.val → t.tempo.slots[i] = if loaded then (slotsOfPage (rd 64))[i] else TempoRecord.default)
    ∧ t.curves = (if t.store.classes[(65 : Page)] = .good then curvesOfPage (rd 65) else straightCurves)
    ∧ (∀ f : Port, t.tempo.feeds[f].override = t.settings.feeds[f].override)
    ∧ (∀ i : Slot, i.val < 4 →
      t.tempo.slots[i] = ((t.change.active.header.tempos[i.val]?.bind tempoOfRaw?).getD TempoRecord.default))
    ∧ t.tempo.inEffect.val = 0 ∧ t.tempo.pendingSlot = none ∧ t.tempo.rampBeat = 0
    ∧ t.tempo.tempo = t.tempo.slots[(0 : Slot)].t ∧ t.tempo.meter = t.tempo.slots[(0 : Slot)].meter
    ∧ t.tempo.bar = 1 ∧ t.tempo.beat = 1 ∧ t.tempo.subTick = 0 ∧ t.tempo.countInBar = 0 ∧ t.tempo.taps = []
    ∧ (∀ p : Port,
      t.status.rejected[p] = 0 ∧ t.status.playDrops[p] = 0 ∧ t.status.timingSlips[p] = 0
        ∧ t.status.serviceOverruns[p] = 0)
    ∧ t.status.heldOverflows = 0 ∧ t.status.changeOverflows = 0
    ∧ (t.settings.setList = [] →
      t.change.active = emptyScene ∧ t.change.outcome = .noSet ∧ t.change.cursorPage = none
        ∧ t.status.change = before ∧ t.status.fetchRepairs = 0)
    ∧ ∀ (first : SongPage) (rest : List SongPage) (p : Page), t.settings.setList = first :: rest → p.val = first.val →
      (t.store.classes[p] = .good →
        let block := sceneAt (rd p) 1
        let header := headerAt (rd p)
        t.change.active = { block := block.1, header := header.1, source := some (p, 1) }
          ∧ t.change.outcome = .ok ∧ t.change.cursorPage = some p ∧ t.status.change = before
          ∧ t.status.fetchRepairs = min (header.2 + block.2 + songSlotRepairs header.1.tempos) 65535)
      ∧ (t.store.classes[p] ≠ .good →
        t.change.active = emptyScene ∧ t.change.cursorPage = none ∧ t.status.change = true
          ∧ t.status.fetchRepairs = 0
          ∧ t.change.outcome
            = match t.store.classes[p] with
              | .empty => .empty
              | .damaged => .damaged
              | _ => .invalid)

/-- R184, R185, R186, R170, R171, R137: RESTART is refused with BUSY while the store is not IDLE and is otherwise
accepted: its reply stands in the queue and the unit takes no more requests. RESTART_MADE does nothing before that reply
has ended (the restart is a step of its own, log entry 33). Then every queue is empty, every receiver in SYNC, every
line IDLE, the byte pacing gap counted from the end of the last frame kept (log entry 15), every waiting place empty
with the pointer at IN8; the table, the sustain records and the hold counts are empty, the clock STOPPED at bar 1, beat
1, with slot 0 in effect, every protect flag and the lock set, the buffer 0xFF; every debouncer UNSETTLED from this
moment on; settings (log entry 47), curves and the first scene are loaded by the classes held; classes and cells are
kept, and so are the flags, but for CHANGE, which a failed fetch sets; the counters are 0 but for the repairs of the
fetch (log entry 39). -/
def Obligations.Restart : Prop :=
  (∀ (h : Head) (s : State), Ready h s →
    (s.store.operation ≠ none → exec (.restart h) s = .next (replied h 0x4F#8 .busy [] s))
    ∧ (s.store.operation = none →
      exec (.restart h) s
        = .next
          { s with
            link :=
              { s.link with
                outs := s.link.outs.set h.port
                  { s.link.outs[h.port] with
                    service := s.link.outs[h.port].service
                      ++ [{ frame := .reply h.unit h.tag 0x4F#8 0#8 [], source := .restartReply }]
                    serviceWait :=
                      if s.link.outs[h.port].service = [] then 0 else s.link.outs[h.port].serviceWait } }
            service := { s.service with busy := some 40, pointer := h.port, restart := .accepted } }))
  ∧ ∀ (moment : Nat) (s : State), s.power = true →
    (s.service.restart ≠ .due → exec (.restartMade moment) s = .next { s with now := max s.now moment })
    ∧ (s.service.restart = .due →
      ∃ t, exec (.restartMade moment) s = .next t
        ∧ (∀ p : Port,
          t.link.receivers[p] = .sync ∧ t.link.outs[p].timing = [] ∧ t.link.outs[p].burst = []
            ∧ t.link.outs[p].play = [] ∧ t.link.outs[p].service = [] ∧ t.link.outs[p].line = none
            ∧ t.link.outs[p].window = none ∧ t.link.outs[p].serviceWait = 0 ∧ t.link.outs[p].interleave = 0
            ∧ t.link.outs[p].muteToggle = false ∧ t.link.outs[p].serviceMute = false
            ∧ (s.link.outs[p].line = none → t.link.outs[p].gap = s.link.outs[p].gap)
            ∧ (s.link.outs[p].line ≠ none →
              t.link.outs[p].gap
                = if s.settings.outbound[p].pacing = 0 then none else some s.settings.outbound[p].pacing)
            ∧ t.service.places[p] = none)
        ∧ t.service.pointer.val = 7 ∧ t.service.busy = none ∧ t.service.restart = .none
        ∧ t.held.table = [] ∧ t.held.releaseOrder = []
        ∧ (∀ (p : Port) (l : Lane),
          t.held.sustain[p][l] = { down := false, forwarded := [] } ∧ t.held.holds[p][l] = 0)
        ∧ t.tempo.clock = .stopped
        ∧ t.change.state = .idle ∧ t.change.queue = [] ∧ t.change.cursorEntry = 1 ∧ t.change.cursorScene = 1
        ∧ t.change.origin = none ∧ t.change.adjusted = false ∧ t.change.staged = none
        ∧ (∀ p : Page, t.store.protect[p] = true) ∧ t.store.lock = true
        ∧ (∀ a, Memory.read t.store.buffer a = 0xFF#8) ∧ t.store.operation = none ∧ t.store.lastOutcome = .ok
        ∧ t.store.cells = s.store.cells ∧ t.store.classes = s.store.classes
        ∧ (∀ i : Pedal,
          t.pedals.contacts[i]
            = { raw := s.pedals.contacts[i].raw, settled := none, since := max s.now moment })
        ∧ t.pedals.showLock = { raw := s.pedals.showLock.raw, settled := none, since := max s.now moment }
        ∧ BootedFrom s.status.change t
        ∧ t.status.link = s.status.link ∧ t.status.overrun = s.status.overrun ∧ t.status.store = s.status.store)

/-- The page under a commit, the commit of a KEEP ADJUSTMENTS or a clear that has begun (R152, log entry 11). -/
def Sys2Proof.Machine.underCut (s : State) (p : Page) : Prop :=
  ∃ op, s.store.operation = some op ∧ op.begun = true
    ∧ (op.kind = .commit p ∨ op.kind = .clear p ∨ ∃ c, op.kind = .keepCommit c ∧ c.page = p)

/-- R151, R152, R170, R171, R137, R139, R149: LOSS_OF_POWER and POWER_UP. Power lost keeps every cell outside the page
under a commit or clear that has begun (only one that has begun marks its page, log entry 11), and marks that page.
Power applied to a part without power classifies every page by R151's tests, a marked page as DAMAGED whatever its bytes
hold, 0xFF throughout included (log entry 40), and any other by its bytes alone, one that a failed commit left DAMAGED
too (log entry 46), sets STORE exactly when a page is DAMAGED, keeps every cell, loads settings (a pass port byte of
0xFF being out of range, log entry 47), curves and the first scene by those classes, and stands IDLE and STOPPED with
protection set; moments are counted from there on (log entry 6), every debouncer UNSETTLED with its candidate time at 0.
The counters are 0 but for the repairs of the fetch (log entry 39), and slot 0 is in effect. -/
def Obligations.PowerLossAndPowerUp : Prop :=
  (∀ (torn : List Host.Cell) (s : State), s.power = true →
    ∃ t, exec (.lossOfPower torn) s = .next t ∧ t.power = false
      ∧ (∀ p : Page, underCut s p → t.store.cutMarks[p] = true)
      ∧ ∀ q : Page, ¬underCut s q →
        t.store.cutMarks[q] = s.store.cutMarks[q] ∧ ∀ i, i < 4096 → pageByte t q i = pageByte s q i)
  ∧ ∀ s : State, s.power = false →
    ∃ t, exec .powerUp s = .next t ∧ t.power = true ∧ t.store.cells = s.store.cells
      ∧ (∀ p : Page,
        let sum := ((List.range 4094).map fun i => (pageByte s p i).toNat).sum % 65536
        let check := (pageByte s p 4094).toNat * 256 + (pageByte s p 4095).toNat
        let scenes := (pageByte s p 17).toNat
        (s.store.cutMarks[p] = true → t.store.classes[p] = .damaged)
        ∧ (s.store.cutMarks[p] = false → (∀ i, i < 4096 → pageByte s p i = 0xFF#8) → MemoryInv s →
          t.store.classes[p] = .empty)
        ∧ (s.store.cutMarks[p] = false → (∃ i, i < 4096 ∧ pageByte s p i ≠ 0xFF#8) → MemoryInv s →
          t.store.classes[p]
            = if check ≠ sum then .damaged
              else if p.val < 64 ∧ (scenes = 0 ∨ 8 < scenes) then .invalid
              else .good))
      ∧ (t.status.store = true ↔ ∃ p : Page, t.store.classes[p] = .damaged)
      ∧ t.status.link = false ∧ t.status.overrun = false
      ∧ BootedFrom false t
      ∧ (t.store.classes[(64 : Page)] ≠ .good →
        t.settings = Settings.default ∧ t.change.active = emptyScene ∧ t.change.outcome = .noSet
          ∧ t.status.change = false ∧ t.status.fetchRepairs = 0)
      ∧ (t.store.classes[(65 : Page)] ≠ .good → ∀ (n : Fin 15) (j : Fin 129), t.curves[n][j] = min (8 * j.val) 1023)
      ∧ (∀ p : Page, t.store.protect[p] = true) ∧ t.store.lock = true ∧ t.store.operation = none
      ∧ t.store.lastOutcome = .ok ∧ (∀ a, Memory.read t.store.buffer a = 0xFF#8)
      ∧ t.held = Held.empty ∧ t.tempo.clock = .stopped ∧ t.change.state = .idle ∧ t.change.queue = []
      ∧ t.change.cursorEntry = 1 ∧ t.change.cursorScene = 1 ∧ t.change.origin = none
      ∧ t.service = Service.fresh
      ∧ (∀ p : Port, t.link.receivers[p] = .sync ∧ t.link.outs[p] = OutPort.fresh)
      ∧ t.now = 0
      ∧ (∀ i : Pedal, t.pedals.contacts[i] = { raw := s.pedals.contacts[i].raw, settled := none, since := 0 })
      ∧ t.pedals.showLock = { raw := s.pedals.showLock.raw, settled := none, since := 0 }

/-! ## Transmission -/

/-- Whether the head of a queue may start (R17, R19): there is one, and it is not a Strike or Control under an open
window. -/
def Sys2Proof.Machine.mayStart (window : Option Nat) : List Queued → Prop
  | [] => False
  | x :: _ =>
    window = none
      ∨ match x.frame with
        | .strikeLong .. | .strikeShort .. | .control .. => False
        | _ => True

/-- R17, R18, R20: FRAME_START. Nothing starts while the line is SENDING or the pacing gap runs. Otherwise the first of
these starts that may: the timing head; the service head when the wait count is 16; under INTERLEAVE with a count above
0 the play head; the burst head; the play head; the service head. The head leaves its queue as its frame starts. A burst
head that leaves makes room, and what follows while SWITCHING is what BURST_PLACE does then: placing goes on, and the
start of the burst's last frame ends the change within itself (R128, R129, log entry 9). The service wait count of a
queue left empty stays as it was (the model's reading, log entry 35). -/
def Obligations.FrameStart : Prop :=
  ∀ (p : Port) (s : State), s.power = true →
    let o := s.link.outs[p]
    let sent (o' : OutPort) : State := { s with link := { s.link with outs := s.link.outs.set p o' } }
    let timing := mayStart o.window o.timing
    let urgent := mayStart o.window o.service ∧ o.serviceWait = 16
    let playFirst := s.settings.outbound[p].burstMode ≠ 0 ∧ 0 < o.interleave ∧ mayStart o.window o.play
    let burst := mayStart o.window o.burst
    let play := mayStart o.window o.play
    (o.line ≠ none ∨ o.gap ≠ none → exec (.frameStart p) s = .next s)
    ∧ (o.line = none → o.gap = none →
      (∀ x rest, o.timing = x :: rest → timing →
        exec (.frameStart p) s
          = .next (sent { o with timing := rest, line := some { item := x, queue := .timing } }))
      ∧ (∀ x rest, ¬timing → o.service = x :: rest →
        (urgent ∨ (¬playFirst ∧ ¬burst ∧ ¬play ∧ mayStart o.window o.service)) →
        exec (.frameStart p) s
          = .next
            (sent
              { o with
                service := rest, line := some { item := x, queue := .service }
                serviceWait := if rest = [] then o.serviceWait else 0 }))
      ∧ (∀ x rest, ¬timing → ¬urgent → o.play = x :: rest → (playFirst ∨ (¬burst ∧ play)) →
        exec (.frameStart p) s
          = .next (sent { o with play := rest, line := some { item := x, queue := .play } }))
      ∧ (∀ x rest, ¬timing → ¬urgent → ¬playFirst → o.burst = x :: rest → burst →
        let started : State := sent { o with burst := rest, line := some { item := x, queue := .burst } }
        ∃ t, exec (.frameStart p) s = .next t
          ∧ exec .burstPlace started = .next t
          ∧ t.link.outs[p].line = some { item := x, queue := .burst }
          ∧ rest <+: t.link.outs[p].burst
          ∧ (s.change.state ≠ .switching → t = started))
      ∧ (¬timing → ¬play → ¬burst → ¬mayStart o.window o.service → exec (.frameStart p) s = .next s))

/-- R17–R20, R184: FRAME_END, PACING_GAP_END and SETTLE_WINDOW_END. On an IDLE line FRAME_END does nothing (the model's
reading of the row, log entry 4). A frame that ends leaves the line IDLE and its pacing gap running, raises the wait
count of a waiting service head, sets or lowers the interleave count, and, if a Sound Select, opens a settle window; the
end of an accepted RESTART's reply makes the restart due, which RESTART_MADE makes as a step of its own (log entry 33).
-/
def Obligations.FrameEnd : Prop :=
  ∀ (p : Port) (s : State), s.power = true →
    let o := s.link.outs[p]
    let r := s.settings.outbound[p]
    (o.line = none → exec (.frameEnd p) s = .next s)
    ∧ (∀ x : Sending, o.line = some x →
      exec (.frameEnd p) s
        = .next
          { s with
            link :=
              { s.link with
                outs := s.link.outs.set p
                  { o with
                    line := none
                    gap := if r.pacing = 0 then none else some r.pacing
                    window :=
                      if (∃ l b n, x.item.frame = .soundSelect l b n) ∧ r.settle ≠ 0 then some r.settle else o.window
                    serviceWait :=
                      if x.queue ≠ .service ∧ o.service ≠ [] then min (o.serviceWait + 1) 16 else o.serviceWait
                    interleave :=
                      if r.burstMode = 0 then o.interleave
                      else if x.queue = .burst then r.burstMode
                      else if x.queue = .play then o.interleave - 1
                      else o.interleave } }
            service :=
              if x.item.source = .restartReply then { s.service with restart := .due } else s.service })
    ∧ exec (.pacingGapEnd p) s
      = .next { s with link := { s.link with outs := s.link.outs.set p { o with gap := none } } }
    ∧ exec (.settleWindowEnd p) s
      = .next { s with link := { s.link with outs := s.link.outs.set p { o with window := none } } }

/-- R66, R67, R54: RELEASE_DRAIN. It runs until the play queue holds 32 frames or release order holds no entry for the
port, and touches nothing of other ports. It takes the entries of the port in release order: the first leaves the
table and release order with its Release, in the form of the port, at the tail of the play queue, or with none when
another entry names its destination, and the drain goes on from there. The drain is a step of its own and runs to its
end (log entry 8). -/
def Obligations.ReleaseDrain : Prop :=
  ∀ (p : Port) (s : State), s.power = true →
    (∃ t, exec (.releaseDrain p) s = .next t
      ∧ (32 ≤ t.link.outs[p].play.length ∨ ∀ i ∈ t.held.releaseOrder, i.dst.port ≠ p)
      ∧ (s.link.outs[p].play.length ≤ 32 → t.link.outs[p].play.length ≤ 32)
      ∧ (∃ added : List Queued,
        t.link = { s.link with
                   outs := s.link.outs.set p
                     { s.link.outs[p] with play := s.link.outs[p].play ++ added } }
          ∧ ∀ x ∈ added, x.source = .held)
      ∧ t.held.table.Sublist s.held.table ∧ t.held.releaseOrder.Sublist s.held.releaseOrder
      ∧ (∀ e ∈ s.held.table, e.ident.dst.port ≠ p → e ∈ t.held.table)
      ∧ t.held.sustain = s.held.sustain ∧ t.held.holds = s.held.holds ∧ t.settings = s.settings ∧ t.tempo = s.tempo
      ∧ t.change = s.change ∧ t.store = s.store ∧ t.status = s.status ∧ t.service = s.service)
    ∧ (32 ≤ s.link.outs[p].play.length ∨ (∀ i ∈ s.held.releaseOrder, i.dst.port ≠ p) →
      exec (.releaseDrain p) s = .next s)
    ∧ ∀ (e : Entry) (before after : List Ident), HeldInv s → e ∈ s.held.table → e.ident.dst.port = p →
      s.held.releaseOrder = before ++ e.ident :: after → (∀ i ∈ before, i.dst.port ≠ p) →
      s.link.outs[p].play.length < 32 →
      let taken : Held :=
        { s.held with
          table := s.held.table.filter fun x => x.ident != e.ident
          releaseOrder := before ++ after }
      let release : Queued :=
        { frame :=
            match s.settings.outbound[p].form with
            | .long =>
              .releaseLong (laneByte e.ident.dst.lane) (keyByte e.ident.dst.key) (e.release.map (BitVec.ofNat 16))
            | .short =>
              .releaseShort (laneByte e.ident.dst.lane) (keyByte e.ident.dst.key)
                (e.release.map fun v => BitVec.ofNat 8 (v / 8))
          source := .held }
      ((∃ x ∈ s.held.table, x.ident ≠ e.ident ∧ x.ident.dst = e.ident.dst) →
        exec (.releaseDrain p) s = exec (.releaseDrain p) { s with held := taken })
      ∧ ((∀ x ∈ s.held.table, x.ident ≠ e.ident → x.ident.dst ≠ e.ident.dst) →
        exec (.releaseDrain p) s
          = exec (.releaseDrain p)
            { s with
              held := taken
              link :=
                { s.link with
                  outs := s.link.outs.set p
                    { s.link.outs[p] with play := s.link.outs[p].play ++ [release] } } })

/-! ## What no command can break -/

/-- The invariants hold right after reset (the first content of the store is the model's choice, log entry 1). -/
def Obligations.InvariantsAtReset : Prop :=
  CapacityInv State.reset ∧ CounterInv State.reset ∧ HeldInv State.reset ∧ SustainInv State.reset
    ∧ ClockInv State.reset ∧ MemoryInv State.reset ∧ ProtectInv State.reset

/-- R12, R15, R17, R18, R61, R106, R116, R189: no step takes a queue, the held-note table, the tap history or a
counter past its capacity, nor a play queue past 28 frames beside Releases of the held-note table and Port Silence,
nor an interleave count past 8. -/
def Obligations.CapacitiesKept : Prop :=
  ∀ s t : State, CapacityInv s → CounterInv s → step s = .next t → CapacityInv t ∧ CounterInv t

/-- R61, R69: every step keeps the held-note table and the sustain records as those rules state them: identities
distinct, release order exactly the RELEASING entries, hold counts the number of listing lanes, SUSTAINED only under a
flag that is down. -/
def Obligations.HeldNotesKept : Prop :=
  ∀ s t : State, HeldInv s → SustainInv s → step s = .next t → HeldInv t ∧ SustainInv t

/-- R82, R89, R90: every step keeps the slots, the tempo in effect and the position in their ranges, and the beat
number in 1 to the meter in effect. -/
def Obligations.ClockKept : Prop := ∀ s t : State, ClockInv s → step s = .next t → ClockInv t

/-- R161, R165: every step keeps the memories canonical and the page of a commit or clear unprotected, and changes no
byte of a page whose protect flag is set. -/
def Obligations.ProtectedPagesKept : Prop :=
  ∀ s t : State, MemoryInv s → ProtectInv s → step s = .next t →
    MemoryInv t ∧ ProtectInv t
      ∧ ∀ (p : Page) (i : Nat), s.store.protect[p] = true → i < 4096 → pageByte t p i = pageByte s p i

/-- R168: while the show-lock switch level is ON and the lock flag is set, no command changes the lock flag or a
protect flag, but for power-up and restart, after which all of them are set. That they read as set after a loss of power
too is the model's choice: without power the registers read as after reset (log entry 11). -/
def Obligations.HardLock : Prop :=
  ∀ (c : Instr) (s t : State), s.pedals.showLock.settled ≠ some .opened → s.store.lock = true → exec c s = .next t →
    t.store.lock = true
      ∧ (t.store.protect = s.store.protect
        ∨ ((c = .powerUp ∨ (∃ m, c = .restartMade m) ∨ ∃ torn, c = .lossOfPower torn)
          ∧ ∀ p : Page, t.store.protect[p] = true))
end

