-- ==== Sys2Proof/Laws/State.lean ====
section
/-! SUPPORT. One lemma per field per replacement of a block of the part, true by unfolding once: later proofs simplify
with these and unfold no record update. -/

namespace Sys2Proof.Machine

variable (s : State)

@[simp] theorem State.setPower_power (x : Bool) : (s.setPower x).power = x := rfl
@[simp] theorem State.setPower_now (x : Bool) : (s.setPower x).now = s.now := rfl
@[simp] theorem State.setPower_freeTick (x : Bool) : (s.setPower x).freeTick = s.freeTick := rfl
@[simp] theorem State.setPower_settings (x : Bool) : (s.setPower x).settings = s.settings := rfl
@[simp] theorem State.setPower_curves (x : Bool) : (s.setPower x).curves = s.curves := rfl
@[simp] theorem State.setPower_link (x : Bool) : (s.setPower x).link = s.link := rfl
@[simp] theorem State.setPower_held (x : Bool) : (s.setPower x).held = s.held := rfl
@[simp] theorem State.setPower_tempo (x : Bool) : (s.setPower x).tempo = s.tempo := rfl
@[simp] theorem State.setPower_change (x : Bool) : (s.setPower x).change = s.change := rfl
@[simp] theorem State.setPower_store (x : Bool) : (s.setPower x).store = s.store := rfl
@[simp] theorem State.setPower_pedals (x : Bool) : (s.setPower x).pedals = s.pedals := rfl
@[simp] theorem State.setPower_service (x : Bool) : (s.setPower x).service = s.service := rfl
@[simp] theorem State.setPower_status (x : Bool) : (s.setPower x).status = s.status := rfl
@[simp] theorem State.setPower_pending (x : Bool) : (s.setPower x).pending = s.pending := rfl

@[simp] theorem State.setNow_power (x : Nat) : (s.setNow x).power = s.power := rfl
@[simp] theorem State.setNow_now (x : Nat) : (s.setNow x).now = x := rfl
@[simp] theorem State.setNow_freeTick (x : Nat) : (s.setNow x).freeTick = s.freeTick := rfl
@[simp] theorem State.setNow_settings (x : Nat) : (s.setNow x).settings = s.settings := rfl
@[simp] theorem State.setNow_curves (x : Nat) : (s.setNow x).curves = s.curves := rfl
@[simp] theorem State.setNow_link (x : Nat) : (s.setNow x).link = s.link := rfl
@[simp] theorem State.setNow_held (x : Nat) : (s.setNow x).held = s.held := rfl
@[simp] theorem State.setNow_tempo (x : Nat) : (s.setNow x).tempo = s.tempo := rfl
@[simp] theorem State.setNow_change (x : Nat) : (s.setNow x).change = s.change := rfl
@[simp] theorem State.setNow_store (x : Nat) : (s.setNow x).store = s.store := rfl
@[simp] theorem State.setNow_pedals (x : Nat) : (s.setNow x).pedals = s.pedals := rfl
@[simp] theorem State.setNow_service (x : Nat) : (s.setNow x).service = s.service := rfl
@[simp] theorem State.setNow_status (x : Nat) : (s.setNow x).status = s.status := rfl
@[simp] theorem State.setNow_pending (x : Nat) : (s.setNow x).pending = s.pending := rfl

@[simp] theorem State.setFreeTick_power (x : Nat) : (s.setFreeTick x).power = s.power := rfl
@[simp] theorem State.setFreeTick_now (x : Nat) : (s.setFreeTick x).now = s.now := rfl
@[simp] theorem State.setFreeTick_freeTick (x : Nat) : (s.setFreeTick x).freeTick = x := rfl
@[simp] theorem State.setFreeTick_settings (x : Nat) : (s.setFreeTick x).settings = s.settings := rfl
@[simp] theorem State.setFreeTick_curves (x : Nat) : (s.setFreeTick x).curves = s.curves := rfl
@[simp] theorem State.setFreeTick_link (x : Nat) : (s.setFreeTick x).link = s.link := rfl
@[simp] theorem State.setFreeTick_held (x : Nat) : (s.setFreeTick x).held = s.held := rfl
@[simp] theorem State.setFreeTick_tempo (x : Nat) : (s.setFreeTick x).tempo = s.tempo := rfl
@[simp] theorem State.setFreeTick_change (x : Nat) : (s.setFreeTick x).change = s.change := rfl
@[simp] theorem State.setFreeTick_store (x : Nat) : (s.setFreeTick x).store = s.store := rfl
@[simp] theorem State.setFreeTick_pedals (x : Nat) : (s.setFreeTick x).pedals = s.pedals := rfl
@[simp] theorem State.setFreeTick_service (x : Nat) : (s.setFreeTick x).service = s.service := rfl
@[simp] theorem State.setFreeTick_status (x : Nat) : (s.setFreeTick x).status = s.status := rfl
@[simp] theorem State.setFreeTick_pending (x : Nat) : (s.setFreeTick x).pending = s.pending := rfl

@[simp] theorem State.setSettings_power (x : Settings) : (s.setSettings x).power = s.power := rfl
@[simp] theorem State.setSettings_now (x : Settings) : (s.setSettings x).now = s.now := rfl
@[simp] theorem State.setSettings_freeTick (x : Settings) : (s.setSettings x).freeTick = s.freeTick := rfl
@[simp] theorem State.setSettings_settings (x : Settings) : (s.setSettings x).settings = x := rfl
@[simp] theorem State.setSettings_curves (x : Settings) : (s.setSettings x).curves = s.curves := rfl
@[simp] theorem State.setSettings_link (x : Settings) : (s.setSettings x).link = s.link := rfl
@[simp] theorem State.setSettings_held (x : Settings) : (s.setSettings x).held = s.held := rfl
@[simp] theorem State.setSettings_tempo (x : Settings) : (s.setSettings x).tempo = s.tempo := rfl
@[simp] theorem State.setSettings_change (x : Settings) : (s.setSettings x).change = s.change := rfl
@[simp] theorem State.setSettings_store (x : Settings) : (s.setSettings x).store = s.store := rfl
@[simp] theorem State.setSettings_pedals (x : Settings) : (s.setSettings x).pedals = s.pedals := rfl
@[simp] theorem State.setSettings_service (x : Settings) : (s.setSettings x).service = s.service := rfl
@[simp] theorem State.setSettings_status (x : Settings) : (s.setSettings x).status = s.status := rfl
@[simp] theorem State.setSettings_pending (x : Settings) : (s.setSettings x).pending = s.pending := rfl

@[simp] theorem State.setCurves_power (x : Vector (Vector Nat 129) 15) : (s.setCurves x).power = s.power := rfl
@[simp] theorem State.setCurves_now (x : Vector (Vector Nat 129) 15) : (s.setCurves x).now = s.now := rfl
@[simp] theorem State.setCurves_freeTick (x : Vector (Vector Nat 129) 15) : (s.setCurves x).freeTick = s.freeTick := rfl
@[simp] theorem State.setCurves_settings (x : Vector (Vector Nat 129) 15) : (s.setCurves x).settings = s.settings := rfl
@[simp] theorem State.setCurves_curves (x : Vector (Vector Nat 129) 15) : (s.setCurves x).curves = x := rfl
@[simp] theorem State.setCurves_link (x : Vector (Vector Nat 129) 15) : (s.setCurves x).link = s.link := rfl
@[simp] theorem State.setCurves_held (x : Vector (Vector Nat 129) 15) : (s.setCurves x).held = s.held := rfl
@[simp] theorem State.setCurves_tempo (x : Vector (Vector Nat 129) 15) : (s.setCurves x).tempo = s.tempo := rfl
@[simp] theorem State.setCurves_change (x : Vector (Vector Nat 129) 15) : (s.setCurves x).change = s.change := rfl
@[simp] theorem State.setCurves_store (x : Vector (Vector Nat 129) 15) : (s.setCurves x).store = s.store := rfl
@[simp] theorem State.setCurves_pedals (x : Vector (Vector Nat 129) 15) : (s.setCurves x).pedals = s.pedals := rfl
@[simp] theorem State.setCurves_service (x : Vector (Vector Nat 129) 15) : (s.setCurves x).service = s.service := rfl
@[simp] theorem State.setCurves_status (x : Vector (Vector Nat 129) 15) : (s.setCurves x).status = s.status := rfl
@[simp] theorem State.setCurves_pending (x : Vector (Vector Nat 129) 15) : (s.setCurves x).pending = s.pending := rfl

@[simp] theorem State.setLink_power (x : Link) : (s.setLink x).power = s.power := rfl
@[simp] theorem State.setLink_now (x : Link) : (s.setLink x).now = s.now := rfl
@[simp] theorem State.setLink_freeTick (x : Link) : (s.setLink x).freeTick = s.freeTick := rfl
@[simp] theorem State.setLink_settings (x : Link) : (s.setLink x).settings = s.settings := rfl
@[simp] theorem State.setLink_curves (x : Link) : (s.setLink x).curves = s.curves := rfl
@[simp] theorem State.setLink_link (x : Link) : (s.setLink x).link = x := rfl
@[simp] theorem State.setLink_held (x : Link) : (s.setLink x).held = s.held := rfl
@[simp] theorem State.setLink_tempo (x : Link) : (s.setLink x).tempo = s.tempo := rfl
@[simp] theorem State.setLink_change (x : Link) : (s.setLink x).change = s.change := rfl
@[simp] theorem State.setLink_store (x : Link) : (s.setLink x).store = s.store := rfl
@[simp] theorem State.setLink_pedals (x : Link) : (s.setLink x).pedals = s.pedals := rfl
@[simp] theorem State.setLink_service (x : Link) : (s.setLink x).service = s.service := rfl
@[simp] theorem State.setLink_status (x : Link) : (s.setLink x).status = s.status := rfl
@[simp] theorem State.setLink_pending (x : Link) : (s.setLink x).pending = s.pending := rfl

@[simp] theorem State.setHeld_power (x : Held) : (s.setHeld x).power = s.power := rfl
@[simp] theorem State.setHeld_now (x : Held) : (s.setHeld x).now = s.now := rfl
@[simp] theorem State.setHeld_freeTick (x : Held) : (s.setHeld x).freeTick = s.freeTick := rfl
@[simp] theorem State.setHeld_settings (x : Held) : (s.setHeld x).settings = s.settings := rfl
@[simp] theorem State.setHeld_curves (x : Held) : (s.setHeld x).curves = s.curves := rfl
@[simp] theorem State.setHeld_link (x : Held) : (s.setHeld x).link = s.link := rfl
@[simp] theorem State.setHeld_held (x : Held) : (s.setHeld x).held = x := rfl
@[simp] theorem State.setHeld_tempo (x : Held) : (s.setHeld x).tempo = s.tempo := rfl
@[simp] theorem State.setHeld_change (x : Held) : (s.setHeld x).change = s.change := rfl
@[simp] theorem State.setHeld_store (x : Held) : (s.setHeld x).store = s.store := rfl
@[simp] theorem State.setHeld_pedals (x : Held) : (s.setHeld x).pedals = s.pedals := rfl
@[simp] theorem State.setHeld_service (x : Held) : (s.setHeld x).service = s.service := rfl
@[simp] theorem State.setHeld_status (x : Held) : (s.setHeld x).status = s.status := rfl
@[simp] theorem State.setHeld_pending (x : Held) : (s.setHeld x).pending = s.pending := rfl

@[simp] theorem State.setTempo_power (x : Tempo) : (s.setTempo x).power = s.power := rfl
@[simp] theorem State.setTempo_now (x : Tempo) : (s.setTempo x).now = s.now := rfl
@[simp] theorem State.setTempo_freeTick (x : Tempo) : (s.setTempo x).freeTick = s.freeTick := rfl
@[simp] theorem State.setTempo_settings (x : Tempo) : (s.setTempo x).settings = s.settings := rfl
@[simp] theorem State.setTempo_curves (x : Tempo) : (s.setTempo x).curves = s.curves := rfl
@[simp] theorem State.setTempo_link (x : Tempo) : (s.setTempo x).link = s.link := rfl
@[simp] theorem State.setTempo_held (x : Tempo) : (s.setTempo x).held = s.held := rfl
@[simp] theorem State.setTempo_tempo (x : Tempo) : (s.setTempo x).tempo = x := rfl
@[simp] theorem State.setTempo_change (x : Tempo) : (s.setTempo x).change = s.change := rfl
@[simp] theorem State.setTempo_store (x : Tempo) : (s.setTempo x).store = s.store := rfl
@[simp] theorem State.setTempo_pedals (x : Tempo) : (s.setTempo x).pedals = s.pedals := rfl
@[simp] theorem State.setTempo_service (x : Tempo) : (s.setTempo x).service = s.service := rfl
@[simp] theorem State.setTempo_status (x : Tempo) : (s.setTempo x).status = s.status := rfl
@[simp] theorem State.setTempo_pending (x : Tempo) : (s.setTempo x).pending = s.pending := rfl

@[simp] theorem State.setChange_power (x : Change) : (s.setChange x).power = s.power := rfl
@[simp] theorem State.setChange_now (x : Change) : (s.setChange x).now = s.now := rfl
@[simp] theorem State.setChange_freeTick (x : Change) : (s.setChange x).freeTick = s.freeTick := rfl
@[simp] theorem State.setChange_settings (x : Change) : (s.setChange x).settings = s.settings := rfl
@[simp] theorem State.setChange_curves (x : Change) : (s.setChange x).curves = s.curves := rfl
@[simp] theorem State.setChange_link (x : Change) : (s.setChange x).link = s.link := rfl
@[simp] theorem State.setChange_held (x : Change) : (s.setChange x).held = s.held := rfl
@[simp] theorem State.setChange_tempo (x : Change) : (s.setChange x).tempo = s.tempo := rfl
@[simp] theorem State.setChange_change (x : Change) : (s.setChange x).change = x := rfl
@[simp] theorem State.setChange_store (x : Change) : (s.setChange x).store = s.store := rfl
@[simp] theorem State.setChange_pedals (x : Change) : (s.setChange x).pedals = s.pedals := rfl
@[simp] theorem State.setChange_service (x : Change) : (s.setChange x).service = s.service := rfl
@[simp] theorem State.setChange_status (x : Change) : (s.setChange x).status = s.status := rfl
@[simp] theorem State.setChange_pending (x : Change) : (s.setChange x).pending = s.pending := rfl

@[simp] theorem State.setStore_power (x : Store) : (s.setStore x).power = s.power := rfl
@[simp] theorem State.setStore_now (x : Store) : (s.setStore x).now = s.now := rfl
@[simp] theorem State.setStore_freeTick (x : Store) : (s.setStore x).freeTick = s.freeTick := rfl
@[simp] theorem State.setStore_settings (x : Store) : (s.setStore x).settings = s.settings := rfl
@[simp] theorem State.setStore_curves (x : Store) : (s.setStore x).curves = s.curves := rfl
@[simp] theorem State.setStore_link (x : Store) : (s.setStore x).link = s.link := rfl
@[simp] theorem State.setStore_held (x : Store) : (s.setStore x).held = s.held := rfl
@[simp] theorem State.setStore_tempo (x : Store) : (s.setStore x).tempo = s.tempo := rfl
@[simp] theorem State.setStore_change (x : Store) : (s.setStore x).change = s.change := rfl
@[simp] theorem State.setStore_store (x : Store) : (s.setStore x).store = x := rfl
@[simp] theorem State.setStore_pedals (x : Store) : (s.setStore x).pedals = s.pedals := rfl
@[simp] theorem State.setStore_service (x : Store) : (s.setStore x).service = s.service := rfl
@[simp] theorem State.setStore_status (x : Store) : (s.setStore x).status = s.status := rfl
@[simp] theorem State.setStore_pending (x : Store) : (s.setStore x).pending = s.pending := rfl

@[simp] theorem State.setPedals_power (x : Pedals) : (s.setPedals x).power = s.power := rfl
@[simp] theorem State.setPedals_now (x : Pedals) : (s.setPedals x).now = s.now := rfl
@[simp] theorem State.setPedals_freeTick (x : Pedals) : (s.setPedals x).freeTick = s.freeTick := rfl
@[simp] theorem State.setPedals_settings (x : Pedals) : (s.setPedals x).settings = s.settings := rfl
@[simp] theorem State.setPedals_curves (x : Pedals) : (s.setPedals x).curves = s.curves := rfl
@[simp] theorem State.setPedals_link (x : Pedals) : (s.setPedals x).link = s.link := rfl
@[simp] theorem State.setPedals_held (x : Pedals) : (s.setPedals x).held = s.held := rfl
@[simp] theorem State.setPedals_tempo (x : Pedals) : (s.setPedals x).tempo = s.tempo := rfl
@[simp] theorem State.setPedals_change (x : Pedals) : (s.setPedals x).change = s.change := rfl
@[simp] theorem State.setPedals_store (x : Pedals) : (s.setPedals x).store = s.store := rfl
@[simp] theorem State.setPedals_pedals (x : Pedals) : (s.setPedals x).pedals = x := rfl
@[simp] theorem State.setPedals_service (x : Pedals) : (s.setPedals x).service = s.service := rfl
@[simp] theorem State.setPedals_status (x : Pedals) : (s.setPedals x).status = s.status := rfl
@[simp] theorem State.setPedals_pending (x : Pedals) : (s.setPedals x).pending = s.pending := rfl

@[simp] theorem State.setService_power (x : Service) : (s.setService x).power = s.power := rfl
@[simp] theorem State.setService_now (x : Service) : (s.setService x).now = s.now := rfl
@[simp] theorem State.setService_freeTick (x : Service) : (s.setService x).freeTick = s.freeTick := rfl
@[simp] theorem State.setService_settings (x : Service) : (s.setService x).settings = s.settings := rfl
@[simp] theorem State.setService_curves (x : Service) : (s.setService x).curves = s.curves := rfl
@[simp] theorem State.setService_link (x : Service) : (s.setService x).link = s.link := rfl
@[simp] theorem State.setService_held (x : Service) : (s.setService x).held = s.held := rfl
@[simp] theorem State.setService_tempo (x : Service) : (s.setService x).tempo = s.tempo := rfl
@[simp] theorem State.setService_change (x : Service) : (s.setService x).change = s.change := rfl
@[simp] theorem State.setService_store (x : Service) : (s.setService x).store = s.store := rfl
@[simp] theorem State.setService_pedals (x : Service) : (s.setService x).pedals = s.pedals := rfl
@[simp] theorem State.setService_service (x : Service) : (s.setService x).service = x := rfl
@[simp] theorem State.setService_status (x : Service) : (s.setService x).status = s.status := rfl
@[simp] theorem State.setService_pending (x : Service) : (s.setService x).pending = s.pending := rfl

@[simp] theorem State.setStatus_power (x : Status) : (s.setStatus x).power = s.power := rfl
@[simp] theorem State.setStatus_now (x : Status) : (s.setStatus x).now = s.now := rfl
@[simp] theorem State.setStatus_freeTick (x : Status) : (s.setStatus x).freeTick = s.freeTick := rfl
@[simp] theorem State.setStatus_settings (x : Status) : (s.setStatus x).settings = s.settings := rfl
@[simp] theorem State.setStatus_curves (x : Status) : (s.setStatus x).curves = s.curves := rfl
@[simp] theorem State.setStatus_link (x : Status) : (s.setStatus x).link = s.link := rfl
@[simp] theorem State.setStatus_held (x : Status) : (s.setStatus x).held = s.held := rfl
@[simp] theorem State.setStatus_tempo (x : Status) : (s.setStatus x).tempo = s.tempo := rfl
@[simp] theorem State.setStatus_change (x : Status) : (s.setStatus x).change = s.change := rfl
@[simp] theorem State.setStatus_store (x : Status) : (s.setStatus x).store = s.store := rfl
@[simp] theorem State.setStatus_pedals (x : Status) : (s.setStatus x).pedals = s.pedals := rfl
@[simp] theorem State.setStatus_service (x : Status) : (s.setStatus x).service = s.service := rfl
@[simp] theorem State.setStatus_status (x : Status) : (s.setStatus x).status = x := rfl
@[simp] theorem State.setStatus_pending (x : Status) : (s.setStatus x).pending = s.pending := rfl

@[simp] theorem State.setPending_power (x : List Instr) : (s.setPending x).power = s.power := rfl
@[simp] theorem State.setPending_now (x : List Instr) : (s.setPending x).now = s.now := rfl
@[simp] theorem State.setPending_freeTick (x : List Instr) : (s.setPending x).freeTick = s.freeTick := rfl
@[simp] theorem State.setPending_settings (x : List Instr) : (s.setPending x).settings = s.settings := rfl
@[simp] theorem State.setPending_curves (x : List Instr) : (s.setPending x).curves = s.curves := rfl
@[simp] theorem State.setPending_link (x : List Instr) : (s.setPending x).link = s.link := rfl
@[simp] theorem State.setPending_held (x : List Instr) : (s.setPending x).held = s.held := rfl
@[simp] theorem State.setPending_tempo (x : List Instr) : (s.setPending x).tempo = s.tempo := rfl
@[simp] theorem State.setPending_change (x : List Instr) : (s.setPending x).change = s.change := rfl
@[simp] theorem State.setPending_store (x : List Instr) : (s.setPending x).store = s.store := rfl
@[simp] theorem State.setPending_pedals (x : List Instr) : (s.setPending x).pedals = s.pedals := rfl
@[simp] theorem State.setPending_service (x : List Instr) : (s.setPending x).service = s.service := rfl
@[simp] theorem State.setPending_status (x : List Instr) : (s.setPending x).status = s.status := rfl
@[simp] theorem State.setPending_pending (x : List Instr) : (s.setPending x).pending = x := rfl

end Sys2Proof.Machine
end

