-- ==== Sys2Proof/Laws/Blocks.lean ====
section
/-! SUPPORT. What the shared operations leave alone: for each operation and each block of the part that it does not
touch, one equation. Later proofs simplify with these and unfold no operation whose effect they do not need. -/

namespace Sys2Proof.Machine

/-- A fold keeps what each of its steps keeps. -/
theorem foldl_keep {α β γ : Type} (x : γ → β) {g : γ → α → γ} (h : ∀ s a, x (g s a) = x s) (l : List α) (s : γ) :
    x (l.foldl g s) = x s := by
  induction l generalizing s with
  | nil => rfl
  | cons a l ih => exact (ih (g s a)).trans (h s a)

variable (s : State)

@[simp] theorem countRejected_power (p : Port) : (countRejected p s).power = s.power := rfl
@[simp] theorem countRejected_now (p : Port) : (countRejected p s).now = s.now := rfl
@[simp] theorem countRejected_freeTick (p : Port) : (countRejected p s).freeTick = s.freeTick := rfl
@[simp] theorem countRejected_settings (p : Port) : (countRejected p s).settings = s.settings := rfl
@[simp] theorem countRejected_curves (p : Port) : (countRejected p s).curves = s.curves := rfl
@[simp] theorem countRejected_link (p : Port) : (countRejected p s).link = s.link := rfl
@[simp] theorem countRejected_held (p : Port) : (countRejected p s).held = s.held := rfl
@[simp] theorem countRejected_tempo (p : Port) : (countRejected p s).tempo = s.tempo := rfl
@[simp] theorem countRejected_change (p : Port) : (countRejected p s).change = s.change := rfl
@[simp] theorem countRejected_store (p : Port) : (countRejected p s).store = s.store := rfl
@[simp] theorem countRejected_pedals (p : Port) : (countRejected p s).pedals = s.pedals := rfl
@[simp] theorem countRejected_service (p : Port) : (countRejected p s).service = s.service := rfl
@[simp] theorem countRejected_pending (p : Port) : (countRejected p s).pending = s.pending := rfl

@[simp] theorem countPlayDrop_power (p : Port) : (countPlayDrop p s).power = s.power := rfl
@[simp] theorem countPlayDrop_now (p : Port) : (countPlayDrop p s).now = s.now := rfl
@[simp] theorem countPlayDrop_freeTick (p : Port) : (countPlayDrop p s).freeTick = s.freeTick := rfl
@[simp] theorem countPlayDrop_settings (p : Port) : (countPlayDrop p s).settings = s.settings := rfl
@[simp] theorem countPlayDrop_curves (p : Port) : (countPlayDrop p s).curves = s.curves := rfl
@[simp] theorem countPlayDrop_link (p : Port) : (countPlayDrop p s).link = s.link := rfl
@[simp] theorem countPlayDrop_held (p : Port) : (countPlayDrop p s).held = s.held := rfl
@[simp] theorem countPlayDrop_tempo (p : Port) : (countPlayDrop p s).tempo = s.tempo := rfl
@[simp] theorem countPlayDrop_change (p : Port) : (countPlayDrop p s).change = s.change := rfl
@[simp] theorem countPlayDrop_store (p : Port) : (countPlayDrop p s).store = s.store := rfl
@[simp] theorem countPlayDrop_pedals (p : Port) : (countPlayDrop p s).pedals = s.pedals := rfl
@[simp] theorem countPlayDrop_service (p : Port) : (countPlayDrop p s).service = s.service := rfl
@[simp] theorem countPlayDrop_pending (p : Port) : (countPlayDrop p s).pending = s.pending := rfl

@[simp] theorem countTimingSlip_power (p : Port) : (countTimingSlip p s).power = s.power := rfl
@[simp] theorem countTimingSlip_now (p : Port) : (countTimingSlip p s).now = s.now := rfl
@[simp] theorem countTimingSlip_freeTick (p : Port) : (countTimingSlip p s).freeTick = s.freeTick := rfl
@[simp] theorem countTimingSlip_settings (p : Port) : (countTimingSlip p s).settings = s.settings := rfl
@[simp] theorem countTimingSlip_curves (p : Port) : (countTimingSlip p s).curves = s.curves := rfl
@[simp] theorem countTimingSlip_link (p : Port) : (countTimingSlip p s).link = s.link := rfl
@[simp] theorem countTimingSlip_held (p : Port) : (countTimingSlip p s).held = s.held := rfl
@[simp] theorem countTimingSlip_tempo (p : Port) : (countTimingSlip p s).tempo = s.tempo := rfl
@[simp] theorem countTimingSlip_change (p : Port) : (countTimingSlip p s).change = s.change := rfl
@[simp] theorem countTimingSlip_store (p : Port) : (countTimingSlip p s).store = s.store := rfl
@[simp] theorem countTimingSlip_pedals (p : Port) : (countTimingSlip p s).pedals = s.pedals := rfl
@[simp] theorem countTimingSlip_service (p : Port) : (countTimingSlip p s).service = s.service := rfl
@[simp] theorem countTimingSlip_pending (p : Port) : (countTimingSlip p s).pending = s.pending := rfl

@[simp] theorem countServiceOverrun_power (p : Port) : (countServiceOverrun p s).power = s.power := rfl
@[simp] theorem countServiceOverrun_now (p : Port) : (countServiceOverrun p s).now = s.now := rfl
@[simp] theorem countServiceOverrun_freeTick (p : Port) : (countServiceOverrun p s).freeTick = s.freeTick := rfl
@[simp] theorem countServiceOverrun_settings (p : Port) : (countServiceOverrun p s).settings = s.settings := rfl
@[simp] theorem countServiceOverrun_curves (p : Port) : (countServiceOverrun p s).curves = s.curves := rfl
@[simp] theorem countServiceOverrun_link (p : Port) : (countServiceOverrun p s).link = s.link := rfl
@[simp] theorem countServiceOverrun_held (p : Port) : (countServiceOverrun p s).held = s.held := rfl
@[simp] theorem countServiceOverrun_tempo (p : Port) : (countServiceOverrun p s).tempo = s.tempo := rfl
@[simp] theorem countServiceOverrun_change (p : Port) : (countServiceOverrun p s).change = s.change := rfl
@[simp] theorem countServiceOverrun_store (p : Port) : (countServiceOverrun p s).store = s.store := rfl
@[simp] theorem countServiceOverrun_pedals (p : Port) : (countServiceOverrun p s).pedals = s.pedals := rfl
@[simp] theorem countServiceOverrun_service (p : Port) : (countServiceOverrun p s).service = s.service := rfl
@[simp] theorem countServiceOverrun_pending (p : Port) : (countServiceOverrun p s).pending = s.pending := rfl

@[simp] theorem countHeldOverflow_power : (countHeldOverflow s).power = s.power := rfl
@[simp] theorem countHeldOverflow_now : (countHeldOverflow s).now = s.now := rfl
@[simp] theorem countHeldOverflow_freeTick : (countHeldOverflow s).freeTick = s.freeTick := rfl
@[simp] theorem countHeldOverflow_settings : (countHeldOverflow s).settings = s.settings := rfl
@[simp] theorem countHeldOverflow_curves : (countHeldOverflow s).curves = s.curves := rfl
@[simp] theorem countHeldOverflow_link : (countHeldOverflow s).link = s.link := rfl
@[simp] theorem countHeldOverflow_held : (countHeldOverflow s).held = s.held := rfl
@[simp] theorem countHeldOverflow_tempo : (countHeldOverflow s).tempo = s.tempo := rfl
@[simp] theorem countHeldOverflow_change : (countHeldOverflow s).change = s.change := rfl
@[simp] theorem countHeldOverflow_store : (countHeldOverflow s).store = s.store := rfl
@[simp] theorem countHeldOverflow_pedals : (countHeldOverflow s).pedals = s.pedals := rfl
@[simp] theorem countHeldOverflow_service : (countHeldOverflow s).service = s.service := rfl
@[simp] theorem countHeldOverflow_pending : (countHeldOverflow s).pending = s.pending := rfl

@[simp] theorem countChangeOverflow_power : (countChangeOverflow s).power = s.power := rfl
@[simp] theorem countChangeOverflow_now : (countChangeOverflow s).now = s.now := rfl
@[simp] theorem countChangeOverflow_freeTick : (countChangeOverflow s).freeTick = s.freeTick := rfl
@[simp] theorem countChangeOverflow_settings : (countChangeOverflow s).settings = s.settings := rfl
@[simp] theorem countChangeOverflow_curves : (countChangeOverflow s).curves = s.curves := rfl
@[simp] theorem countChangeOverflow_link : (countChangeOverflow s).link = s.link := rfl
@[simp] theorem countChangeOverflow_held : (countChangeOverflow s).held = s.held := rfl
@[simp] theorem countChangeOverflow_tempo : (countChangeOverflow s).tempo = s.tempo := rfl
@[simp] theorem countChangeOverflow_change : (countChangeOverflow s).change = s.change := rfl
@[simp] theorem countChangeOverflow_store : (countChangeOverflow s).store = s.store := rfl
@[simp] theorem countChangeOverflow_pedals : (countChangeOverflow s).pedals = s.pedals := rfl
@[simp] theorem countChangeOverflow_service : (countChangeOverflow s).service = s.service := rfl
@[simp] theorem countChangeOverflow_pending : (countChangeOverflow s).pending = s.pending := rfl

@[simp] theorem flagStore_power : (flagStore s).power = s.power := rfl
@[simp] theorem flagStore_now : (flagStore s).now = s.now := rfl
@[simp] theorem flagStore_freeTick : (flagStore s).freeTick = s.freeTick := rfl
@[simp] theorem flagStore_settings : (flagStore s).settings = s.settings := rfl
@[simp] theorem flagStore_curves : (flagStore s).curves = s.curves := rfl
@[simp] theorem flagStore_link : (flagStore s).link = s.link := rfl
@[simp] theorem flagStore_held : (flagStore s).held = s.held := rfl
@[simp] theorem flagStore_tempo : (flagStore s).tempo = s.tempo := rfl
@[simp] theorem flagStore_change : (flagStore s).change = s.change := rfl
@[simp] theorem flagStore_store : (flagStore s).store = s.store := rfl
@[simp] theorem flagStore_pedals : (flagStore s).pedals = s.pedals := rfl
@[simp] theorem flagStore_service : (flagStore s).service = s.service := rfl
@[simp] theorem flagStore_pending : (flagStore s).pending = s.pending := rfl

@[simp] theorem flagChange_power : (flagChange s).power = s.power := rfl
@[simp] theorem flagChange_now : (flagChange s).now = s.now := rfl
@[simp] theorem flagChange_freeTick : (flagChange s).freeTick = s.freeTick := rfl
@[simp] theorem flagChange_settings : (flagChange s).settings = s.settings := rfl
@[simp] theorem flagChange_curves : (flagChange s).curves = s.curves := rfl
@[simp] theorem flagChange_link : (flagChange s).link = s.link := rfl
@[simp] theorem flagChange_held : (flagChange s).held = s.held := rfl
@[simp] theorem flagChange_tempo : (flagChange s).tempo = s.tempo := rfl
@[simp] theorem flagChange_change : (flagChange s).change = s.change := rfl
@[simp] theorem flagChange_store : (flagChange s).store = s.store := rfl
@[simp] theorem flagChange_pedals : (flagChange s).pedals = s.pedals := rfl
@[simp] theorem flagChange_service : (flagChange s).service = s.service := rfl
@[simp] theorem flagChange_pending : (flagChange s).pending = s.pending := rfl

@[simp] theorem countRepairs_power (n : Nat) : (countRepairs n s).power = s.power := rfl
@[simp] theorem countRepairs_now (n : Nat) : (countRepairs n s).now = s.now := rfl
@[simp] theorem countRepairs_freeTick (n : Nat) : (countRepairs n s).freeTick = s.freeTick := rfl
@[simp] theorem countRepairs_settings (n : Nat) : (countRepairs n s).settings = s.settings := rfl
@[simp] theorem countRepairs_curves (n : Nat) : (countRepairs n s).curves = s.curves := rfl
@[simp] theorem countRepairs_link (n : Nat) : (countRepairs n s).link = s.link := rfl
@[simp] theorem countRepairs_held (n : Nat) : (countRepairs n s).held = s.held := rfl
@[simp] theorem countRepairs_tempo (n : Nat) : (countRepairs n s).tempo = s.tempo := rfl
@[simp] theorem countRepairs_change (n : Nat) : (countRepairs n s).change = s.change := rfl
@[simp] theorem countRepairs_store (n : Nat) : (countRepairs n s).store = s.store := rfl
@[simp] theorem countRepairs_pedals (n : Nat) : (countRepairs n s).pedals = s.pedals := rfl
@[simp] theorem countRepairs_service (n : Nat) : (countRepairs n s).service = s.service := rfl
@[simp] theorem countRepairs_pending (n : Nat) : (countRepairs n s).pending = s.pending := rfl

@[simp] theorem modifyOut_power (p : Port) (g : OutPort → OutPort) : (modifyOut p g s).power = s.power := rfl
@[simp] theorem modifyOut_now (p : Port) (g : OutPort → OutPort) : (modifyOut p g s).now = s.now := rfl
@[simp] theorem modifyOut_freeTick (p : Port) (g : OutPort → OutPort) : (modifyOut p g s).freeTick = s.freeTick := rfl
@[simp] theorem modifyOut_settings (p : Port) (g : OutPort → OutPort) : (modifyOut p g s).settings = s.settings := rfl
@[simp] theorem modifyOut_curves (p : Port) (g : OutPort → OutPort) : (modifyOut p g s).curves = s.curves := rfl
@[simp] theorem modifyOut_held (p : Port) (g : OutPort → OutPort) : (modifyOut p g s).held = s.held := rfl
@[simp] theorem modifyOut_tempo (p : Port) (g : OutPort → OutPort) : (modifyOut p g s).tempo = s.tempo := rfl
@[simp] theorem modifyOut_change (p : Port) (g : OutPort → OutPort) : (modifyOut p g s).change = s.change := rfl
@[simp] theorem modifyOut_store (p : Port) (g : OutPort → OutPort) : (modifyOut p g s).store = s.store := rfl
@[simp] theorem modifyOut_pedals (p : Port) (g : OutPort → OutPort) : (modifyOut p g s).pedals = s.pedals := rfl
@[simp] theorem modifyOut_service (p : Port) (g : OutPort → OutPort) : (modifyOut p g s).service = s.service := rfl
@[simp] theorem modifyOut_status (p : Port) (g : OutPort → OutPort) : (modifyOut p g s).status = s.status := rfl
@[simp] theorem modifyOut_pending (p : Port) (g : OutPort → OutPort) : (modifyOut p g s).pending = s.pending := rfl

@[simp] theorem offerTiming_power (p : Port) (f : Frame) : (offerTiming p f s).power = s.power := by
  unfold offerTiming
  repeat' split
  all_goals rfl
@[simp] theorem offerTiming_now (p : Port) (f : Frame) : (offerTiming p f s).now = s.now := by
  unfold offerTiming
  repeat' split
  all_goals rfl
@[simp] theorem offerTiming_freeTick (p : Port) (f : Frame) : (offerTiming p f s).freeTick = s.freeTick := by
  unfold offerTiming
  repeat' split
  all_goals rfl
@[simp] theorem offerTiming_settings (p : Port) (f : Frame) : (offerTiming p f s).settings = s.settings := by
  unfold offerTiming
  repeat' split
  all_goals rfl
@[simp] theorem offerTiming_curves (p : Port) (f : Frame) : (offerTiming p f s).curves = s.curves := by
  unfold offerTiming
  repeat' split
  all_goals rfl
@[simp] theorem offerTiming_held (p : Port) (f : Frame) : (offerTiming p f s).held = s.held := by
  unfold offerTiming
  repeat' split
  all_goals rfl
@[simp] theorem offerTiming_tempo (p : Port) (f : Frame) : (offerTiming p f s).tempo = s.tempo := by
  unfold offerTiming
  repeat' split
  all_goals rfl
@[simp] theorem offerTiming_change (p : Port) (f : Frame) : (offerTiming p f s).change = s.change := by
  unfold offerTiming
  repeat' split
  all_goals rfl
@[simp] theorem offerTiming_store (p : Port) (f : Frame) : (offerTiming p f s).store = s.store := by
  unfold offerTiming
  repeat' split
  all_goals rfl
@[simp] theorem offerTiming_pedals (p : Port) (f : Frame) : (offerTiming p f s).pedals = s.pedals := by
  unfold offerTiming
  repeat' split
  all_goals rfl
@[simp] theorem offerTiming_service (p : Port) (f : Frame) : (offerTiming p f s).service = s.service := by
  unfold offerTiming
  repeat' split
  all_goals rfl
@[simp] theorem offerTiming_pending (p : Port) (f : Frame) : (offerTiming p f s).pending = s.pending := by
  unfold offerTiming
  repeat' split
  all_goals rfl

@[simp] theorem offerTickOut_power (f : Frame) : (offerTickOut f s).power = s.power := by
  unfold offerTickOut
  exact foldl_keep State.power (fun s p => offerTiming_power s p f) _ s
@[simp] theorem offerTickOut_now (f : Frame) : (offerTickOut f s).now = s.now := by
  unfold offerTickOut
  exact foldl_keep State.now (fun s p => offerTiming_now s p f) _ s
@[simp] theorem offerTickOut_freeTick (f : Frame) : (offerTickOut f s).freeTick = s.freeTick := by
  unfold offerTickOut
  exact foldl_keep State.freeTick (fun s p => offerTiming_freeTick s p f) _ s
@[simp] theorem offerTickOut_settings (f : Frame) : (offerTickOut f s).settings = s.settings := by
  unfold offerTickOut
  exact foldl_keep State.settings (fun s p => offerTiming_settings s p f) _ s
@[simp] theorem offerTickOut_curves (f : Frame) : (offerTickOut f s).curves = s.curves := by
  unfold offerTickOut
  exact foldl_keep State.curves (fun s p => offerTiming_curves s p f) _ s
@[simp] theorem offerTickOut_held (f : Frame) : (offerTickOut f s).held = s.held := by
  unfold offerTickOut
  exact foldl_keep State.held (fun s p => offerTiming_held s p f) _ s
@[simp] theorem offerTickOut_tempo (f : Frame) : (offerTickOut f s).tempo = s.tempo := by
  unfold offerTickOut
  exact foldl_keep State.tempo (fun s p => offerTiming_tempo s p f) _ s
@[simp] theorem offerTickOut_change (f : Frame) : (offerTickOut f s).change = s.change := by
  unfold offerTickOut
  exact foldl_keep State.change (fun s p => offerTiming_change s p f) _ s
@[simp] theorem offerTickOut_store (f : Frame) : (offerTickOut f s).store = s.store := by
  unfold offerTickOut
  exact foldl_keep State.store (fun s p => offerTiming_store s p f) _ s
@[simp] theorem offerTickOut_pedals (f : Frame) : (offerTickOut f s).pedals = s.pedals := by
  unfold offerTickOut
  exact foldl_keep State.pedals (fun s p => offerTiming_pedals s p f) _ s
@[simp] theorem offerTickOut_service (f : Frame) : (offerTickOut f s).service = s.service := by
  unfold offerTickOut
  exact foldl_keep State.service (fun s p => offerTiming_service s p f) _ s
@[simp] theorem offerTickOut_pending (f : Frame) : (offerTickOut f s).pending = s.pending := by
  unfold offerTickOut
  exact foldl_keep State.pending (fun s p => offerTiming_pending s p f) _ s

@[simp] theorem pushPlay_power (p : Port) (q : Queued) : (pushPlay p q s).power = s.power := rfl
@[simp] theorem pushPlay_now (p : Port) (q : Queued) : (pushPlay p q s).now = s.now := rfl
@[simp] theorem pushPlay_freeTick (p : Port) (q : Queued) : (pushPlay p q s).freeTick = s.freeTick := rfl
@[simp] theorem pushPlay_settings (p : Port) (q : Queued) : (pushPlay p q s).settings = s.settings := rfl
@[simp] theorem pushPlay_curves (p : Port) (q : Queued) : (pushPlay p q s).curves = s.curves := rfl
@[simp] theorem pushPlay_held (p : Port) (q : Queued) : (pushPlay p q s).held = s.held := rfl
@[simp] theorem pushPlay_tempo (p : Port) (q : Queued) : (pushPlay p q s).tempo = s.tempo := rfl
@[simp] theorem pushPlay_change (p : Port) (q : Queued) : (pushPlay p q s).change = s.change := rfl
@[simp] theorem pushPlay_store (p : Port) (q : Queued) : (pushPlay p q s).store = s.store := rfl
@[simp] theorem pushPlay_pedals (p : Port) (q : Queued) : (pushPlay p q s).pedals = s.pedals := rfl
@[simp] theorem pushPlay_service (p : Port) (q : Queued) : (pushPlay p q s).service = s.service := rfl
@[simp] theorem pushPlay_status (p : Port) (q : Queued) : (pushPlay p q s).status = s.status := rfl
@[simp] theorem pushPlay_pending (p : Port) (q : Queued) : (pushPlay p q s).pending = s.pending := rfl

@[simp] theorem offerPlay_power (p : Port) (q : Queued) : (offerPlay p q s).power = s.power := by
  unfold offerPlay
  repeat' split
  all_goals rfl
@[simp] theorem offerPlay_now (p : Port) (q : Queued) : (offerPlay p q s).now = s.now := by
  unfold offerPlay
  repeat' split
  all_goals rfl
@[simp] theorem offerPlay_freeTick (p : Port) (q : Queued) : (offerPlay p q s).freeTick = s.freeTick := by
  unfold offerPlay
  repeat' split
  all_goals rfl
@[simp] theorem offerPlay_settings (p : Port) (q : Queued) : (offerPlay p q s).settings = s.settings := by
  unfold offerPlay
  repeat' split
  all_goals rfl
@[simp] theorem offerPlay_curves (p : Port) (q : Queued) : (offerPlay p q s).curves = s.curves := by
  unfold offerPlay
  repeat' split
  all_goals rfl
@[simp] theorem offerPlay_held (p : Port) (q : Queued) : (offerPlay p q s).held = s.held := by
  unfold offerPlay
  repeat' split
  all_goals rfl
@[simp] theorem offerPlay_tempo (p : Port) (q : Queued) : (offerPlay p q s).tempo = s.tempo := by
  unfold offerPlay
  repeat' split
  all_goals rfl
@[simp] theorem offerPlay_change (p : Port) (q : Queued) : (offerPlay p q s).change = s.change := by
  unfold offerPlay
  repeat' split
  all_goals rfl
@[simp] theorem offerPlay_store (p : Port) (q : Queued) : (offerPlay p q s).store = s.store := by
  unfold offerPlay
  repeat' split
  all_goals rfl
@[simp] theorem offerPlay_pedals (p : Port) (q : Queued) : (offerPlay p q s).pedals = s.pedals := by
  unfold offerPlay
  repeat' split
  all_goals rfl
@[simp] theorem offerPlay_service (p : Port) (q : Queued) : (offerPlay p q s).service = s.service := by
  unfold offerPlay
  repeat' split
  all_goals rfl
@[simp] theorem offerPlay_pending (p : Port) (q : Queued) : (offerPlay p q s).pending = s.pending := by
  unfold offerPlay
  repeat' split
  all_goals rfl

@[simp] theorem pushService_power (p : Port) (q : Queued) : (pushService p q s).power = s.power := rfl
@[simp] theorem pushService_now (p : Port) (q : Queued) : (pushService p q s).now = s.now := rfl
@[simp] theorem pushService_freeTick (p : Port) (q : Queued) : (pushService p q s).freeTick = s.freeTick := rfl
@[simp] theorem pushService_settings (p : Port) (q : Queued) : (pushService p q s).settings = s.settings := rfl
@[simp] theorem pushService_curves (p : Port) (q : Queued) : (pushService p q s).curves = s.curves := rfl
@[simp] theorem pushService_held (p : Port) (q : Queued) : (pushService p q s).held = s.held := rfl
@[simp] theorem pushService_tempo (p : Port) (q : Queued) : (pushService p q s).tempo = s.tempo := rfl
@[simp] theorem pushService_change (p : Port) (q : Queued) : (pushService p q s).change = s.change := rfl
@[simp] theorem pushService_store (p : Port) (q : Queued) : (pushService p q s).store = s.store := rfl
@[simp] theorem pushService_pedals (p : Port) (q : Queued) : (pushService p q s).pedals = s.pedals := rfl
@[simp] theorem pushService_service (p : Port) (q : Queued) : (pushService p q s).service = s.service := rfl
@[simp] theorem pushService_status (p : Port) (q : Queued) : (pushService p q s).status = s.status := rfl
@[simp] theorem pushService_pending (p : Port) (q : Queued) : (pushService p q s).pending = s.pending := rfl

@[simp] theorem passOn_power (p : Port) (f : Frame) : (passOn p f s).power = s.power := by
  unfold passOn
  repeat' split
  all_goals rfl
@[simp] theorem passOn_now (p : Port) (f : Frame) : (passOn p f s).now = s.now := by
  unfold passOn
  repeat' split
  all_goals rfl
@[simp] theorem passOn_freeTick (p : Port) (f : Frame) : (passOn p f s).freeTick = s.freeTick := by
  unfold passOn
  repeat' split
  all_goals rfl
@[simp] theorem passOn_settings (p : Port) (f : Frame) : (passOn p f s).settings = s.settings := by
  unfold passOn
  repeat' split
  all_goals rfl
@[simp] theorem passOn_curves (p : Port) (f : Frame) : (passOn p f s).curves = s.curves := by
  unfold passOn
  repeat' split
  all_goals rfl
@[simp] theorem passOn_held (p : Port) (f : Frame) : (passOn p f s).held = s.held := by
  unfold passOn
  repeat' split
  all_goals rfl
@[simp] theorem passOn_tempo (p : Port) (f : Frame) : (passOn p f s).tempo = s.tempo := by
  unfold passOn
  repeat' split
  all_goals rfl
@[simp] theorem passOn_change (p : Port) (f : Frame) : (passOn p f s).change = s.change := by
  unfold passOn
  repeat' split
  all_goals rfl
@[simp] theorem passOn_store (p : Port) (f : Frame) : (passOn p f s).store = s.store := by
  unfold passOn
  repeat' split
  all_goals rfl
@[simp] theorem passOn_pedals (p : Port) (f : Frame) : (passOn p f s).pedals = s.pedals := by
  unfold passOn
  repeat' split
  all_goals rfl
@[simp] theorem passOn_service (p : Port) (f : Frame) : (passOn p f s).service = s.service := by
  unfold passOn
  repeat' split
  all_goals rfl
@[simp] theorem passOn_pending (p : Port) (f : Frame) : (passOn p f s).pending = s.pending := by
  unfold passOn
  repeat' split
  all_goals rfl

@[simp] theorem createEntry_power (id : Ident) (h : Handling) : (createEntry id h s).power = s.power := rfl
@[simp] theorem createEntry_now (id : Ident) (h : Handling) : (createEntry id h s).now = s.now := rfl
@[simp] theorem createEntry_freeTick (id : Ident) (h : Handling) : (createEntry id h s).freeTick = s.freeTick := rfl
@[simp] theorem createEntry_settings (id : Ident) (h : Handling) : (createEntry id h s).settings = s.settings := rfl
@[simp] theorem createEntry_curves (id : Ident) (h : Handling) : (createEntry id h s).curves = s.curves := rfl
@[simp] theorem createEntry_link (id : Ident) (h : Handling) : (createEntry id h s).link = s.link := rfl
@[simp] theorem createEntry_tempo (id : Ident) (h : Handling) : (createEntry id h s).tempo = s.tempo := rfl
@[simp] theorem createEntry_change (id : Ident) (h : Handling) : (createEntry id h s).change = s.change := rfl
@[simp] theorem createEntry_store (id : Ident) (h : Handling) : (createEntry id h s).store = s.store := rfl
@[simp] theorem createEntry_pedals (id : Ident) (h : Handling) : (createEntry id h s).pedals = s.pedals := rfl
@[simp] theorem createEntry_service (id : Ident) (h : Handling) : (createEntry id h s).service = s.service := rfl
@[simp] theorem createEntry_status (id : Ident) (h : Handling) : (createEntry id h s).status = s.status := rfl
@[simp] theorem createEntry_pending (id : Ident) (h : Handling) : (createEntry id h s).pending = s.pending := rfl

@[simp] theorem restrikeEntry_power (id : Ident) (h : Handling) : (restrikeEntry id h s).power = s.power := rfl
@[simp] theorem restrikeEntry_now (id : Ident) (h : Handling) : (restrikeEntry id h s).now = s.now := rfl
@[simp] theorem restrikeEntry_freeTick (id : Ident) (h : Handling) : (restrikeEntry id h s).freeTick = s.freeTick := rfl
@[simp] theorem restrikeEntry_settings (id : Ident) (h : Handling) : (restrikeEntry id h s).settings = s.settings := rfl
@[simp] theorem restrikeEntry_curves (id : Ident) (h : Handling) : (restrikeEntry id h s).curves = s.curves := rfl
@[simp] theorem restrikeEntry_link (id : Ident) (h : Handling) : (restrikeEntry id h s).link = s.link := rfl
@[simp] theorem restrikeEntry_tempo (id : Ident) (h : Handling) : (restrikeEntry id h s).tempo = s.tempo := rfl
@[simp] theorem restrikeEntry_change (id : Ident) (h : Handling) : (restrikeEntry id h s).change = s.change := rfl
@[simp] theorem restrikeEntry_store (id : Ident) (h : Handling) : (restrikeEntry id h s).store = s.store := rfl
@[simp] theorem restrikeEntry_pedals (id : Ident) (h : Handling) : (restrikeEntry id h s).pedals = s.pedals := rfl
@[simp] theorem restrikeEntry_service (id : Ident) (h : Handling) : (restrikeEntry id h s).service = s.service := rfl
@[simp] theorem restrikeEntry_status (id : Ident) (h : Handling) : (restrikeEntry id h s).status = s.status := rfl
@[simp] theorem restrikeEntry_pending (id : Ident) (h : Handling) : (restrikeEntry id h s).pending = s.pending := rfl

@[simp] theorem makeReleasing_power (c : Entry → Bool) (v : Entry → Option Nat) : (makeReleasing c v s).power = s.power :=
  rfl
@[simp] theorem makeReleasing_now (c : Entry → Bool) (v : Entry → Option Nat) : (makeReleasing c v s).now = s.now := rfl
@[simp] theorem makeReleasing_freeTick (c : Entry → Bool) (v : Entry → Option Nat) : (makeReleasing c v s).freeTick = s.freeTick :=
  rfl
@[simp] theorem makeReleasing_settings (c : Entry → Bool) (v : Entry → Option Nat) : (makeReleasing c v s).settings = s.settings :=
  rfl
@[simp] theorem makeReleasing_curves (c : Entry → Bool) (v : Entry → Option Nat) : (makeReleasing c v s).curves = s.curves :=
  rfl
@[simp] theorem makeReleasing_link (c : Entry → Bool) (v : Entry → Option Nat) : (makeReleasing c v s).link = s.link :=
  rfl
@[simp] theorem makeReleasing_tempo (c : Entry → Bool) (v : Entry → Option Nat) : (makeReleasing c v s).tempo = s.tempo :=
  rfl
@[simp] theorem makeReleasing_change (c : Entry → Bool) (v : Entry → Option Nat) : (makeReleasing c v s).change = s.change :=
  rfl
@[simp] theorem makeReleasing_store (c : Entry → Bool) (v : Entry → Option Nat) : (makeReleasing c v s).store = s.store :=
  rfl
@[simp] theorem makeReleasing_pedals (c : Entry → Bool) (v : Entry → Option Nat) : (makeReleasing c v s).pedals = s.pedals :=
  rfl
@[simp] theorem makeReleasing_service (c : Entry → Bool) (v : Entry → Option Nat) : (makeReleasing c v s).service = s.service :=
  rfl
@[simp] theorem makeReleasing_status (c : Entry → Bool) (v : Entry → Option Nat) : (makeReleasing c v s).status = s.status :=
  rfl
@[simp] theorem makeReleasing_pending (c : Entry → Bool) (v : Entry → Option Nat) : (makeReleasing c v s).pending = s.pending :=
  rfl

@[simp] theorem offerLayer_power (id : Ident) (h : Handling) (f : Frame) : (offerLayer id h f s).power = s.power := by
  unfold offerLayer
  repeat' split
  all_goals rfl
@[simp] theorem offerLayer_now (id : Ident) (h : Handling) (f : Frame) : (offerLayer id h f s).now = s.now := by
  unfold offerLayer
  repeat' split
  all_goals rfl
@[simp] theorem offerLayer_freeTick (id : Ident) (h : Handling) (f : Frame) : (offerLayer id h f s).freeTick = s.freeTick := by
  unfold offerLayer
  repeat' split
  all_goals rfl
@[simp] theorem offerLayer_settings (id : Ident) (h : Handling) (f : Frame) : (offerLayer id h f s).settings = s.settings := by
  unfold offerLayer
  repeat' split
  all_goals rfl
@[simp] theorem offerLayer_curves (id : Ident) (h : Handling) (f : Frame) : (offerLayer id h f s).curves = s.curves := by
  unfold offerLayer
  repeat' split
  all_goals rfl
@[simp] theorem offerLayer_tempo (id : Ident) (h : Handling) (f : Frame) : (offerLayer id h f s).tempo = s.tempo := by
  unfold offerLayer
  repeat' split
  all_goals rfl
@[simp] theorem offerLayer_change (id : Ident) (h : Handling) (f : Frame) : (offerLayer id h f s).change = s.change := by
  unfold offerLayer
  repeat' split
  all_goals rfl
@[simp] theorem offerLayer_store (id : Ident) (h : Handling) (f : Frame) : (offerLayer id h f s).store = s.store := by
  unfold offerLayer
  repeat' split
  all_goals rfl
@[simp] theorem offerLayer_pedals (id : Ident) (h : Handling) (f : Frame) : (offerLayer id h f s).pedals = s.pedals := by
  unfold offerLayer
  repeat' split
  all_goals rfl
@[simp] theorem offerLayer_service (id : Ident) (h : Handling) (f : Frame) : (offerLayer id h f s).service = s.service := by
  unfold offerLayer
  repeat' split
  all_goals rfl
@[simp] theorem offerLayer_pending (id : Ident) (h : Handling) (f : Frame) : (offerLayer id h f s).pending = s.pending := by
  unfold offerLayer
  repeat' split
  all_goals rfl

@[simp] theorem keyUp_power (src : SourceTriple) (v : Option Nat) : (keyUp src v s).power = s.power := rfl
@[simp] theorem keyUp_now (src : SourceTriple) (v : Option Nat) : (keyUp src v s).now = s.now := rfl
@[simp] theorem keyUp_freeTick (src : SourceTriple) (v : Option Nat) : (keyUp src v s).freeTick = s.freeTick := rfl
@[simp] theorem keyUp_settings (src : SourceTriple) (v : Option Nat) : (keyUp src v s).settings = s.settings := rfl
@[simp] theorem keyUp_curves (src : SourceTriple) (v : Option Nat) : (keyUp src v s).curves = s.curves := rfl
@[simp] theorem keyUp_link (src : SourceTriple) (v : Option Nat) : (keyUp src v s).link = s.link := rfl
@[simp] theorem keyUp_tempo (src : SourceTriple) (v : Option Nat) : (keyUp src v s).tempo = s.tempo := rfl
@[simp] theorem keyUp_change (src : SourceTriple) (v : Option Nat) : (keyUp src v s).change = s.change := rfl
@[simp] theorem keyUp_store (src : SourceTriple) (v : Option Nat) : (keyUp src v s).store = s.store := rfl
@[simp] theorem keyUp_pedals (src : SourceTriple) (v : Option Nat) : (keyUp src v s).pedals = s.pedals := rfl
@[simp] theorem keyUp_service (src : SourceTriple) (v : Option Nat) : (keyUp src v s).service = s.service := rfl
@[simp] theorem keyUp_status (src : SourceTriple) (v : Option Nat) : (keyUp src v s).status = s.status := rfl
@[simp] theorem keyUp_pending (src : SourceTriple) (v : Option Nat) : (keyUp src v s).pending = s.pending := rfl

@[simp] theorem releaseAll_power : (releaseAll s).power = s.power := rfl
@[simp] theorem releaseAll_now : (releaseAll s).now = s.now := rfl
@[simp] theorem releaseAll_freeTick : (releaseAll s).freeTick = s.freeTick := rfl
@[simp] theorem releaseAll_settings : (releaseAll s).settings = s.settings := rfl
@[simp] theorem releaseAll_curves : (releaseAll s).curves = s.curves := rfl
@[simp] theorem releaseAll_link : (releaseAll s).link = s.link := rfl
@[simp] theorem releaseAll_tempo : (releaseAll s).tempo = s.tempo := rfl
@[simp] theorem releaseAll_change : (releaseAll s).change = s.change := rfl
@[simp] theorem releaseAll_store : (releaseAll s).store = s.store := rfl
@[simp] theorem releaseAll_pedals : (releaseAll s).pedals = s.pedals := rfl
@[simp] theorem releaseAll_service : (releaseAll s).service = s.service := rfl
@[simp] theorem releaseAll_status : (releaseAll s).status = s.status := rfl
@[simp] theorem releaseAll_pending : (releaseAll s).pending = s.pending := rfl

@[simp] theorem dropEntry_power (id : Ident) : (dropEntry id s).power = s.power := rfl
@[simp] theorem dropEntry_now (id : Ident) : (dropEntry id s).now = s.now := rfl
@[simp] theorem dropEntry_freeTick (id : Ident) : (dropEntry id s).freeTick = s.freeTick := rfl
@[simp] theorem dropEntry_settings (id : Ident) : (dropEntry id s).settings = s.settings := rfl
@[simp] theorem dropEntry_curves (id : Ident) : (dropEntry id s).curves = s.curves := rfl
@[simp] theorem dropEntry_link (id : Ident) : (dropEntry id s).link = s.link := rfl
@[simp] theorem dropEntry_tempo (id : Ident) : (dropEntry id s).tempo = s.tempo := rfl
@[simp] theorem dropEntry_change (id : Ident) : (dropEntry id s).change = s.change := rfl
@[simp] theorem dropEntry_store (id : Ident) : (dropEntry id s).store = s.store := rfl
@[simp] theorem dropEntry_pedals (id : Ident) : (dropEntry id s).pedals = s.pedals := rfl
@[simp] theorem dropEntry_service (id : Ident) : (dropEntry id s).service = s.service := rfl
@[simp] theorem dropEntry_status (id : Ident) : (dropEntry id s).status = s.status := rfl
@[simp] theorem dropEntry_pending (id : Ident) : (dropEntry id s).pending = s.pending := rfl

@[simp] theorem drainOne_power (p : Port) : (drainOne p s).power = s.power := by
  unfold drainOne
  repeat' split
  all_goals simp
@[simp] theorem drainOne_now (p : Port) : (drainOne p s).now = s.now := by
  unfold drainOne
  repeat' split
  all_goals simp
@[simp] theorem drainOne_freeTick (p : Port) : (drainOne p s).freeTick = s.freeTick := by
  unfold drainOne
  repeat' split
  all_goals simp
@[simp] theorem drainOne_settings (p : Port) : (drainOne p s).settings = s.settings := by
  unfold drainOne
  repeat' split
  all_goals simp
@[simp] theorem drainOne_curves (p : Port) : (drainOne p s).curves = s.curves := by
  unfold drainOne
  repeat' split
  all_goals simp
@[simp] theorem drainOne_tempo (p : Port) : (drainOne p s).tempo = s.tempo := by
  unfold drainOne
  repeat' split
  all_goals simp
@[simp] theorem drainOne_change (p : Port) : (drainOne p s).change = s.change := by
  unfold drainOne
  repeat' split
  all_goals simp
@[simp] theorem drainOne_store (p : Port) : (drainOne p s).store = s.store := by
  unfold drainOne
  repeat' split
  all_goals simp
@[simp] theorem drainOne_pedals (p : Port) : (drainOne p s).pedals = s.pedals := by
  unfold drainOne
  repeat' split
  all_goals simp
@[simp] theorem drainOne_service (p : Port) : (drainOne p s).service = s.service := by
  unfold drainOne
  repeat' split
  all_goals simp
@[simp] theorem drainOne_status (p : Port) : (drainOne p s).status = s.status := by
  unfold drainOne
  repeat' split
  all_goals simp
@[simp] theorem drainOne_pending (p : Port) : (drainOne p s).pending = s.pending := by
  unfold drainOne
  repeat' split
  all_goals simp

@[simp] theorem drainTimes_power (p : Port) (n : Nat) : (drainTimes p n s).power = s.power := by
  induction n generalizing s with
  | zero => rfl
  | succ n ih => rw [drainTimes, ih, drainOne_power]
@[simp] theorem drainTimes_now (p : Port) (n : Nat) : (drainTimes p n s).now = s.now := by
  induction n generalizing s with
  | zero => rfl
  | succ n ih => rw [drainTimes, ih, drainOne_now]
@[simp] theorem drainTimes_freeTick (p : Port) (n : Nat) : (drainTimes p n s).freeTick = s.freeTick := by
  induction n generalizing s with
  | zero => rfl
  | succ n ih => rw [drainTimes, ih, drainOne_freeTick]
@[simp] theorem drainTimes_settings (p : Port) (n : Nat) : (drainTimes p n s).settings = s.settings := by
  induction n generalizing s with
  | zero => rfl
  | succ n ih => rw [drainTimes, ih, drainOne_settings]
@[simp] theorem drainTimes_curves (p : Port) (n : Nat) : (drainTimes p n s).curves = s.curves := by
  induction n generalizing s with
  | zero => rfl
  | succ n ih => rw [drainTimes, ih, drainOne_curves]
@[simp] theorem drainTimes_tempo (p : Port) (n : Nat) : (drainTimes p n s).tempo = s.tempo := by
  induction n generalizing s with
  | zero => rfl
  | succ n ih => rw [drainTimes, ih, drainOne_tempo]
@[simp] theorem drainTimes_change (p : Port) (n : Nat) : (drainTimes p n s).change = s.change := by
  induction n generalizing s with
  | zero => rfl
  | succ n ih => rw [drainTimes, ih, drainOne_change]
@[simp] theorem drainTimes_store (p : Port) (n : Nat) : (drainTimes p n s).store = s.store := by
  induction n generalizing s with
  | zero => rfl
  | succ n ih => rw [drainTimes, ih, drainOne_store]
@[simp] theorem drainTimes_pedals (p : Port) (n : Nat) : (drainTimes p n s).pedals = s.pedals := by
  induction n generalizing s with
  | zero => rfl
  | succ n ih => rw [drainTimes, ih, drainOne_pedals]
@[simp] theorem drainTimes_service (p : Port) (n : Nat) : (drainTimes p n s).service = s.service := by
  induction n generalizing s with
  | zero => rfl
  | succ n ih => rw [drainTimes, ih, drainOne_service]
@[simp] theorem drainTimes_status (p : Port) (n : Nat) : (drainTimes p n s).status = s.status := by
  induction n generalizing s with
  | zero => rfl
  | succ n ih => rw [drainTimes, ih, drainOne_status]
@[simp] theorem drainTimes_pending (p : Port) (n : Nat) : (drainTimes p n s).pending = s.pending := by
  induction n generalizing s with
  | zero => rfl
  | succ n ih => rw [drainTimes, ih, drainOne_pending]

@[simp] theorem drainPort_power (p : Port) : (drainPort p s).power = s.power := drainTimes_power _ _ _
@[simp] theorem drainPort_now (p : Port) : (drainPort p s).now = s.now := drainTimes_now _ _ _
@[simp] theorem drainPort_freeTick (p : Port) : (drainPort p s).freeTick = s.freeTick := drainTimes_freeTick _ _ _
@[simp] theorem drainPort_settings (p : Port) : (drainPort p s).settings = s.settings := drainTimes_settings _ _ _
@[simp] theorem drainPort_curves (p : Port) : (drainPort p s).curves = s.curves := drainTimes_curves _ _ _
@[simp] theorem drainPort_tempo (p : Port) : (drainPort p s).tempo = s.tempo := drainTimes_tempo _ _ _
@[simp] theorem drainPort_change (p : Port) : (drainPort p s).change = s.change := drainTimes_change _ _ _
@[simp] theorem drainPort_store (p : Port) : (drainPort p s).store = s.store := drainTimes_store _ _ _
@[simp] theorem drainPort_pedals (p : Port) : (drainPort p s).pedals = s.pedals := drainTimes_pedals _ _ _
@[simp] theorem drainPort_service (p : Port) : (drainPort p s).service = s.service := drainTimes_service _ _ _
@[simp] theorem drainPort_status (p : Port) : (drainPort p s).status = s.status := drainTimes_status _ _ _
@[simp] theorem drainPort_pending (p : Port) : (drainPort p s).pending = s.pending := drainTimes_pending _ _ _

@[simp] theorem modifySustain_power (p : Port) (l : Lane) (g : SustainRecord → SustainRecord) : (modifySustain p l g s).power = s.power :=
  rfl
@[simp] theorem modifySustain_now (p : Port) (l : Lane) (g : SustainRecord → SustainRecord) : (modifySustain p l g s).now = s.now :=
  rfl
@[simp] theorem modifySustain_freeTick (p : Port) (l : Lane) (g : SustainRecord → SustainRecord) : (modifySustain p l g s).freeTick = s.freeTick :=
  rfl
@[simp] theorem modifySustain_settings (p : Port) (l : Lane) (g : SustainRecord → SustainRecord) : (modifySustain p l g s).settings = s.settings :=
  rfl
@[simp] theorem modifySustain_curves (p : Port) (l : Lane) (g : SustainRecord → SustainRecord) : (modifySustain p l g s).curves = s.curves :=
  rfl
@[simp] theorem modifySustain_link (p : Port) (l : Lane) (g : SustainRecord → SustainRecord) : (modifySustain p l g s).link = s.link :=
  rfl
@[simp] theorem modifySustain_tempo (p : Port) (l : Lane) (g : SustainRecord → SustainRecord) : (modifySustain p l g s).tempo = s.tempo :=
  rfl
@[simp] theorem modifySustain_change (p : Port) (l : Lane) (g : SustainRecord → SustainRecord) : (modifySustain p l g s).change = s.change :=
  rfl
@[simp] theorem modifySustain_store (p : Port) (l : Lane) (g : SustainRecord → SustainRecord) : (modifySustain p l g s).store = s.store :=
  rfl
@[simp] theorem modifySustain_pedals (p : Port) (l : Lane) (g : SustainRecord → SustainRecord) : (modifySustain p l g s).pedals = s.pedals :=
  rfl
@[simp] theorem modifySustain_service (p : Port) (l : Lane) (g : SustainRecord → SustainRecord) : (modifySustain p l g s).service = s.service :=
  rfl
@[simp] theorem modifySustain_status (p : Port) (l : Lane) (g : SustainRecord → SustainRecord) : (modifySustain p l g s).status = s.status :=
  rfl
@[simp] theorem modifySustain_pending (p : Port) (l : Lane) (g : SustainRecord → SustainRecord) : (modifySustain p l g s).pending = s.pending :=
  rfl

@[simp] theorem modifyHold_power (d : DestLane) (g : Nat → Nat) : (modifyHold d g s).power = s.power := rfl
@[simp] theorem modifyHold_now (d : DestLane) (g : Nat → Nat) : (modifyHold d g s).now = s.now := rfl
@[simp] theorem modifyHold_freeTick (d : DestLane) (g : Nat → Nat) : (modifyHold d g s).freeTick = s.freeTick := rfl
@[simp] theorem modifyHold_settings (d : DestLane) (g : Nat → Nat) : (modifyHold d g s).settings = s.settings := rfl
@[simp] theorem modifyHold_curves (d : DestLane) (g : Nat → Nat) : (modifyHold d g s).curves = s.curves := rfl
@[simp] theorem modifyHold_link (d : DestLane) (g : Nat → Nat) : (modifyHold d g s).link = s.link := rfl
@[simp] theorem modifyHold_tempo (d : DestLane) (g : Nat → Nat) : (modifyHold d g s).tempo = s.tempo := rfl
@[simp] theorem modifyHold_change (d : DestLane) (g : Nat → Nat) : (modifyHold d g s).change = s.change := rfl
@[simp] theorem modifyHold_store (d : DestLane) (g : Nat → Nat) : (modifyHold d g s).store = s.store := rfl
@[simp] theorem modifyHold_pedals (d : DestLane) (g : Nat → Nat) : (modifyHold d g s).pedals = s.pedals := rfl
@[simp] theorem modifyHold_service (d : DestLane) (g : Nat → Nat) : (modifyHold d g s).service = s.service := rfl
@[simp] theorem modifyHold_status (d : DestLane) (g : Nat → Nat) : (modifyHold d g s).status = s.status := rfl
@[simp] theorem modifyHold_pending (d : DestLane) (g : Nat → Nat) : (modifyHold d g s).pending = s.pending := rfl

@[simp] theorem offerSustain_power (d : DestLane) (v : Half) : (offerSustain d v s).power = s.power := by
  simp [offerSustain]
@[simp] theorem offerSustain_now (d : DestLane) (v : Half) : (offerSustain d v s).now = s.now := by
  simp [offerSustain]
@[simp] theorem offerSustain_freeTick (d : DestLane) (v : Half) : (offerSustain d v s).freeTick = s.freeTick := by
  simp [offerSustain]
@[simp] theorem offerSustain_settings (d : DestLane) (v : Half) : (offerSustain d v s).settings = s.settings := by
  simp [offerSustain]
@[simp] theorem offerSustain_curves (d : DestLane) (v : Half) : (offerSustain d v s).curves = s.curves := by
  simp [offerSustain]
@[simp] theorem offerSustain_held (d : DestLane) (v : Half) : (offerSustain d v s).held = s.held := by
  simp [offerSustain]
@[simp] theorem offerSustain_tempo (d : DestLane) (v : Half) : (offerSustain d v s).tempo = s.tempo := by
  simp [offerSustain]
@[simp] theorem offerSustain_change (d : DestLane) (v : Half) : (offerSustain d v s).change = s.change := by
  simp [offerSustain]
@[simp] theorem offerSustain_store (d : DestLane) (v : Half) : (offerSustain d v s).store = s.store := by
  simp [offerSustain]
@[simp] theorem offerSustain_pedals (d : DestLane) (v : Half) : (offerSustain d v s).pedals = s.pedals := by
  simp [offerSustain]
@[simp] theorem offerSustain_service (d : DestLane) (v : Half) : (offerSustain d v s).service = s.service := by
  simp [offerSustain]
@[simp] theorem offerSustain_pending (d : DestLane) (v : Half) : (offerSustain d v s).pending = s.pending := by
  simp [offerSustain]

@[simp] theorem forwardLane_power (p : Port) (l : Lane) (d : DestLane) : (forwardLane p l s d).power = s.power := by
  unfold forwardLane
  dsimp only
  repeat' split
  all_goals simp
@[simp] theorem forwardLane_now (p : Port) (l : Lane) (d : DestLane) : (forwardLane p l s d).now = s.now := by
  unfold forwardLane
  dsimp only
  repeat' split
  all_goals simp
@[simp] theorem forwardLane_freeTick (p : Port) (l : Lane) (d : DestLane) : (forwardLane p l s d).freeTick = s.freeTick := by
  unfold forwardLane
  dsimp only
  repeat' split
  all_goals simp
@[simp] theorem forwardLane_settings (p : Port) (l : Lane) (d : DestLane) : (forwardLane p l s d).settings = s.settings := by
  unfold forwardLane
  dsimp only
  repeat' split
  all_goals simp
@[simp] theorem forwardLane_curves (p : Port) (l : Lane) (d : DestLane) : (forwardLane p l s d).curves = s.curves := by
  unfold forwardLane
  dsimp only
  repeat' split
  all_goals simp
@[simp] theorem forwardLane_tempo (p : Port) (l : Lane) (d : DestLane) : (forwardLane p l s d).tempo = s.tempo := by
  unfold forwardLane
  dsimp only
  repeat' split
  all_goals simp
@[simp] theorem forwardLane_change (p : Port) (l : Lane) (d : DestLane) : (forwardLane p l s d).change = s.change := by
  unfold forwardLane
  dsimp only
  repeat' split
  all_goals simp
@[simp] theorem forwardLane_store (p : Port) (l : Lane) (d : DestLane) : (forwardLane p l s d).store = s.store := by
  unfold forwardLane
  dsimp only
  repeat' split
  all_goals simp
@[simp] theorem forwardLane_pedals (p : Port) (l : Lane) (d : DestLane) : (forwardLane p l s d).pedals = s.pedals := by
  unfold forwardLane
  dsimp only
  repeat' split
  all_goals simp
@[simp] theorem forwardLane_service (p : Port) (l : Lane) (d : DestLane) : (forwardLane p l s d).service = s.service := by
  unfold forwardLane
  dsimp only
  repeat' split
  all_goals simp
@[simp] theorem forwardLane_pending (p : Port) (l : Lane) (d : DestLane) : (forwardLane p l s d).pending = s.pending := by
  unfold forwardLane
  dsimp only
  repeat' split
  all_goals simp

@[simp] theorem sustainDown_power (p : Port) (l : Lane) (ds : List DestLane) : (sustainDown p l ds s).power = s.power := by
  unfold sustainDown
  split
  · rfl
  · rw [foldl_keep State.power fun s d => forwardLane_power s p l d]
    rfl
@[simp] theorem sustainDown_now (p : Port) (l : Lane) (ds : List DestLane) : (sustainDown p l ds s).now = s.now := by
  unfold sustainDown
  split
  · rfl
  · rw [foldl_keep State.now fun s d => forwardLane_now s p l d]
    rfl
@[simp] theorem sustainDown_freeTick (p : Port) (l : Lane) (ds : List DestLane) : (sustainDown p l ds s).freeTick = s.freeTick := by
  unfold sustainDown
  split
  · rfl
  · rw [foldl_keep State.freeTick fun s d => forwardLane_freeTick s p l d]
    rfl
@[simp] theorem sustainDown_settings (p : Port) (l : Lane) (ds : List DestLane) : (sustainDown p l ds s).settings = s.settings := by
  unfold sustainDown
  split
  · rfl
  · rw [foldl_keep State.settings fun s d => forwardLane_settings s p l d]
    rfl
@[simp] theorem sustainDown_curves (p : Port) (l : Lane) (ds : List DestLane) : (sustainDown p l ds s).curves = s.curves := by
  unfold sustainDown
  split
  · rfl
  · rw [foldl_keep State.curves fun s d => forwardLane_curves s p l d]
    rfl
@[simp] theorem sustainDown_tempo (p : Port) (l : Lane) (ds : List DestLane) : (sustainDown p l ds s).tempo = s.tempo := by
  unfold sustainDown
  split
  · rfl
  · rw [foldl_keep State.tempo fun s d => forwardLane_tempo s p l d]
    rfl
@[simp] theorem sustainDown_change (p : Port) (l : Lane) (ds : List DestLane) : (sustainDown p l ds s).change = s.change := by
  unfold sustainDown
  split
  · rfl
  · rw [foldl_keep State.change fun s d => forwardLane_change s p l d]
    rfl
@[simp] theorem sustainDown_store (p : Port) (l : Lane) (ds : List DestLane) : (sustainDown p l ds s).store = s.store := by
  unfold sustainDown
  split
  · rfl
  · rw [foldl_keep State.store fun s d => forwardLane_store s p l d]
    rfl
@[simp] theorem sustainDown_pedals (p : Port) (l : Lane) (ds : List DestLane) : (sustainDown p l ds s).pedals = s.pedals := by
  unfold sustainDown
  split
  · rfl
  · rw [foldl_keep State.pedals fun s d => forwardLane_pedals s p l d]
    rfl
@[simp] theorem sustainDown_service (p : Port) (l : Lane) (ds : List DestLane) : (sustainDown p l ds s).service = s.service := by
  unfold sustainDown
  split
  · rfl
  · rw [foldl_keep State.service fun s d => forwardLane_service s p l d]
    rfl
@[simp] theorem sustainDown_pending (p : Port) (l : Lane) (ds : List DestLane) : (sustainDown p l ds s).pending = s.pending := by
  unfold sustainDown
  split
  · rfl
  · rw [foldl_keep State.pending fun s d => forwardLane_pending s p l d]
    rfl

@[simp] theorem unforwardLane_power (d : DestLane) : (unforwardLane s d).power = s.power := by
  unfold unforwardLane
  dsimp only
  split <;> simp
@[simp] theorem unforwardLane_now (d : DestLane) : (unforwardLane s d).now = s.now := by
  unfold unforwardLane
  dsimp only
  split <;> simp
@[simp] theorem unforwardLane_freeTick (d : DestLane) : (unforwardLane s d).freeTick = s.freeTick := by
  unfold unforwardLane
  dsimp only
  split <;> simp
@[simp] theorem unforwardLane_settings (d : DestLane) : (unforwardLane s d).settings = s.settings := by
  unfold unforwardLane
  dsimp only
  split <;> simp
@[simp] theorem unforwardLane_curves (d : DestLane) : (unforwardLane s d).curves = s.curves := by
  unfold unforwardLane
  dsimp only
  split <;> simp
@[simp] theorem unforwardLane_tempo (d : DestLane) : (unforwardLane s d).tempo = s.tempo := by
  unfold unforwardLane
  dsimp only
  split <;> simp
@[simp] theorem unforwardLane_change (d : DestLane) : (unforwardLane s d).change = s.change := by
  unfold unforwardLane
  dsimp only
  split <;> simp
@[simp] theorem unforwardLane_store (d : DestLane) : (unforwardLane s d).store = s.store := by
  unfold unforwardLane
  dsimp only
  split <;> simp
@[simp] theorem unforwardLane_pedals (d : DestLane) : (unforwardLane s d).pedals = s.pedals := by
  unfold unforwardLane
  dsimp only
  split <;> simp
@[simp] theorem unforwardLane_service (d : DestLane) : (unforwardLane s d).service = s.service := by
  unfold unforwardLane
  dsimp only
  split <;> simp
@[simp] theorem unforwardLane_pending (d : DestLane) : (unforwardLane s d).pending = s.pending := by
  unfold unforwardLane
  dsimp only
  split <;> simp

@[simp] theorem sustainUp_power (p : Port) (l : Lane) : (sustainUp p l s).power = s.power := by
  unfold sustainUp
  split
  · simp only [modifySustain_power]
    rw [foldl_keep State.power fun s d => unforwardLane_power s d]
    rfl
  · rfl
@[simp] theorem sustainUp_now (p : Port) (l : Lane) : (sustainUp p l s).now = s.now := by
  unfold sustainUp
  split
  · simp only [modifySustain_now]
    rw [foldl_keep State.now fun s d => unforwardLane_now s d]
    rfl
  · rfl
@[simp] theorem sustainUp_freeTick (p : Port) (l : Lane) : (sustainUp p l s).freeTick = s.freeTick := by
  unfold sustainUp
  split
  · simp only [modifySustain_freeTick]
    rw [foldl_keep State.freeTick fun s d => unforwardLane_freeTick s d]
    rfl
  · rfl
@[simp] theorem sustainUp_settings (p : Port) (l : Lane) : (sustainUp p l s).settings = s.settings := by
  unfold sustainUp
  split
  · simp only [modifySustain_settings]
    rw [foldl_keep State.settings fun s d => unforwardLane_settings s d]
    rfl
  · rfl
@[simp] theorem sustainUp_curves (p : Port) (l : Lane) : (sustainUp p l s).curves = s.curves := by
  unfold sustainUp
  split
  · simp only [modifySustain_curves]
    rw [foldl_keep State.curves fun s d => unforwardLane_curves s d]
    rfl
  · rfl
@[simp] theorem sustainUp_tempo (p : Port) (l : Lane) : (sustainUp p l s).tempo = s.tempo := by
  unfold sustainUp
  split
  · simp only [modifySustain_tempo]
    rw [foldl_keep State.tempo fun s d => unforwardLane_tempo s d]
    rfl
  · rfl
@[simp] theorem sustainUp_change (p : Port) (l : Lane) : (sustainUp p l s).change = s.change := by
  unfold sustainUp
  split
  · simp only [modifySustain_change]
    rw [foldl_keep State.change fun s d => unforwardLane_change s d]
    rfl
  · rfl
@[simp] theorem sustainUp_store (p : Port) (l : Lane) : (sustainUp p l s).store = s.store := by
  unfold sustainUp
  split
  · simp only [modifySustain_store]
    rw [foldl_keep State.store fun s d => unforwardLane_store s d]
    rfl
  · rfl
@[simp] theorem sustainUp_pedals (p : Port) (l : Lane) : (sustainUp p l s).pedals = s.pedals := by
  unfold sustainUp
  split
  · simp only [modifySustain_pedals]
    rw [foldl_keep State.pedals fun s d => unforwardLane_pedals s d]
    rfl
  · rfl
@[simp] theorem sustainUp_service (p : Port) (l : Lane) : (sustainUp p l s).service = s.service := by
  unfold sustainUp
  split
  · simp only [modifySustain_service]
    rw [foldl_keep State.service fun s d => unforwardLane_service s d]
    rfl
  · rfl
@[simp] theorem sustainUp_pending (p : Port) (l : Lane) : (sustainUp p l s).pending = s.pending := by
  unfold sustainUp
  split
  · simp only [modifySustain_pending]
    rw [foldl_keep State.pending fun s d => unforwardLane_pending s d]
    rfl
  · rfl

@[simp] theorem doPanic_power : (doPanic s).power = s.power := by
  unfold doPanic
  rw [foldl_keep State.power fun s (x : Port × Lane) => sustainUp_power s x.1 x.2]
  rfl
@[simp] theorem doPanic_now : (doPanic s).now = s.now := by
  unfold doPanic
  rw [foldl_keep State.now fun s (x : Port × Lane) => sustainUp_now s x.1 x.2]
  rfl
@[simp] theorem doPanic_freeTick : (doPanic s).freeTick = s.freeTick := by
  unfold doPanic
  rw [foldl_keep State.freeTick fun s (x : Port × Lane) => sustainUp_freeTick s x.1 x.2]
  rfl
@[simp] theorem doPanic_settings : (doPanic s).settings = s.settings := by
  unfold doPanic
  rw [foldl_keep State.settings fun s (x : Port × Lane) => sustainUp_settings s x.1 x.2]
  rfl
@[simp] theorem doPanic_curves : (doPanic s).curves = s.curves := by
  unfold doPanic
  rw [foldl_keep State.curves fun s (x : Port × Lane) => sustainUp_curves s x.1 x.2]
  rfl
@[simp] theorem doPanic_tempo : (doPanic s).tempo = s.tempo := by
  unfold doPanic
  rw [foldl_keep State.tempo fun s (x : Port × Lane) => sustainUp_tempo s x.1 x.2]
  rfl
@[simp] theorem doPanic_change : (doPanic s).change = s.change := by
  unfold doPanic
  rw [foldl_keep State.change fun s (x : Port × Lane) => sustainUp_change s x.1 x.2]
  rfl
@[simp] theorem doPanic_store : (doPanic s).store = s.store := by
  unfold doPanic
  rw [foldl_keep State.store fun s (x : Port × Lane) => sustainUp_store s x.1 x.2]
  rfl
@[simp] theorem doPanic_pedals : (doPanic s).pedals = s.pedals := by
  unfold doPanic
  rw [foldl_keep State.pedals fun s (x : Port × Lane) => sustainUp_pedals s x.1 x.2]
  rfl
@[simp] theorem doPanic_service : (doPanic s).service = s.service := by
  unfold doPanic
  rw [foldl_keep State.service fun s (x : Port × Lane) => sustainUp_service s x.1 x.2]
  rfl
@[simp] theorem doPanic_pending : (doPanic s).pending = s.pending := by
  unfold doPanic
  rw [foldl_keep State.pending fun s (x : Port × Lane) => sustainUp_pending s x.1 x.2]
  rfl

@[simp] theorem flushHeld_power (p : Port) : (flushHeld p s).power = s.power := rfl
@[simp] theorem flushHeld_now (p : Port) : (flushHeld p s).now = s.now := rfl
@[simp] theorem flushHeld_freeTick (p : Port) : (flushHeld p s).freeTick = s.freeTick := rfl
@[simp] theorem flushHeld_settings (p : Port) : (flushHeld p s).settings = s.settings := rfl
@[simp] theorem flushHeld_curves (p : Port) : (flushHeld p s).curves = s.curves := rfl
@[simp] theorem flushHeld_link (p : Port) : (flushHeld p s).link = s.link := rfl
@[simp] theorem flushHeld_tempo (p : Port) : (flushHeld p s).tempo = s.tempo := rfl
@[simp] theorem flushHeld_change (p : Port) : (flushHeld p s).change = s.change := rfl
@[simp] theorem flushHeld_store (p : Port) : (flushHeld p s).store = s.store := rfl
@[simp] theorem flushHeld_pedals (p : Port) : (flushHeld p s).pedals = s.pedals := rfl
@[simp] theorem flushHeld_service (p : Port) : (flushHeld p s).service = s.service := rfl
@[simp] theorem flushHeld_status (p : Port) : (flushHeld p s).status = s.status := rfl
@[simp] theorem flushHeld_pending (p : Port) : (flushHeld p s).pending = s.pending := rfl

@[simp] theorem playLayer_power (src : SourceTriple) (v : Nat) (y : Zone × Dest) : (playLayer src v s y).power = s.power := by
  unfold playLayer
  dsimp only
  split <;> simp
@[simp] theorem playLayer_now (src : SourceTriple) (v : Nat) (y : Zone × Dest) : (playLayer src v s y).now = s.now := by
  unfold playLayer
  dsimp only
  split <;> simp
@[simp] theorem playLayer_freeTick (src : SourceTriple) (v : Nat) (y : Zone × Dest) : (playLayer src v s y).freeTick = s.freeTick := by
  unfold playLayer
  dsimp only
  split <;> simp
@[simp] theorem playLayer_settings (src : SourceTriple) (v : Nat) (y : Zone × Dest) : (playLayer src v s y).settings = s.settings := by
  unfold playLayer
  dsimp only
  split <;> simp
@[simp] theorem playLayer_curves (src : SourceTriple) (v : Nat) (y : Zone × Dest) : (playLayer src v s y).curves = s.curves := by
  unfold playLayer
  dsimp only
  split <;> simp
@[simp] theorem playLayer_tempo (src : SourceTriple) (v : Nat) (y : Zone × Dest) : (playLayer src v s y).tempo = s.tempo := by
  unfold playLayer
  dsimp only
  split <;> simp
@[simp] theorem playLayer_change (src : SourceTriple) (v : Nat) (y : Zone × Dest) : (playLayer src v s y).change = s.change := by
  unfold playLayer
  dsimp only
  split <;> simp
@[simp] theorem playLayer_store (src : SourceTriple) (v : Nat) (y : Zone × Dest) : (playLayer src v s y).store = s.store := by
  unfold playLayer
  dsimp only
  split <;> simp
@[simp] theorem playLayer_pedals (src : SourceTriple) (v : Nat) (y : Zone × Dest) : (playLayer src v s y).pedals = s.pedals := by
  unfold playLayer
  dsimp only
  split <;> simp
@[simp] theorem playLayer_service (src : SourceTriple) (v : Nat) (y : Zone × Dest) : (playLayer src v s y).service = s.service := by
  unfold playLayer
  dsimp only
  split <;> simp
@[simp] theorem playLayer_pending (src : SourceTriple) (v : Nat) (y : Zone × Dest) : (playLayer src v s y).pending = s.pending := by
  unfold playLayer
  dsimp only
  split <;> simp

@[simp] theorem zoneStrike_power (p : Port) (l : Lane) (k : Key) (a : StrikeAmount) : (zoneStrike p l k a s).power = s.power :=
  foldl_keep State.power (fun s y => playLayer_power s _ _ y) _ s
@[simp] theorem zoneStrike_now (p : Port) (l : Lane) (k : Key) (a : StrikeAmount) : (zoneStrike p l k a s).now = s.now :=
  foldl_keep State.now (fun s y => playLayer_now s _ _ y) _ s
@[simp] theorem zoneStrike_freeTick (p : Port) (l : Lane) (k : Key) (a : StrikeAmount) : (zoneStrike p l k a s).freeTick = s.freeTick :=
  foldl_keep State.freeTick (fun s y => playLayer_freeTick s _ _ y) _ s
@[simp] theorem zoneStrike_settings (p : Port) (l : Lane) (k : Key) (a : StrikeAmount) : (zoneStrike p l k a s).settings = s.settings :=
  foldl_keep State.settings (fun s y => playLayer_settings s _ _ y) _ s
@[simp] theorem zoneStrike_curves (p : Port) (l : Lane) (k : Key) (a : StrikeAmount) : (zoneStrike p l k a s).curves = s.curves :=
  foldl_keep State.curves (fun s y => playLayer_curves s _ _ y) _ s
@[simp] theorem zoneStrike_tempo (p : Port) (l : Lane) (k : Key) (a : StrikeAmount) : (zoneStrike p l k a s).tempo = s.tempo :=
  foldl_keep State.tempo (fun s y => playLayer_tempo s _ _ y) _ s
@[simp] theorem zoneStrike_change (p : Port) (l : Lane) (k : Key) (a : StrikeAmount) : (zoneStrike p l k a s).change = s.change :=
  foldl_keep State.change (fun s y => playLayer_change s _ _ y) _ s
@[simp] theorem zoneStrike_store (p : Port) (l : Lane) (k : Key) (a : StrikeAmount) : (zoneStrike p l k a s).store = s.store :=
  foldl_keep State.store (fun s y => playLayer_store s _ _ y) _ s
@[simp] theorem zoneStrike_pedals (p : Port) (l : Lane) (k : Key) (a : StrikeAmount) : (zoneStrike p l k a s).pedals = s.pedals :=
  foldl_keep State.pedals (fun s y => playLayer_pedals s _ _ y) _ s
@[simp] theorem zoneStrike_service (p : Port) (l : Lane) (k : Key) (a : StrikeAmount) : (zoneStrike p l k a s).service = s.service :=
  foldl_keep State.service (fun s y => playLayer_service s _ _ y) _ s
@[simp] theorem zoneStrike_pending (p : Port) (l : Lane) (k : Key) (a : StrikeAmount) : (zoneStrike p l k a s).pending = s.pending :=
  foldl_keep State.pending (fun s y => playLayer_pending s _ _ y) _ s

@[simp] theorem zoneRelease_power (p : Port) (l : Lane) (k : Key) (a : ReleaseAmount) : (zoneRelease p l k a s).power = s.power :=
  rfl
@[simp] theorem zoneRelease_now (p : Port) (l : Lane) (k : Key) (a : ReleaseAmount) : (zoneRelease p l k a s).now = s.now :=
  rfl
@[simp] theorem zoneRelease_freeTick (p : Port) (l : Lane) (k : Key) (a : ReleaseAmount) : (zoneRelease p l k a s).freeTick = s.freeTick :=
  rfl
@[simp] theorem zoneRelease_settings (p : Port) (l : Lane) (k : Key) (a : ReleaseAmount) : (zoneRelease p l k a s).settings = s.settings :=
  rfl
@[simp] theorem zoneRelease_curves (p : Port) (l : Lane) (k : Key) (a : ReleaseAmount) : (zoneRelease p l k a s).curves = s.curves :=
  rfl
@[simp] theorem zoneRelease_link (p : Port) (l : Lane) (k : Key) (a : ReleaseAmount) : (zoneRelease p l k a s).link = s.link :=
  rfl
@[simp] theorem zoneRelease_tempo (p : Port) (l : Lane) (k : Key) (a : ReleaseAmount) : (zoneRelease p l k a s).tempo = s.tempo :=
  rfl
@[simp] theorem zoneRelease_change (p : Port) (l : Lane) (k : Key) (a : ReleaseAmount) : (zoneRelease p l k a s).change = s.change :=
  rfl
@[simp] theorem zoneRelease_store (p : Port) (l : Lane) (k : Key) (a : ReleaseAmount) : (zoneRelease p l k a s).store = s.store :=
  rfl
@[simp] theorem zoneRelease_pedals (p : Port) (l : Lane) (k : Key) (a : ReleaseAmount) : (zoneRelease p l k a s).pedals = s.pedals :=
  rfl
@[simp] theorem zoneRelease_service (p : Port) (l : Lane) (k : Key) (a : ReleaseAmount) : (zoneRelease p l k a s).service = s.service :=
  rfl
@[simp] theorem zoneRelease_status (p : Port) (l : Lane) (k : Key) (a : ReleaseAmount) : (zoneRelease p l k a s).status = s.status :=
  rfl
@[simp] theorem zoneRelease_pending (p : Port) (l : Lane) (k : Key) (a : ReleaseAmount) : (zoneRelease p l k a s).pending = s.pending :=
  rfl

@[simp] theorem playControl_power (n : Byte) (v : Half) (d : DestLane) : (playControl n v s d).power = s.power := by
  unfold playControl
  split <;> simp
@[simp] theorem playControl_now (n : Byte) (v : Half) (d : DestLane) : (playControl n v s d).now = s.now := by
  unfold playControl
  split <;> simp
@[simp] theorem playControl_freeTick (n : Byte) (v : Half) (d : DestLane) : (playControl n v s d).freeTick = s.freeTick := by
  unfold playControl
  split <;> simp
@[simp] theorem playControl_settings (n : Byte) (v : Half) (d : DestLane) : (playControl n v s d).settings = s.settings := by
  unfold playControl
  split <;> simp
@[simp] theorem playControl_curves (n : Byte) (v : Half) (d : DestLane) : (playControl n v s d).curves = s.curves := by
  unfold playControl
  split <;> simp
@[simp] theorem playControl_held (n : Byte) (v : Half) (d : DestLane) : (playControl n v s d).held = s.held := by
  unfold playControl
  split <;> simp
@[simp] theorem playControl_tempo (n : Byte) (v : Half) (d : DestLane) : (playControl n v s d).tempo = s.tempo := by
  unfold playControl
  split <;> simp
@[simp] theorem playControl_change (n : Byte) (v : Half) (d : DestLane) : (playControl n v s d).change = s.change := by
  unfold playControl
  split <;> simp
@[simp] theorem playControl_store (n : Byte) (v : Half) (d : DestLane) : (playControl n v s d).store = s.store := by
  unfold playControl
  split <;> simp
@[simp] theorem playControl_pedals (n : Byte) (v : Half) (d : DestLane) : (playControl n v s d).pedals = s.pedals := by
  unfold playControl
  split <;> simp
@[simp] theorem playControl_service (n : Byte) (v : Half) (d : DestLane) : (playControl n v s d).service = s.service := by
  unfold playControl
  split <;> simp
@[simp] theorem playControl_pending (n : Byte) (v : Half) (d : DestLane) : (playControl n v s d).pending = s.pending := by
  unfold playControl
  split <;> simp

@[simp] theorem zoneControl_power (p : Port) (l : Lane) (n : Byte) (v : Half) : (zoneControl p l n v s).power = s.power :=
  foldl_keep State.power (fun s d => playControl_power s _ _ d) _ s
@[simp] theorem zoneControl_now (p : Port) (l : Lane) (n : Byte) (v : Half) : (zoneControl p l n v s).now = s.now :=
  foldl_keep State.now (fun s d => playControl_now s _ _ d) _ s
@[simp] theorem zoneControl_freeTick (p : Port) (l : Lane) (n : Byte) (v : Half) : (zoneControl p l n v s).freeTick = s.freeTick :=
  foldl_keep State.freeTick (fun s d => playControl_freeTick s _ _ d) _ s
@[simp] theorem zoneControl_settings (p : Port) (l : Lane) (n : Byte) (v : Half) : (zoneControl p l n v s).settings = s.settings :=
  foldl_keep State.settings (fun s d => playControl_settings s _ _ d) _ s
@[simp] theorem zoneControl_curves (p : Port) (l : Lane) (n : Byte) (v : Half) : (zoneControl p l n v s).curves = s.curves :=
  foldl_keep State.curves (fun s d => playControl_curves s _ _ d) _ s
@[simp] theorem zoneControl_held (p : Port) (l : Lane) (n : Byte) (v : Half) : (zoneControl p l n v s).held = s.held :=
  foldl_keep State.held (fun s d => playControl_held s _ _ d) _ s
@[simp] theorem zoneControl_tempo (p : Port) (l : Lane) (n : Byte) (v : Half) : (zoneControl p l n v s).tempo = s.tempo :=
  foldl_keep State.tempo (fun s d => playControl_tempo s _ _ d) _ s
@[simp] theorem zoneControl_change (p : Port) (l : Lane) (n : Byte) (v : Half) : (zoneControl p l n v s).change = s.change :=
  foldl_keep State.change (fun s d => playControl_change s _ _ d) _ s
@[simp] theorem zoneControl_store (p : Port) (l : Lane) (n : Byte) (v : Half) : (zoneControl p l n v s).store = s.store :=
  foldl_keep State.store (fun s d => playControl_store s _ _ d) _ s
@[simp] theorem zoneControl_pedals (p : Port) (l : Lane) (n : Byte) (v : Half) : (zoneControl p l n v s).pedals = s.pedals :=
  foldl_keep State.pedals (fun s d => playControl_pedals s _ _ d) _ s
@[simp] theorem zoneControl_service (p : Port) (l : Lane) (n : Byte) (v : Half) : (zoneControl p l n v s).service = s.service :=
  foldl_keep State.service (fun s d => playControl_service s _ _ d) _ s
@[simp] theorem zoneControl_pending (p : Port) (l : Lane) (n : Byte) (v : Half) : (zoneControl p l n v s).pending = s.pending :=
  foldl_keep State.pending (fun s d => playControl_pending s _ _ d) _ s

@[simp] theorem zoneSustain_power (p : Port) (l : Lane) (v : Half) : (zoneSustain p l v s).power = s.power := by
  unfold zoneSustain
  split <;> simp
@[simp] theorem zoneSustain_now (p : Port) (l : Lane) (v : Half) : (zoneSustain p l v s).now = s.now := by
  unfold zoneSustain
  split <;> simp
@[simp] theorem zoneSustain_freeTick (p : Port) (l : Lane) (v : Half) : (zoneSustain p l v s).freeTick = s.freeTick := by
  unfold zoneSustain
  split <;> simp
@[simp] theorem zoneSustain_settings (p : Port) (l : Lane) (v : Half) : (zoneSustain p l v s).settings = s.settings := by
  unfold zoneSustain
  split <;> simp
@[simp] theorem zoneSustain_curves (p : Port) (l : Lane) (v : Half) : (zoneSustain p l v s).curves = s.curves := by
  unfold zoneSustain
  split <;> simp
@[simp] theorem zoneSustain_tempo (p : Port) (l : Lane) (v : Half) : (zoneSustain p l v s).tempo = s.tempo := by
  unfold zoneSustain
  split <;> simp
@[simp] theorem zoneSustain_change (p : Port) (l : Lane) (v : Half) : (zoneSustain p l v s).change = s.change := by
  unfold zoneSustain
  split <;> simp
@[simp] theorem zoneSustain_store (p : Port) (l : Lane) (v : Half) : (zoneSustain p l v s).store = s.store := by
  unfold zoneSustain
  split <;> simp
@[simp] theorem zoneSustain_pedals (p : Port) (l : Lane) (v : Half) : (zoneSustain p l v s).pedals = s.pedals := by
  unfold zoneSustain
  split <;> simp
@[simp] theorem zoneSustain_service (p : Port) (l : Lane) (v : Half) : (zoneSustain p l v s).service = s.service := by
  unfold zoneSustain
  split <;> simp
@[simp] theorem zoneSustain_pending (p : Port) (l : Lane) (v : Half) : (zoneSustain p l v s).pending = s.pending := by
  unfold zoneSustain
  split <;> simp

@[simp] theorem modifyTempo_power (g : Tempo → Tempo) : (modifyTempo g s).power = s.power := rfl
@[simp] theorem modifyTempo_now (g : Tempo → Tempo) : (modifyTempo g s).now = s.now := rfl
@[simp] theorem modifyTempo_freeTick (g : Tempo → Tempo) : (modifyTempo g s).freeTick = s.freeTick := rfl
@[simp] theorem modifyTempo_settings (g : Tempo → Tempo) : (modifyTempo g s).settings = s.settings := rfl
@[simp] theorem modifyTempo_curves (g : Tempo → Tempo) : (modifyTempo g s).curves = s.curves := rfl
@[simp] theorem modifyTempo_link (g : Tempo → Tempo) : (modifyTempo g s).link = s.link := rfl
@[simp] theorem modifyTempo_held (g : Tempo → Tempo) : (modifyTempo g s).held = s.held := rfl
@[simp] theorem modifyTempo_change (g : Tempo → Tempo) : (modifyTempo g s).change = s.change := rfl
@[simp] theorem modifyTempo_store (g : Tempo → Tempo) : (modifyTempo g s).store = s.store := rfl
@[simp] theorem modifyTempo_pedals (g : Tempo → Tempo) : (modifyTempo g s).pedals = s.pedals := rfl
@[simp] theorem modifyTempo_service (g : Tempo → Tempo) : (modifyTempo g s).service = s.service := rfl
@[simp] theorem modifyTempo_status (g : Tempo → Tempo) : (modifyTempo g s).status = s.status := rfl
@[simp] theorem modifyTempo_pending (g : Tempo → Tempo) : (modifyTempo g s).pending = s.pending := rfl

@[simp] theorem modifyChange_power (g : Change → Change) : (modifyChange g s).power = s.power := rfl
@[simp] theorem modifyChange_now (g : Change → Change) : (modifyChange g s).now = s.now := rfl
@[simp] theorem modifyChange_freeTick (g : Change → Change) : (modifyChange g s).freeTick = s.freeTick := rfl
@[simp] theorem modifyChange_settings (g : Change → Change) : (modifyChange g s).settings = s.settings := rfl
@[simp] theorem modifyChange_curves (g : Change → Change) : (modifyChange g s).curves = s.curves := rfl
@[simp] theorem modifyChange_link (g : Change → Change) : (modifyChange g s).link = s.link := rfl
@[simp] theorem modifyChange_held (g : Change → Change) : (modifyChange g s).held = s.held := rfl
@[simp] theorem modifyChange_tempo (g : Change → Change) : (modifyChange g s).tempo = s.tempo := rfl
@[simp] theorem modifyChange_store (g : Change → Change) : (modifyChange g s).store = s.store := rfl
@[simp] theorem modifyChange_pedals (g : Change → Change) : (modifyChange g s).pedals = s.pedals := rfl
@[simp] theorem modifyChange_service (g : Change → Change) : (modifyChange g s).service = s.service := rfl
@[simp] theorem modifyChange_status (g : Change → Change) : (modifyChange g s).status = s.status := rfl
@[simp] theorem modifyChange_pending (g : Change → Change) : (modifyChange g s).pending = s.pending := rfl

@[simp] theorem modifyStore_power (g : Store → Store) : (modifyStore g s).power = s.power := rfl
@[simp] theorem modifyStore_now (g : Store → Store) : (modifyStore g s).now = s.now := rfl
@[simp] theorem modifyStore_freeTick (g : Store → Store) : (modifyStore g s).freeTick = s.freeTick := rfl
@[simp] theorem modifyStore_settings (g : Store → Store) : (modifyStore g s).settings = s.settings := rfl
@[simp] theorem modifyStore_curves (g : Store → Store) : (modifyStore g s).curves = s.curves := rfl
@[simp] theorem modifyStore_link (g : Store → Store) : (modifyStore g s).link = s.link := rfl
@[simp] theorem modifyStore_held (g : Store → Store) : (modifyStore g s).held = s.held := rfl
@[simp] theorem modifyStore_tempo (g : Store → Store) : (modifyStore g s).tempo = s.tempo := rfl
@[simp] theorem modifyStore_change (g : Store → Store) : (modifyStore g s).change = s.change := rfl
@[simp] theorem modifyStore_pedals (g : Store → Store) : (modifyStore g s).pedals = s.pedals := rfl
@[simp] theorem modifyStore_service (g : Store → Store) : (modifyStore g s).service = s.service := rfl
@[simp] theorem modifyStore_status (g : Store → Store) : (modifyStore g s).status = s.status := rfl
@[simp] theorem modifyStore_pending (g : Store → Store) : (modifyStore g s).pending = s.pending := rfl

@[simp] theorem modifyService_power (g : Service → Service) : (modifyService g s).power = s.power := rfl
@[simp] theorem modifyService_now (g : Service → Service) : (modifyService g s).now = s.now := rfl
@[simp] theorem modifyService_freeTick (g : Service → Service) : (modifyService g s).freeTick = s.freeTick := rfl
@[simp] theorem modifyService_settings (g : Service → Service) : (modifyService g s).settings = s.settings := rfl
@[simp] theorem modifyService_curves (g : Service → Service) : (modifyService g s).curves = s.curves := rfl
@[simp] theorem modifyService_link (g : Service → Service) : (modifyService g s).link = s.link := rfl
@[simp] theorem modifyService_held (g : Service → Service) : (modifyService g s).held = s.held := rfl
@[simp] theorem modifyService_tempo (g : Service → Service) : (modifyService g s).tempo = s.tempo := rfl
@[simp] theorem modifyService_change (g : Service → Service) : (modifyService g s).change = s.change := rfl
@[simp] theorem modifyService_store (g : Service → Service) : (modifyService g s).store = s.store := rfl
@[simp] theorem modifyService_pedals (g : Service → Service) : (modifyService g s).pedals = s.pedals := rfl
@[simp] theorem modifyService_status (g : Service → Service) : (modifyService g s).status = s.status := rfl
@[simp] theorem modifyService_pending (g : Service → Service) : (modifyService g s).pending = s.pending := rfl

@[simp] theorem modifySettings_power (g : Settings → Settings) : (modifySettings g s).power = s.power := rfl
@[simp] theorem modifySettings_now (g : Settings → Settings) : (modifySettings g s).now = s.now := rfl
@[simp] theorem modifySettings_freeTick (g : Settings → Settings) : (modifySettings g s).freeTick = s.freeTick := rfl
@[simp] theorem modifySettings_curves (g : Settings → Settings) : (modifySettings g s).curves = s.curves := rfl
@[simp] theorem modifySettings_link (g : Settings → Settings) : (modifySettings g s).link = s.link := rfl
@[simp] theorem modifySettings_held (g : Settings → Settings) : (modifySettings g s).held = s.held := rfl
@[simp] theorem modifySettings_tempo (g : Settings → Settings) : (modifySettings g s).tempo = s.tempo := rfl
@[simp] theorem modifySettings_change (g : Settings → Settings) : (modifySettings g s).change = s.change := rfl
@[simp] theorem modifySettings_store (g : Settings → Settings) : (modifySettings g s).store = s.store := rfl
@[simp] theorem modifySettings_pedals (g : Settings → Settings) : (modifySettings g s).pedals = s.pedals := rfl
@[simp] theorem modifySettings_service (g : Settings → Settings) : (modifySettings g s).service = s.service := rfl
@[simp] theorem modifySettings_status (g : Settings → Settings) : (modifySettings g s).status = s.status := rfl
@[simp] theorem modifySettings_pending (g : Settings → Settings) : (modifySettings g s).pending = s.pending := rfl

@[simp] theorem modifyContact_power (i : Pedal) (g : Debouncer → Debouncer) : (modifyContact i g s).power = s.power :=
  rfl
@[simp] theorem modifyContact_now (i : Pedal) (g : Debouncer → Debouncer) : (modifyContact i g s).now = s.now := rfl
@[simp] theorem modifyContact_freeTick (i : Pedal) (g : Debouncer → Debouncer) : (modifyContact i g s).freeTick = s.freeTick :=
  rfl
@[simp] theorem modifyContact_settings (i : Pedal) (g : Debouncer → Debouncer) : (modifyContact i g s).settings = s.settings :=
  rfl
@[simp] theorem modifyContact_curves (i : Pedal) (g : Debouncer → Debouncer) : (modifyContact i g s).curves = s.curves :=
  rfl
@[simp] theorem modifyContact_link (i : Pedal) (g : Debouncer → Debouncer) : (modifyContact i g s).link = s.link := rfl
@[simp] theorem modifyContact_held (i : Pedal) (g : Debouncer → Debouncer) : (modifyContact i g s).held = s.held := rfl
@[simp] theorem modifyContact_tempo (i : Pedal) (g : Debouncer → Debouncer) : (modifyContact i g s).tempo = s.tempo :=
  rfl
@[simp] theorem modifyContact_change (i : Pedal) (g : Debouncer → Debouncer) : (modifyContact i g s).change = s.change :=
  rfl
@[simp] theorem modifyContact_store (i : Pedal) (g : Debouncer → Debouncer) : (modifyContact i g s).store = s.store :=
  rfl
@[simp] theorem modifyContact_service (i : Pedal) (g : Debouncer → Debouncer) : (modifyContact i g s).service = s.service :=
  rfl
@[simp] theorem modifyContact_status (i : Pedal) (g : Debouncer → Debouncer) : (modifyContact i g s).status = s.status :=
  rfl
@[simp] theorem modifyContact_pending (i : Pedal) (g : Debouncer → Debouncer) : (modifyContact i g s).pending = s.pending :=
  rfl

@[simp] theorem advanceTo_power (m : Nat) : (advanceTo m s).power = s.power := rfl
@[simp] theorem advanceTo_freeTick (m : Nat) : (advanceTo m s).freeTick = s.freeTick := rfl
@[simp] theorem advanceTo_settings (m : Nat) : (advanceTo m s).settings = s.settings := rfl
@[simp] theorem advanceTo_curves (m : Nat) : (advanceTo m s).curves = s.curves := rfl
@[simp] theorem advanceTo_link (m : Nat) : (advanceTo m s).link = s.link := rfl
@[simp] theorem advanceTo_held (m : Nat) : (advanceTo m s).held = s.held := rfl
@[simp] theorem advanceTo_tempo (m : Nat) : (advanceTo m s).tempo = s.tempo := rfl
@[simp] theorem advanceTo_change (m : Nat) : (advanceTo m s).change = s.change := rfl
@[simp] theorem advanceTo_store (m : Nat) : (advanceTo m s).store = s.store := rfl
@[simp] theorem advanceTo_pedals (m : Nat) : (advanceTo m s).pedals = s.pedals := rfl
@[simp] theorem advanceTo_service (m : Nat) : (advanceTo m s).service = s.service := rfl
@[simp] theorem advanceTo_status (m : Nat) : (advanceTo m s).status = s.status := rfl
@[simp] theorem advanceTo_pending (m : Nat) : (advanceTo m s).pending = s.pending := rfl

@[simp] theorem loadSongSlots_power (r : List TempoRaw) : (loadSongSlots r s).power = s.power := rfl
@[simp] theorem loadSongSlots_now (r : List TempoRaw) : (loadSongSlots r s).now = s.now := rfl
@[simp] theorem loadSongSlots_freeTick (r : List TempoRaw) : (loadSongSlots r s).freeTick = s.freeTick := rfl
@[simp] theorem loadSongSlots_settings (r : List TempoRaw) : (loadSongSlots r s).settings = s.settings := rfl
@[simp] theorem loadSongSlots_curves (r : List TempoRaw) : (loadSongSlots r s).curves = s.curves := rfl
@[simp] theorem loadSongSlots_link (r : List TempoRaw) : (loadSongSlots r s).link = s.link := rfl
@[simp] theorem loadSongSlots_held (r : List TempoRaw) : (loadSongSlots r s).held = s.held := rfl
@[simp] theorem loadSongSlots_change (r : List TempoRaw) : (loadSongSlots r s).change = s.change := rfl
@[simp] theorem loadSongSlots_store (r : List TempoRaw) : (loadSongSlots r s).store = s.store := rfl
@[simp] theorem loadSongSlots_pedals (r : List TempoRaw) : (loadSongSlots r s).pedals = s.pedals := rfl
@[simp] theorem loadSongSlots_service (r : List TempoRaw) : (loadSongSlots r s).service = s.service := rfl
@[simp] theorem loadSongSlots_pending (r : List TempoRaw) : (loadSongSlots r s).pending = s.pending := rfl

@[simp] theorem samplePedals_power : (samplePedals s).power = s.power := by
  unfold samplePedals
  repeat' split
  all_goals rfl
@[simp] theorem samplePedals_now : (samplePedals s).now = s.now := by
  unfold samplePedals
  repeat' split
  all_goals rfl
@[simp] theorem samplePedals_freeTick : (samplePedals s).freeTick = s.freeTick := by
  unfold samplePedals
  repeat' split
  all_goals rfl
@[simp] theorem samplePedals_settings : (samplePedals s).settings = s.settings := by
  unfold samplePedals
  repeat' split
  all_goals rfl
@[simp] theorem samplePedals_curves : (samplePedals s).curves = s.curves := by
  unfold samplePedals
  repeat' split
  all_goals rfl
@[simp] theorem samplePedals_link : (samplePedals s).link = s.link := by
  unfold samplePedals
  repeat' split
  all_goals rfl
@[simp] theorem samplePedals_held : (samplePedals s).held = s.held := by
  unfold samplePedals
  repeat' split
  all_goals rfl
@[simp] theorem samplePedals_change : (samplePedals s).change = s.change := by
  unfold samplePedals
  repeat' split
  all_goals rfl
@[simp] theorem samplePedals_store : (samplePedals s).store = s.store := by
  unfold samplePedals
  repeat' split
  all_goals rfl
@[simp] theorem samplePedals_pedals : (samplePedals s).pedals = s.pedals := by
  unfold samplePedals
  repeat' split
  all_goals rfl
@[simp] theorem samplePedals_service : (samplePedals s).service = s.service := by
  unfold samplePedals
  repeat' split
  all_goals rfl
@[simp] theorem samplePedals_status : (samplePedals s).status = s.status := by
  unfold samplePedals
  repeat' split
  all_goals rfl
@[simp] theorem samplePedals_pending : (samplePedals s).pending = s.pending := by
  unfold samplePedals
  repeat' split
  all_goals rfl

@[simp] theorem offerTransport_power (a : Byte) (x y : Nat) : (offerTransport a x y s).power = s.power :=
  offerTickOut_power _ _
@[simp] theorem offerTransport_now (a : Byte) (x y : Nat) : (offerTransport a x y s).now = s.now := offerTickOut_now _ _
@[simp] theorem offerTransport_freeTick (a : Byte) (x y : Nat) : (offerTransport a x y s).freeTick = s.freeTick :=
  offerTickOut_freeTick _ _
@[simp] theorem offerTransport_settings (a : Byte) (x y : Nat) : (offerTransport a x y s).settings = s.settings :=
  offerTickOut_settings _ _
@[simp] theorem offerTransport_curves (a : Byte) (x y : Nat) : (offerTransport a x y s).curves = s.curves :=
  offerTickOut_curves _ _
@[simp] theorem offerTransport_held (a : Byte) (x y : Nat) : (offerTransport a x y s).held = s.held :=
  offerTickOut_held _ _
@[simp] theorem offerTransport_tempo (a : Byte) (x y : Nat) : (offerTransport a x y s).tempo = s.tempo :=
  offerTickOut_tempo _ _
@[simp] theorem offerTransport_change (a : Byte) (x y : Nat) : (offerTransport a x y s).change = s.change :=
  offerTickOut_change _ _
@[simp] theorem offerTransport_store (a : Byte) (x y : Nat) : (offerTransport a x y s).store = s.store :=
  offerTickOut_store _ _
@[simp] theorem offerTransport_pedals (a : Byte) (x y : Nat) : (offerTransport a x y s).pedals = s.pedals :=
  offerTickOut_pedals _ _
@[simp] theorem offerTransport_service (a : Byte) (x y : Nat) : (offerTransport a x y s).service = s.service :=
  offerTickOut_service _ _
@[simp] theorem offerTransport_pending (a : Byte) (x y : Nat) : (offerTransport a x y s).pending = s.pending :=
  offerTickOut_pending _ _

@[simp] theorem modifyFeed_power (i : Port) (g : FeedState → FeedState) : (modifyFeed i g s).power = s.power := rfl
@[simp] theorem modifyFeed_now (i : Port) (g : FeedState → FeedState) : (modifyFeed i g s).now = s.now := rfl
@[simp] theorem modifyFeed_freeTick (i : Port) (g : FeedState → FeedState) : (modifyFeed i g s).freeTick = s.freeTick :=
  rfl
@[simp] theorem modifyFeed_settings (i : Port) (g : FeedState → FeedState) : (modifyFeed i g s).settings = s.settings :=
  rfl
@[simp] theorem modifyFeed_curves (i : Port) (g : FeedState → FeedState) : (modifyFeed i g s).curves = s.curves := rfl
@[simp] theorem modifyFeed_link (i : Port) (g : FeedState → FeedState) : (modifyFeed i g s).link = s.link := rfl
@[simp] theorem modifyFeed_held (i : Port) (g : FeedState → FeedState) : (modifyFeed i g s).held = s.held := rfl
@[simp] theorem modifyFeed_change (i : Port) (g : FeedState → FeedState) : (modifyFeed i g s).change = s.change := rfl
@[simp] theorem modifyFeed_store (i : Port) (g : FeedState → FeedState) : (modifyFeed i g s).store = s.store := rfl
@[simp] theorem modifyFeed_pedals (i : Port) (g : FeedState → FeedState) : (modifyFeed i g s).pedals = s.pedals := rfl
@[simp] theorem modifyFeed_service (i : Port) (g : FeedState → FeedState) : (modifyFeed i g s).service = s.service :=
  rfl
@[simp] theorem modifyFeed_status (i : Port) (g : FeedState → FeedState) : (modifyFeed i g s).status = s.status := rfl
@[simp] theorem modifyFeed_pending (i : Port) (g : FeedState → FeedState) : (modifyFeed i g s).pending = s.pending :=
  rfl

@[simp] theorem offerClick_power (i : Port) (c : ClickPoint) : (offerClick i c s).power = s.power :=
  offerTiming_power _ _ _
@[simp] theorem offerClick_now (i : Port) (c : ClickPoint) : (offerClick i c s).now = s.now := offerTiming_now _ _ _
@[simp] theorem offerClick_freeTick (i : Port) (c : ClickPoint) : (offerClick i c s).freeTick = s.freeTick :=
  offerTiming_freeTick _ _ _
@[simp] theorem offerClick_settings (i : Port) (c : ClickPoint) : (offerClick i c s).settings = s.settings :=
  offerTiming_settings _ _ _
@[simp] theorem offerClick_curves (i : Port) (c : ClickPoint) : (offerClick i c s).curves = s.curves :=
  offerTiming_curves _ _ _
@[simp] theorem offerClick_held (i : Port) (c : ClickPoint) : (offerClick i c s).held = s.held := offerTiming_held _ _ _
@[simp] theorem offerClick_tempo (i : Port) (c : ClickPoint) : (offerClick i c s).tempo = s.tempo :=
  offerTiming_tempo _ _ _
@[simp] theorem offerClick_change (i : Port) (c : ClickPoint) : (offerClick i c s).change = s.change :=
  offerTiming_change _ _ _
@[simp] theorem offerClick_store (i : Port) (c : ClickPoint) : (offerClick i c s).store = s.store :=
  offerTiming_store _ _ _
@[simp] theorem offerClick_pedals (i : Port) (c : ClickPoint) : (offerClick i c s).pedals = s.pedals :=
  offerTiming_pedals _ _ _
@[simp] theorem offerClick_service (i : Port) (c : ClickPoint) : (offerClick i c s).service = s.service :=
  offerTiming_service _ _ _
@[simp] theorem offerClick_pending (i : Port) (c : ClickPoint) : (offerClick i c s).pending = s.pending :=
  offerTiming_pending _ _ _

@[simp] theorem decideClick_power (i : Port) : (decideClick s i).power = s.power := by
  unfold decideClick
  dsimp only
  repeat' split
  all_goals simp
@[simp] theorem decideClick_now (i : Port) : (decideClick s i).now = s.now := by
  unfold decideClick
  dsimp only
  repeat' split
  all_goals simp
@[simp] theorem decideClick_freeTick (i : Port) : (decideClick s i).freeTick = s.freeTick := by
  unfold decideClick
  dsimp only
  repeat' split
  all_goals simp
@[simp] theorem decideClick_settings (i : Port) : (decideClick s i).settings = s.settings := by
  unfold decideClick
  dsimp only
  repeat' split
  all_goals simp
@[simp] theorem decideClick_curves (i : Port) : (decideClick s i).curves = s.curves := by
  unfold decideClick
  dsimp only
  repeat' split
  all_goals simp
@[simp] theorem decideClick_held (i : Port) : (decideClick s i).held = s.held := by
  unfold decideClick
  dsimp only
  repeat' split
  all_goals simp
@[simp] theorem decideClick_change (i : Port) : (decideClick s i).change = s.change := by
  unfold decideClick
  dsimp only
  repeat' split
  all_goals simp
@[simp] theorem decideClick_store (i : Port) : (decideClick s i).store = s.store := by
  unfold decideClick
  dsimp only
  repeat' split
  all_goals simp
@[simp] theorem decideClick_pedals (i : Port) : (decideClick s i).pedals = s.pedals := by
  unfold decideClick
  dsimp only
  repeat' split
  all_goals simp
@[simp] theorem decideClick_service (i : Port) : (decideClick s i).service = s.service := by
  unfold decideClick
  dsimp only
  repeat' split
  all_goals simp
@[simp] theorem decideClick_pending (i : Port) : (decideClick s i).pending = s.pending := by
  unfold decideClick
  dsimp only
  repeat' split
  all_goals simp

@[simp] theorem decideClicks_power : (decideClicks s).power = s.power :=
  foldl_keep State.power (fun s i => decideClick_power s i) _ s
@[simp] theorem decideClicks_now : (decideClicks s).now = s.now :=
  foldl_keep State.now (fun s i => decideClick_now s i) _ s
@[simp] theorem decideClicks_freeTick : (decideClicks s).freeTick = s.freeTick :=
  foldl_keep State.freeTick (fun s i => decideClick_freeTick s i) _ s
@[simp] theorem decideClicks_settings : (decideClicks s).settings = s.settings :=
  foldl_keep State.settings (fun s i => decideClick_settings s i) _ s
@[simp] theorem decideClicks_curves : (decideClicks s).curves = s.curves :=
  foldl_keep State.curves (fun s i => decideClick_curves s i) _ s
@[simp] theorem decideClicks_held : (decideClicks s).held = s.held :=
  foldl_keep State.held (fun s i => decideClick_held s i) _ s
@[simp] theorem decideClicks_change : (decideClicks s).change = s.change :=
  foldl_keep State.change (fun s i => decideClick_change s i) _ s
@[simp] theorem decideClicks_store : (decideClicks s).store = s.store :=
  foldl_keep State.store (fun s i => decideClick_store s i) _ s
@[simp] theorem decideClicks_pedals : (decideClicks s).pedals = s.pedals :=
  foldl_keep State.pedals (fun s i => decideClick_pedals s i) _ s
@[simp] theorem decideClicks_service : (decideClicks s).service = s.service :=
  foldl_keep State.service (fun s i => decideClick_service s i) _ s
@[simp] theorem decideClicks_pending : (decideClicks s).pending = s.pending :=
  foldl_keep State.pending (fun s i => decideClick_pending s i) _ s

@[simp] theorem placeBeatClick_power (i : Port) : (placeBeatClick s i).power = s.power := by
  unfold placeBeatClick
  split
  · simp
  · rfl
@[simp] theorem placeBeatClick_now (i : Port) : (placeBeatClick s i).now = s.now := by
  unfold placeBeatClick
  split
  · simp
  · rfl
@[simp] theorem placeBeatClick_freeTick (i : Port) : (placeBeatClick s i).freeTick = s.freeTick := by
  unfold placeBeatClick
  split
  · simp
  · rfl
@[simp] theorem placeBeatClick_settings (i : Port) : (placeBeatClick s i).settings = s.settings := by
  unfold placeBeatClick
  split
  · simp
  · rfl
@[simp] theorem placeBeatClick_curves (i : Port) : (placeBeatClick s i).curves = s.curves := by
  unfold placeBeatClick
  split
  · simp
  · rfl
@[simp] theorem placeBeatClick_held (i : Port) : (placeBeatClick s i).held = s.held := by
  unfold placeBeatClick
  split
  · simp
  · rfl
@[simp] theorem placeBeatClick_change (i : Port) : (placeBeatClick s i).change = s.change := by
  unfold placeBeatClick
  split
  · simp
  · rfl
@[simp] theorem placeBeatClick_store (i : Port) : (placeBeatClick s i).store = s.store := by
  unfold placeBeatClick
  split
  · simp
  · rfl
@[simp] theorem placeBeatClick_pedals (i : Port) : (placeBeatClick s i).pedals = s.pedals := by
  unfold placeBeatClick
  split
  · simp
  · rfl
@[simp] theorem placeBeatClick_service (i : Port) : (placeBeatClick s i).service = s.service := by
  unfold placeBeatClick
  split
  · simp
  · rfl
@[simp] theorem placeBeatClick_pending (i : Port) : (placeBeatClick s i).pending = s.pending := by
  unfold placeBeatClick
  split
  · simp
  · rfl

@[simp] theorem placeBeatClicks_power : (placeBeatClicks s).power = s.power :=
  foldl_keep State.power (fun s i => placeBeatClick_power s i) _ s
@[simp] theorem placeBeatClicks_now : (placeBeatClicks s).now = s.now :=
  foldl_keep State.now (fun s i => placeBeatClick_now s i) _ s
@[simp] theorem placeBeatClicks_freeTick : (placeBeatClicks s).freeTick = s.freeTick :=
  foldl_keep State.freeTick (fun s i => placeBeatClick_freeTick s i) _ s
@[simp] theorem placeBeatClicks_settings : (placeBeatClicks s).settings = s.settings :=
  foldl_keep State.settings (fun s i => placeBeatClick_settings s i) _ s
@[simp] theorem placeBeatClicks_curves : (placeBeatClicks s).curves = s.curves :=
  foldl_keep State.curves (fun s i => placeBeatClick_curves s i) _ s
@[simp] theorem placeBeatClicks_held : (placeBeatClicks s).held = s.held :=
  foldl_keep State.held (fun s i => placeBeatClick_held s i) _ s
@[simp] theorem placeBeatClicks_change : (placeBeatClicks s).change = s.change :=
  foldl_keep State.change (fun s i => placeBeatClick_change s i) _ s
@[simp] theorem placeBeatClicks_store : (placeBeatClicks s).store = s.store :=
  foldl_keep State.store (fun s i => placeBeatClick_store s i) _ s
@[simp] theorem placeBeatClicks_pedals : (placeBeatClicks s).pedals = s.pedals :=
  foldl_keep State.pedals (fun s i => placeBeatClick_pedals s i) _ s
@[simp] theorem placeBeatClicks_service : (placeBeatClicks s).service = s.service :=
  foldl_keep State.service (fun s i => placeBeatClick_service s i) _ s
@[simp] theorem placeBeatClicks_pending : (placeBeatClicks s).pending = s.pending :=
  foldl_keep State.pending (fun s i => placeBeatClick_pending s i) _ s

@[simp] theorem offerTick_power : (offerTick s).power = s.power := by
  unfold offerTick
  split
  · simp
  · rfl
@[simp] theorem offerTick_now : (offerTick s).now = s.now := by
  unfold offerTick
  split
  · simp
  · rfl
@[simp] theorem offerTick_freeTick : (offerTick s).freeTick = s.freeTick := by
  unfold offerTick
  split
  · simp
  · rfl
@[simp] theorem offerTick_settings : (offerTick s).settings = s.settings := by
  unfold offerTick
  split
  · simp
  · rfl
@[simp] theorem offerTick_curves : (offerTick s).curves = s.curves := by
  unfold offerTick
  split
  · simp
  · rfl
@[simp] theorem offerTick_held : (offerTick s).held = s.held := by
  unfold offerTick
  split
  · simp
  · rfl
@[simp] theorem offerTick_tempo : (offerTick s).tempo = s.tempo := by
  unfold offerTick
  split
  · simp
  · rfl
@[simp] theorem offerTick_change : (offerTick s).change = s.change := by
  unfold offerTick
  split
  · simp
  · rfl
@[simp] theorem offerTick_store : (offerTick s).store = s.store := by
  unfold offerTick
  split
  · simp
  · rfl
@[simp] theorem offerTick_pedals : (offerTick s).pedals = s.pedals := by
  unfold offerTick
  split
  · simp
  · rfl
@[simp] theorem offerTick_service : (offerTick s).service = s.service := by
  unfold offerTick
  split
  · simp
  · rfl
@[simp] theorem offerTick_pending : (offerTick s).pending = s.pending := by
  unfold offerTick
  split
  · simp
  · rfl

@[simp] theorem beginFirstBeat_power : (beginFirstBeat s).power = s.power := by simp [beginFirstBeat]
@[simp] theorem beginFirstBeat_now : (beginFirstBeat s).now = s.now := by simp [beginFirstBeat]
@[simp] theorem beginFirstBeat_freeTick : (beginFirstBeat s).freeTick = s.freeTick := by simp [beginFirstBeat]
@[simp] theorem beginFirstBeat_settings : (beginFirstBeat s).settings = s.settings := by simp [beginFirstBeat]
@[simp] theorem beginFirstBeat_curves : (beginFirstBeat s).curves = s.curves := by simp [beginFirstBeat]
@[simp] theorem beginFirstBeat_held : (beginFirstBeat s).held = s.held := by simp [beginFirstBeat]
@[simp] theorem beginFirstBeat_change : (beginFirstBeat s).change = s.change := by simp [beginFirstBeat]
@[simp] theorem beginFirstBeat_store : (beginFirstBeat s).store = s.store := by simp [beginFirstBeat]
@[simp] theorem beginFirstBeat_pedals : (beginFirstBeat s).pedals = s.pedals := by simp [beginFirstBeat]
@[simp] theorem beginFirstBeat_service : (beginFirstBeat s).service = s.service := by simp [beginFirstBeat]
@[simp] theorem beginFirstBeat_pending : (beginFirstBeat s).pending = s.pending := by simp [beginFirstBeat]

@[simp] theorem startClock_power : (startClock s).power = s.power := by
  unfold startClock
  dsimp only
  split <;> simp
@[simp] theorem startClock_now : (startClock s).now = s.now := by
  unfold startClock
  dsimp only
  split <;> simp
@[simp] theorem startClock_freeTick : (startClock s).freeTick = s.freeTick := by
  unfold startClock
  dsimp only
  split <;> simp
@[simp] theorem startClock_settings : (startClock s).settings = s.settings := by
  unfold startClock
  dsimp only
  split <;> simp
@[simp] theorem startClock_curves : (startClock s).curves = s.curves := by
  unfold startClock
  dsimp only
  split <;> simp
@[simp] theorem startClock_held : (startClock s).held = s.held := by
  unfold startClock
  dsimp only
  split <;> simp
@[simp] theorem startClock_change : (startClock s).change = s.change := by
  unfold startClock
  dsimp only
  split <;> simp
@[simp] theorem startClock_store : (startClock s).store = s.store := by
  unfold startClock
  dsimp only
  split <;> simp
@[simp] theorem startClock_pedals : (startClock s).pedals = s.pedals := by
  unfold startClock
  dsimp only
  split <;> simp
@[simp] theorem startClock_service : (startClock s).service = s.service := by
  unfold startClock
  dsimp only
  split <;> simp
@[simp] theorem startClock_pending : (startClock s).pending = s.pending := by
  unfold startClock
  dsimp only
  split <;> simp

@[simp] theorem doStart_power : (doStart s).power = s.power := by
  unfold doStart
  repeat' split
  all_goals simp
@[simp] theorem doStart_now : (doStart s).now = s.now := by
  unfold doStart
  repeat' split
  all_goals simp
@[simp] theorem doStart_freeTick : (doStart s).freeTick = s.freeTick := by
  unfold doStart
  repeat' split
  all_goals simp
@[simp] theorem doStart_settings : (doStart s).settings = s.settings := by
  unfold doStart
  repeat' split
  all_goals simp
@[simp] theorem doStart_curves : (doStart s).curves = s.curves := by
  unfold doStart
  repeat' split
  all_goals simp
@[simp] theorem doStart_held : (doStart s).held = s.held := by
  unfold doStart
  repeat' split
  all_goals simp
@[simp] theorem doStart_change : (doStart s).change = s.change := by
  unfold doStart
  repeat' split
  all_goals simp
@[simp] theorem doStart_store : (doStart s).store = s.store := by
  unfold doStart
  repeat' split
  all_goals simp
@[simp] theorem doStart_pedals : (doStart s).pedals = s.pedals := by
  unfold doStart
  repeat' split
  all_goals simp
@[simp] theorem doStart_service : (doStart s).service = s.service := by
  unfold doStart
  repeat' split
  all_goals simp
@[simp] theorem doStart_pending : (doStart s).pending = s.pending := by
  unfold doStart
  repeat' split
  all_goals simp

@[simp] theorem doContinue_power : (doContinue s).power = s.power := by
  unfold doContinue
  split
  · simp
  · rfl
@[simp] theorem doContinue_now : (doContinue s).now = s.now := by
  unfold doContinue
  split
  · simp
  · rfl
@[simp] theorem doContinue_freeTick : (doContinue s).freeTick = s.freeTick := by
  unfold doContinue
  split
  · simp
  · rfl
@[simp] theorem doContinue_settings : (doContinue s).settings = s.settings := by
  unfold doContinue
  split
  · simp
  · rfl
@[simp] theorem doContinue_curves : (doContinue s).curves = s.curves := by
  unfold doContinue
  split
  · simp
  · rfl
@[simp] theorem doContinue_held : (doContinue s).held = s.held := by
  unfold doContinue
  split
  · simp
  · rfl
@[simp] theorem doContinue_change : (doContinue s).change = s.change := by
  unfold doContinue
  split
  · simp
  · rfl
@[simp] theorem doContinue_store : (doContinue s).store = s.store := by
  unfold doContinue
  split
  · simp
  · rfl
@[simp] theorem doContinue_pedals : (doContinue s).pedals = s.pedals := by
  unfold doContinue
  split
  · simp
  · rfl
@[simp] theorem doContinue_service : (doContinue s).service = s.service := by
  unfold doContinue
  split
  · simp
  · rfl
@[simp] theorem doContinue_pending : (doContinue s).pending = s.pending := by
  unfold doContinue
  split
  · simp
  · rfl

@[simp] theorem resetPosition_power : (resetPosition s).power = s.power := by
  unfold resetPosition
  dsimp only
  repeat' split
  all_goals simp
@[simp] theorem resetPosition_now : (resetPosition s).now = s.now := by
  unfold resetPosition
  dsimp only
  repeat' split
  all_goals simp
@[simp] theorem resetPosition_freeTick : (resetPosition s).freeTick = s.freeTick := by
  unfold resetPosition
  dsimp only
  repeat' split
  all_goals simp
@[simp] theorem resetPosition_settings : (resetPosition s).settings = s.settings := by
  unfold resetPosition
  dsimp only
  repeat' split
  all_goals simp
@[simp] theorem resetPosition_curves : (resetPosition s).curves = s.curves := by
  unfold resetPosition
  dsimp only
  repeat' split
  all_goals simp
@[simp] theorem resetPosition_held : (resetPosition s).held = s.held := by
  unfold resetPosition
  dsimp only
  repeat' split
  all_goals simp
@[simp] theorem resetPosition_change : (resetPosition s).change = s.change := by
  unfold resetPosition
  dsimp only
  repeat' split
  all_goals simp
@[simp] theorem resetPosition_store : (resetPosition s).store = s.store := by
  unfold resetPosition
  dsimp only
  repeat' split
  all_goals simp
@[simp] theorem resetPosition_pedals : (resetPosition s).pedals = s.pedals := by
  unfold resetPosition
  dsimp only
  repeat' split
  all_goals simp
@[simp] theorem resetPosition_service : (resetPosition s).service = s.service := by
  unfold resetPosition
  dsimp only
  repeat' split
  all_goals simp
@[simp] theorem resetPosition_pending : (resetPosition s).pending = s.pending := by
  unfold resetPosition
  dsimp only
  repeat' split
  all_goals simp

@[simp] theorem songReset_power (m : SwitchMoment) : (songReset m s).power = s.power := by
  unfold songReset
  repeat' split
  all_goals simp
@[simp] theorem songReset_now (m : SwitchMoment) : (songReset m s).now = s.now := by
  unfold songReset
  repeat' split
  all_goals simp
@[simp] theorem songReset_freeTick (m : SwitchMoment) : (songReset m s).freeTick = s.freeTick := by
  unfold songReset
  repeat' split
  all_goals simp
@[simp] theorem songReset_settings (m : SwitchMoment) : (songReset m s).settings = s.settings := by
  unfold songReset
  repeat' split
  all_goals simp
@[simp] theorem songReset_curves (m : SwitchMoment) : (songReset m s).curves = s.curves := by
  unfold songReset
  repeat' split
  all_goals simp
@[simp] theorem songReset_held (m : SwitchMoment) : (songReset m s).held = s.held := by
  unfold songReset
  repeat' split
  all_goals simp
@[simp] theorem songReset_change (m : SwitchMoment) : (songReset m s).change = s.change := by
  unfold songReset
  repeat' split
  all_goals simp
@[simp] theorem songReset_store (m : SwitchMoment) : (songReset m s).store = s.store := by
  unfold songReset
  repeat' split
  all_goals simp
@[simp] theorem songReset_pedals (m : SwitchMoment) : (songReset m s).pedals = s.pedals := by
  unfold songReset
  repeat' split
  all_goals simp
@[simp] theorem songReset_service (m : SwitchMoment) : (songReset m s).service = s.service := by
  unfold songReset
  repeat' split
  all_goals simp
@[simp] theorem songReset_pending (m : SwitchMoment) : (songReset m s).pending = s.pending := by
  unfold songReset
  repeat' split
  all_goals simp

@[simp] theorem rewriteInEffect_power (t : Nat) : (rewriteInEffect t s).power = s.power := rfl
@[simp] theorem rewriteInEffect_now (t : Nat) : (rewriteInEffect t s).now = s.now := rfl
@[simp] theorem rewriteInEffect_freeTick (t : Nat) : (rewriteInEffect t s).freeTick = s.freeTick := rfl
@[simp] theorem rewriteInEffect_settings (t : Nat) : (rewriteInEffect t s).settings = s.settings := rfl
@[simp] theorem rewriteInEffect_curves (t : Nat) : (rewriteInEffect t s).curves = s.curves := rfl
@[simp] theorem rewriteInEffect_link (t : Nat) : (rewriteInEffect t s).link = s.link := rfl
@[simp] theorem rewriteInEffect_held (t : Nat) : (rewriteInEffect t s).held = s.held := rfl
@[simp] theorem rewriteInEffect_change (t : Nat) : (rewriteInEffect t s).change = s.change := rfl
@[simp] theorem rewriteInEffect_store (t : Nat) : (rewriteInEffect t s).store = s.store := rfl
@[simp] theorem rewriteInEffect_pedals (t : Nat) : (rewriteInEffect t s).pedals = s.pedals := rfl
@[simp] theorem rewriteInEffect_service (t : Nat) : (rewriteInEffect t s).service = s.service := rfl
@[simp] theorem rewriteInEffect_status (t : Nat) : (rewriteInEffect t s).status = s.status := rfl
@[simp] theorem rewriteInEffect_pending (t : Nat) : (rewriteInEffect t s).pending = s.pending := rfl

@[simp] theorem closeFetch_power : (closeFetch s).power = s.power := rfl
@[simp] theorem closeFetch_now : (closeFetch s).now = s.now := rfl
@[simp] theorem closeFetch_freeTick : (closeFetch s).freeTick = s.freeTick := rfl
@[simp] theorem closeFetch_settings : (closeFetch s).settings = s.settings := rfl
@[simp] theorem closeFetch_curves : (closeFetch s).curves = s.curves := rfl
@[simp] theorem closeFetch_link : (closeFetch s).link = s.link := rfl
@[simp] theorem closeFetch_held : (closeFetch s).held = s.held := rfl
@[simp] theorem closeFetch_tempo : (closeFetch s).tempo = s.tempo := rfl
@[simp] theorem closeFetch_change : (closeFetch s).change = s.change := rfl
@[simp] theorem closeFetch_pedals : (closeFetch s).pedals = s.pedals := rfl
@[simp] theorem closeFetch_service : (closeFetch s).service = s.service := rfl
@[simp] theorem closeFetch_status : (closeFetch s).status = s.status := rfl
@[simp] theorem closeFetch_pending : (closeFetch s).pending = s.pending := rfl

@[simp] theorem abandonFetch_power : (abandonFetch s).power = s.power := by
  unfold abandonFetch
  repeat' split
  all_goals simp
@[simp] theorem abandonFetch_now : (abandonFetch s).now = s.now := by
  unfold abandonFetch
  repeat' split
  all_goals simp
@[simp] theorem abandonFetch_settings : (abandonFetch s).settings = s.settings := by
  unfold abandonFetch
  repeat' split
  all_goals simp
@[simp] theorem abandonFetch_curves : (abandonFetch s).curves = s.curves := by
  unfold abandonFetch
  repeat' split
  all_goals simp
@[simp] theorem abandonFetch_link : (abandonFetch s).link = s.link := by
  unfold abandonFetch
  repeat' split
  all_goals simp
@[simp] theorem abandonFetch_held : (abandonFetch s).held = s.held := by
  unfold abandonFetch
  repeat' split
  all_goals simp
@[simp] theorem abandonFetch_tempo : (abandonFetch s).tempo = s.tempo := by
  unfold abandonFetch
  repeat' split
  all_goals simp
@[simp] theorem abandonFetch_change : (abandonFetch s).change = s.change := by
  unfold abandonFetch
  repeat' split
  all_goals simp
@[simp] theorem abandonFetch_pedals : (abandonFetch s).pedals = s.pedals := by
  unfold abandonFetch
  repeat' split
  all_goals simp
@[simp] theorem abandonFetch_service : (abandonFetch s).service = s.service := by
  unfold abandonFetch
  repeat' split
  all_goals simp
@[simp] theorem abandonFetch_pending : (abandonFetch s).pending = s.pending := by
  unfold abandonFetch
  repeat' split
  all_goals simp

@[simp] theorem redecideFetch_power : (redecideFetch s).power = s.power := by
  unfold redecideFetch
  repeat' split
  all_goals simp
@[simp] theorem redecideFetch_now : (redecideFetch s).now = s.now := by
  unfold redecideFetch
  repeat' split
  all_goals simp
@[simp] theorem redecideFetch_freeTick : (redecideFetch s).freeTick = s.freeTick := by
  unfold redecideFetch
  repeat' split
  all_goals simp
@[simp] theorem redecideFetch_settings : (redecideFetch s).settings = s.settings := by
  unfold redecideFetch
  repeat' split
  all_goals simp
@[simp] theorem redecideFetch_curves : (redecideFetch s).curves = s.curves := by
  unfold redecideFetch
  repeat' split
  all_goals simp
@[simp] theorem redecideFetch_link : (redecideFetch s).link = s.link := by
  unfold redecideFetch
  repeat' split
  all_goals simp
@[simp] theorem redecideFetch_held : (redecideFetch s).held = s.held := by
  unfold redecideFetch
  repeat' split
  all_goals simp
@[simp] theorem redecideFetch_tempo : (redecideFetch s).tempo = s.tempo := by
  unfold redecideFetch
  repeat' split
  all_goals simp
@[simp] theorem redecideFetch_change : (redecideFetch s).change = s.change := by
  unfold redecideFetch
  repeat' split
  all_goals simp
@[simp] theorem redecideFetch_pedals : (redecideFetch s).pedals = s.pedals := by
  unfold redecideFetch
  repeat' split
  all_goals simp
@[simp] theorem redecideFetch_service : (redecideFetch s).service = s.service := by
  unfold redecideFetch
  repeat' split
  all_goals simp
@[simp] theorem redecideFetch_status : (redecideFetch s).status = s.status := by
  unfold redecideFetch
  repeat' split
  all_goals simp
@[simp] theorem redecideFetch_pending : (redecideFetch s).pending = s.pending := by
  unfold redecideFetch
  repeat' split
  all_goals simp

@[simp] theorem endRequest_power (o : ChangeOutcome) (x : Origin) : (endRequest o x s).power = s.power := by
  unfold endRequest
  dsimp only
  split <;> rfl
@[simp] theorem endRequest_now (o : ChangeOutcome) (x : Origin) : (endRequest o x s).now = s.now := by
  unfold endRequest
  dsimp only
  split <;> rfl
@[simp] theorem endRequest_freeTick (o : ChangeOutcome) (x : Origin) : (endRequest o x s).freeTick = s.freeTick := by
  unfold endRequest
  dsimp only
  split <;> rfl
@[simp] theorem endRequest_settings (o : ChangeOutcome) (x : Origin) : (endRequest o x s).settings = s.settings := by
  unfold endRequest
  dsimp only
  split <;> rfl
@[simp] theorem endRequest_curves (o : ChangeOutcome) (x : Origin) : (endRequest o x s).curves = s.curves := by
  unfold endRequest
  dsimp only
  split <;> rfl
@[simp] theorem endRequest_link (o : ChangeOutcome) (x : Origin) : (endRequest o x s).link = s.link := by
  unfold endRequest
  dsimp only
  split <;> rfl
@[simp] theorem endRequest_held (o : ChangeOutcome) (x : Origin) : (endRequest o x s).held = s.held := by
  unfold endRequest
  dsimp only
  split <;> rfl
@[simp] theorem endRequest_tempo (o : ChangeOutcome) (x : Origin) : (endRequest o x s).tempo = s.tempo := by
  unfold endRequest
  dsimp only
  split <;> rfl
@[simp] theorem endRequest_store (o : ChangeOutcome) (x : Origin) : (endRequest o x s).store = s.store := by
  unfold endRequest
  dsimp only
  split <;> rfl
@[simp] theorem endRequest_pedals (o : ChangeOutcome) (x : Origin) : (endRequest o x s).pedals = s.pedals := by
  unfold endRequest
  dsimp only
  split <;> rfl
@[simp] theorem endRequest_service (o : ChangeOutcome) (x : Origin) : (endRequest o x s).service = s.service := by
  unfold endRequest
  dsimp only
  split <;> rfl
@[simp] theorem endRequest_pending (o : ChangeOutcome) (x : Origin) : (endRequest o x s).pending = s.pending := by
  unfold endRequest
  dsimp only
  split <;> rfl

@[simp] theorem beginFetch_power (tg : Target) (src : FetchSource) : (beginFetch tg src s).power = s.power := rfl
@[simp] theorem beginFetch_now (tg : Target) (src : FetchSource) : (beginFetch tg src s).now = s.now := rfl
@[simp] theorem beginFetch_freeTick (tg : Target) (src : FetchSource) : (beginFetch tg src s).freeTick = s.freeTick :=
  rfl
@[simp] theorem beginFetch_settings (tg : Target) (src : FetchSource) : (beginFetch tg src s).settings = s.settings :=
  rfl
@[simp] theorem beginFetch_curves (tg : Target) (src : FetchSource) : (beginFetch tg src s).curves = s.curves := rfl
@[simp] theorem beginFetch_link (tg : Target) (src : FetchSource) : (beginFetch tg src s).link = s.link := rfl
@[simp] theorem beginFetch_held (tg : Target) (src : FetchSource) : (beginFetch tg src s).held = s.held := rfl
@[simp] theorem beginFetch_tempo (tg : Target) (src : FetchSource) : (beginFetch tg src s).tempo = s.tempo := rfl
@[simp] theorem beginFetch_pedals (tg : Target) (src : FetchSource) : (beginFetch tg src s).pedals = s.pedals := rfl
@[simp] theorem beginFetch_service (tg : Target) (src : FetchSource) : (beginFetch tg src s).service = s.service := rfl
@[simp] theorem beginFetch_status (tg : Target) (src : FetchSource) : (beginFetch tg src s).status = s.status := rfl
@[simp] theorem beginFetch_pending (tg : Target) (src : FetchSource) : (beginFetch tg src s).pending = s.pending := rfl

@[simp] theorem takeAll_power (rs : List ChangeRequest) : (takeAll rs s).power = s.power := by
  induction rs generalizing s with
  | nil => rfl
  | cons r rs ih =>
    unfold takeAll
    dsimp only
    repeat' split
    all_goals simp [ih]
@[simp] theorem takeAll_now (rs : List ChangeRequest) : (takeAll rs s).now = s.now := by
  induction rs generalizing s with
  | nil => rfl
  | cons r rs ih =>
    unfold takeAll
    dsimp only
    repeat' split
    all_goals simp [ih]
@[simp] theorem takeAll_freeTick (rs : List ChangeRequest) : (takeAll rs s).freeTick = s.freeTick := by
  induction rs generalizing s with
  | nil => rfl
  | cons r rs ih =>
    unfold takeAll
    dsimp only
    repeat' split
    all_goals simp [ih]
@[simp] theorem takeAll_settings (rs : List ChangeRequest) : (takeAll rs s).settings = s.settings := by
  induction rs generalizing s with
  | nil => rfl
  | cons r rs ih =>
    unfold takeAll
    dsimp only
    repeat' split
    all_goals simp [ih]
@[simp] theorem takeAll_curves (rs : List ChangeRequest) : (takeAll rs s).curves = s.curves := by
  induction rs generalizing s with
  | nil => rfl
  | cons r rs ih =>
    unfold takeAll
    dsimp only
    repeat' split
    all_goals simp [ih]
@[simp] theorem takeAll_link (rs : List ChangeRequest) : (takeAll rs s).link = s.link := by
  induction rs generalizing s with
  | nil => rfl
  | cons r rs ih =>
    unfold takeAll
    dsimp only
    repeat' split
    all_goals simp [ih]
@[simp] theorem takeAll_held (rs : List ChangeRequest) : (takeAll rs s).held = s.held := by
  induction rs generalizing s with
  | nil => rfl
  | cons r rs ih =>
    unfold takeAll
    dsimp only
    repeat' split
    all_goals simp [ih]
@[simp] theorem takeAll_tempo (rs : List ChangeRequest) : (takeAll rs s).tempo = s.tempo := by
  induction rs generalizing s with
  | nil => rfl
  | cons r rs ih =>
    unfold takeAll
    dsimp only
    repeat' split
    all_goals simp [ih]
@[simp] theorem takeAll_pedals (rs : List ChangeRequest) : (takeAll rs s).pedals = s.pedals := by
  induction rs generalizing s with
  | nil => rfl
  | cons r rs ih =>
    unfold takeAll
    dsimp only
    repeat' split
    all_goals simp [ih]
@[simp] theorem takeAll_service (rs : List ChangeRequest) : (takeAll rs s).service = s.service := by
  induction rs generalizing s with
  | nil => rfl
  | cons r rs ih =>
    unfold takeAll
    dsimp only
    repeat' split
    all_goals simp [ih]
@[simp] theorem takeAll_pending (rs : List ChangeRequest) : (takeAll rs s).pending = s.pending := by
  induction rs generalizing s with
  | nil => rfl
  | cons r rs ih =>
    unfold takeAll
    dsimp only
    repeat' split
    all_goals simp [ih]

@[simp] theorem takeNext_power : (takeNext s).power = s.power := takeAll_power _ _
@[simp] theorem takeNext_now : (takeNext s).now = s.now := takeAll_now _ _
@[simp] theorem takeNext_freeTick : (takeNext s).freeTick = s.freeTick := takeAll_freeTick _ _
@[simp] theorem takeNext_settings : (takeNext s).settings = s.settings := takeAll_settings _ _
@[simp] theorem takeNext_curves : (takeNext s).curves = s.curves := takeAll_curves _ _
@[simp] theorem takeNext_link : (takeNext s).link = s.link := takeAll_link _ _
@[simp] theorem takeNext_held : (takeNext s).held = s.held := takeAll_held _ _
@[simp] theorem takeNext_tempo : (takeNext s).tempo = s.tempo := takeAll_tempo _ _
@[simp] theorem takeNext_pedals : (takeNext s).pedals = s.pedals := takeAll_pedals _ _
@[simp] theorem takeNext_service : (takeNext s).service = s.service := takeAll_service _ _
@[simp] theorem takeNext_pending : (takeNext s).pending = s.pending := takeAll_pending _ _

@[simp] theorem offerStep_power (k : StepKind) (n : Nat) (x : Origin) : (offerStep k n x s).power = s.power := by
  unfold offerStep
  dsimp only
  repeat' split
  all_goals simp
@[simp] theorem offerStep_now (k : StepKind) (n : Nat) (x : Origin) : (offerStep k n x s).now = s.now := by
  unfold offerStep
  dsimp only
  repeat' split
  all_goals simp
@[simp] theorem offerStep_freeTick (k : StepKind) (n : Nat) (x : Origin) : (offerStep k n x s).freeTick = s.freeTick := by
  unfold offerStep
  dsimp only
  repeat' split
  all_goals simp
@[simp] theorem offerStep_settings (k : StepKind) (n : Nat) (x : Origin) : (offerStep k n x s).settings = s.settings := by
  unfold offerStep
  dsimp only
  repeat' split
  all_goals simp
@[simp] theorem offerStep_curves (k : StepKind) (n : Nat) (x : Origin) : (offerStep k n x s).curves = s.curves := by
  unfold offerStep
  dsimp only
  repeat' split
  all_goals simp
@[simp] theorem offerStep_link (k : StepKind) (n : Nat) (x : Origin) : (offerStep k n x s).link = s.link := by
  unfold offerStep
  dsimp only
  repeat' split
  all_goals simp
@[simp] theorem offerStep_held (k : StepKind) (n : Nat) (x : Origin) : (offerStep k n x s).held = s.held := by
  unfold offerStep
  dsimp only
  repeat' split
  all_goals simp
@[simp] theorem offerStep_tempo (k : StepKind) (n : Nat) (x : Origin) : (offerStep k n x s).tempo = s.tempo := by
  unfold offerStep
  dsimp only
  repeat' split
  all_goals simp
@[simp] theorem offerStep_pedals (k : StepKind) (n : Nat) (x : Origin) : (offerStep k n x s).pedals = s.pedals := by
  unfold offerStep
  dsimp only
  repeat' split
  all_goals simp
@[simp] theorem offerStep_service (k : StepKind) (n : Nat) (x : Origin) : (offerStep k n x s).service = s.service := by
  unfold offerStep
  dsimp only
  repeat' split
  all_goals simp
@[simp] theorem offerStep_pending (k : StepKind) (n : Nat) (x : Origin) : (offerStep k n x s).pending = s.pending := by
  unfold offerStep
  dsimp only
  repeat' split
  all_goals simp

@[simp] theorem abandonChange_power : (abandonChange s).power = s.power := by simp [abandonChange]
@[simp] theorem abandonChange_now : (abandonChange s).now = s.now := by simp [abandonChange]
@[simp] theorem abandonChange_settings : (abandonChange s).settings = s.settings := by simp [abandonChange]
@[simp] theorem abandonChange_curves : (abandonChange s).curves = s.curves := by simp [abandonChange]
@[simp] theorem abandonChange_link : (abandonChange s).link = s.link := by simp [abandonChange]
@[simp] theorem abandonChange_held : (abandonChange s).held = s.held := by simp [abandonChange]
@[simp] theorem abandonChange_tempo : (abandonChange s).tempo = s.tempo := by simp [abandonChange]
@[simp] theorem abandonChange_pedals : (abandonChange s).pedals = s.pedals := by simp [abandonChange]
@[simp] theorem abandonChange_service : (abandonChange s).service = s.service := by simp [abandonChange]
@[simp] theorem abandonChange_pending : (abandonChange s).pending = s.pending := by simp [abandonChange]

@[simp] theorem offerGoto_power (k : GotoKind) (n : Nat) (x : Origin) : (offerGoto k n x s).power = s.power := by
  unfold offerGoto
  dsimp only
  split <;> simp
@[simp] theorem offerGoto_now (k : GotoKind) (n : Nat) (x : Origin) : (offerGoto k n x s).now = s.now := by
  unfold offerGoto
  dsimp only
  split <;> simp
@[simp] theorem offerGoto_settings (k : GotoKind) (n : Nat) (x : Origin) : (offerGoto k n x s).settings = s.settings := by
  unfold offerGoto
  dsimp only
  split <;> simp
@[simp] theorem offerGoto_curves (k : GotoKind) (n : Nat) (x : Origin) : (offerGoto k n x s).curves = s.curves := by
  unfold offerGoto
  dsimp only
  split <;> simp
@[simp] theorem offerGoto_link (k : GotoKind) (n : Nat) (x : Origin) : (offerGoto k n x s).link = s.link := by
  unfold offerGoto
  dsimp only
  split <;> simp
@[simp] theorem offerGoto_held (k : GotoKind) (n : Nat) (x : Origin) : (offerGoto k n x s).held = s.held := by
  unfold offerGoto
  dsimp only
  split <;> simp
@[simp] theorem offerGoto_tempo (k : GotoKind) (n : Nat) (x : Origin) : (offerGoto k n x s).tempo = s.tempo := by
  unfold offerGoto
  dsimp only
  split <;> simp
@[simp] theorem offerGoto_pedals (k : GotoKind) (n : Nat) (x : Origin) : (offerGoto k n x s).pedals = s.pedals := by
  unfold offerGoto
  dsimp only
  split <;> simp
@[simp] theorem offerGoto_service (k : GotoKind) (n : Nat) (x : Origin) : (offerGoto k n x s).service = s.service := by
  unfold offerGoto
  dsimp only
  split <;> simp
@[simp] theorem offerGoto_pending (k : GotoKind) (n : Nat) (x : Origin) : (offerGoto k n x s).pending = s.pending := by
  unfold offerGoto
  dsimp only
  split <;> simp

@[simp] theorem pushBurst_power (p : Port) (f : Frame) : (pushBurst p f s).power = s.power := rfl
@[simp] theorem pushBurst_now (p : Port) (f : Frame) : (pushBurst p f s).now = s.now := rfl
@[simp] theorem pushBurst_freeTick (p : Port) (f : Frame) : (pushBurst p f s).freeTick = s.freeTick := rfl
@[simp] theorem pushBurst_settings (p : Port) (f : Frame) : (pushBurst p f s).settings = s.settings := rfl
@[simp] theorem pushBurst_curves (p : Port) (f : Frame) : (pushBurst p f s).curves = s.curves := rfl
@[simp] theorem pushBurst_held (p : Port) (f : Frame) : (pushBurst p f s).held = s.held := rfl
@[simp] theorem pushBurst_tempo (p : Port) (f : Frame) : (pushBurst p f s).tempo = s.tempo := rfl
@[simp] theorem pushBurst_change (p : Port) (f : Frame) : (pushBurst p f s).change = s.change := rfl
@[simp] theorem pushBurst_store (p : Port) (f : Frame) : (pushBurst p f s).store = s.store := rfl
@[simp] theorem pushBurst_pedals (p : Port) (f : Frame) : (pushBurst p f s).pedals = s.pedals := rfl
@[simp] theorem pushBurst_service (p : Port) (f : Frame) : (pushBurst p f s).service = s.service := rfl
@[simp] theorem pushBurst_status (p : Port) (f : Frame) : (pushBurst p f s).status = s.status := rfl
@[simp] theorem pushBurst_pending (p : Port) (f : Frame) : (pushBurst p f s).pending = s.pending := rfl

@[simp] theorem advanceBurst_power : (advanceBurst s).power = s.power := rfl
@[simp] theorem advanceBurst_now : (advanceBurst s).now = s.now := rfl
@[simp] theorem advanceBurst_freeTick : (advanceBurst s).freeTick = s.freeTick := rfl
@[simp] theorem advanceBurst_settings : (advanceBurst s).settings = s.settings := rfl
@[simp] theorem advanceBurst_curves : (advanceBurst s).curves = s.curves := rfl
@[simp] theorem advanceBurst_link : (advanceBurst s).link = s.link := rfl
@[simp] theorem advanceBurst_held : (advanceBurst s).held = s.held := rfl
@[simp] theorem advanceBurst_tempo : (advanceBurst s).tempo = s.tempo := rfl
@[simp] theorem advanceBurst_store : (advanceBurst s).store = s.store := rfl
@[simp] theorem advanceBurst_pedals : (advanceBurst s).pedals = s.pedals := rfl
@[simp] theorem advanceBurst_service : (advanceBurst s).service = s.service := rfl
@[simp] theorem advanceBurst_status : (advanceBurst s).status = s.status := rfl
@[simp] theorem advanceBurst_pending : (advanceBurst s).pending = s.pending := rfl

end Sys2Proof.Machine
end

