-- ==== Sys2Proof/Laws/Memory.lean ====
section
/-! SUPPORT. The memories of the store: a read after a write, and that every memory operation keeps the canonical form.
Each operation has one lemma for what it reads as and one for its form. -/

namespace Sys2Proof.Machine

/-! ## The canonical form -/

/-- The empty memory is canonical. -/
theorem Memory.wf_nil : Memory.wf [] := ⟨List.Pairwise.nil, by simp⟩

/-- A pair before a canonical memory: it lies below every address and does not hold the blank byte. -/
theorem Memory.wf_cons {c : Host.Cell} {m : Memory} :
    Memory.wf (c :: m) ↔ c.2 ≠ Config.blankByte ∧ (∀ d ∈ m, c.1 < d.1) ∧ Memory.wf m := by
  simp only [Memory.wf, List.pairwise_cons, List.mem_cons, forall_eq_or_imp]
  tauto

/-- Any part of a canonical memory that keeps the order is canonical. -/
theorem Memory.wf_sublist {m m' : Memory} (h : m'.Sublist m) (hm : Memory.wf m) : Memory.wf m' :=
  ⟨hm.1.sublist h, fun c hc => hm.2 c (h.subset hc)⟩

/-- A filtered canonical memory is canonical. -/
theorem Memory.wf_filter {m : Memory} (p : Host.Cell → Bool) (hm : Memory.wf m) : Memory.wf (m.filter p) :=
  Memory.wf_sublist List.filter_sublist hm

/-- Addresses moved, their order kept. -/
theorem Memory.wf_map {m : Memory} (f : Nat → Nat) (hf : ∀ c ∈ m, ∀ d ∈ m, c.1 < d.1 → f c.1 < f d.1)
    (hm : Memory.wf m) : Memory.wf (m.map fun c => (f c.1, c.2)) := by
  refine ⟨?_, ?_⟩
  · rw [List.pairwise_map]
    exact hm.1.imp_of_mem fun hc hd hlt => hf _ hc _ hd hlt
  · intro c hc
    obtain ⟨d, hd, rfl⟩ := List.mem_map.mp hc
    exact hm.2 d hd

/-- Two canonical memories, the first below the second. -/
theorem Memory.wf_append {m n : Memory} (hm : Memory.wf m) (hn : Memory.wf n) (h : ∀ c ∈ m, ∀ d ∈ n, c.1 < d.1) :
    Memory.wf (m ++ n) := by
  refine ⟨List.pairwise_append.mpr ⟨hm.1, hn.1, h⟩, fun c hc => ?_⟩
  rcases List.mem_append.mp hc with hc | hc
  · exact hm.2 c hc
  · exact hn.2 c hc

/-! ## Reading -/

/-- An address below every listed one reads as the blank byte. -/
theorem Memory.read_of_lt {m : Memory} {a : Nat} (h : ∀ c ∈ m, a < c.1) : Memory.read m a = Config.blankByte := by
  induction m with
  | nil => rfl
  | cons c cs ih =>
    have hc := h c (by simp)
    rw [Memory.read, if_neg (by omega)]
    exact ih fun d hd => h d (by simp [hd])

/-- An address that is not listed reads as the blank byte. -/
theorem Memory.read_of_notMem {m : Memory} {a : Nat} (h : ∀ c ∈ m, c.1 ≠ a) : Memory.read m a = Config.blankByte := by
  induction m with
  | nil => rfl
  | cons c cs ih =>
    rw [Memory.read, if_neg (h c (by simp))]
    exact ih fun d hd => h d (by simp [hd])

/-- In a canonical memory a listed pair is what its address reads as. -/
theorem Memory.read_of_mem {m : Memory} (hm : Memory.wf m) {c : Host.Cell} (hc : c ∈ m) : Memory.read m c.1 = c.2 := by
  induction m with
  | nil => simp at hc
  | cons d ds ih =>
    obtain ⟨-, hlt, hds⟩ := Memory.wf_cons.mp hm
    rcases List.mem_cons.mp hc with rfl | hc
    · simp [Memory.read]
    · have := hlt c hc
      rw [Memory.read, if_neg (by omega)]
      exact ih hds hc

/-- In a canonical memory an address reads as the blank byte exactly when it is not listed. -/
theorem Memory.read_eq_blank {m : Memory} (hm : Memory.wf m) {a : Nat} :
    Memory.read m a = Config.blankByte ↔ ∀ c ∈ m, c.1 ≠ a := by
  refine ⟨fun h c hc hca => ?_, Memory.read_of_notMem⟩
  subst hca
  exact hm.2 c hc (by rw [← Memory.read_of_mem hm hc, h])

/-- A read over joined memories. -/
theorem Memory.read_append (m n : Memory) (a : Nat) :
    Memory.read (m ++ n) a = if ∃ c ∈ m, c.1 = a then Memory.read m a else Memory.read n a := by
  induction m with
  | nil => simp
  | cons c cs ih =>
    by_cases hc : c.1 = a
    · simp [Memory.read, hc]
    · simp [Memory.read, hc, ih]

/-- A read through a filter on addresses. -/
theorem Memory.read_filter (m : Memory) (p : Nat → Bool) (a : Nat) :
    Memory.read (m.filter fun c => p c.1) a = if p a then Memory.read m a else Config.blankByte := by
  induction m with
  | nil => simp [Memory.read]
  | cons c cs ih =>
    by_cases hp : p c.1
    · rw [List.filter_cons_of_pos (p := fun c : Host.Cell => p c.1) hp]
      by_cases hc : c.1 = a
      · subst hc; simp [Memory.read, hp]
      · simp [Memory.read, hc, ih]
    · rw [List.filter_cons_of_neg (p := fun c : Host.Cell => p c.1) hp, ih]
      by_cases hc : c.1 = a
      · subst hc; simp [hp]
      · simp [Memory.read, hc]

/-- Equal reads make equal canonical memories. -/
theorem Memory.ext_read {m n : Memory} (hm : Memory.wf m) (hn : Memory.wf n)
    (h : ∀ a, Memory.read m a = Memory.read n a) : m = n := by
  induction m generalizing n with
  | nil =>
    cases n with
    | nil => rfl
    | cons d ds =>
      have := h d.1
      rw [Memory.read_of_mem hn (by simp)] at this
      exact absurd this.symm (Memory.wf_cons.mp hn).1
  | cons c cs ih =>
    obtain ⟨hcb, hclt, hcs⟩ := Memory.wf_cons.mp hm
    cases n with
    | nil =>
      have := h c.1
      rw [Memory.read_of_mem hm (by simp)] at this
      exact absurd this hcb
    | cons d ds =>
      obtain ⟨hdb, hdlt, hds⟩ := Memory.wf_cons.mp hn
      have hcd : c.1 = d.1 := by
        rcases Nat.lt_trichotomy c.1 d.1 with hlt | heq | hgt
        · have h1 := h c.1
          rw [Memory.read_of_mem hm (by simp), Memory.read_of_lt (m := d :: ds)] at h1
          · exact absurd h1 hcb
          · intro e he
            rcases List.mem_cons.mp he with rfl | he
            · exact hlt
            · exact Nat.lt_trans hlt (hdlt e he)
        · exact heq
        · have h1 := h d.1
          rw [Memory.read_of_mem hn (by simp), Memory.read_of_lt (m := c :: cs)] at h1
          · exact absurd h1.symm hdb
          · intro e he
            rcases List.mem_cons.mp he with rfl | he
            · exact hgt
            · exact Nat.lt_trans hgt (hclt e he)
      have hval : c.2 = d.2 := by
        have h1 := h c.1
        rw [Memory.read_of_mem hm (by simp)] at h1
        rw [hcd, Memory.read_of_mem hn (by simp)] at h1
        exact h1
      have hceq : c = d := Prod.ext hcd hval
      subst hceq
      congr 1
      refine ih hcs hds fun a => ?_
      by_cases hac : c.1 = a
      · subst hac
        rw [Memory.read_of_lt hclt, Memory.read_of_lt hdlt]
      · have := h a
        simpa [Memory.read, hac] using this

/-! ## Writing -/

/-- A pair of a written memory is the one written, or was there. -/
theorem Memory.mem_write {m : Memory} {a : Nat} {b : Byte} {c : Host.Cell} (hc : c ∈ m.write a b) :
    c = (a, b) ∨ c ∈ m := by
  induction m with
  | nil =>
    unfold Memory.write at hc
    split at hc
    · simp at hc
    · exact .inl (by simpa using hc)
  | cons d ds ih =>
    unfold Memory.write at hc
    split_ifs at hc
    · exact .inr hc
    · rcases List.mem_cons.mp hc with h | h
      · exact .inl h
      · exact .inr h
    · exact .inr (by simp [hc])
    · rcases List.mem_cons.mp hc with h | h
      · exact .inl h
      · exact .inr (by simp [h])
    · rcases List.mem_cons.mp hc with h | h
      · exact .inr (by simp [h])
      · rcases ih h with h | h
        · exact .inl h
        · exact .inr (by simp [h])

/-- A write keeps the canonical form. -/
theorem Memory.wf_write {m : Memory} (hm : Memory.wf m) (a : Nat) (b : Byte) : Memory.wf (m.write a b) := by
  induction m with
  | nil =>
    unfold Memory.write
    split
    · exact Memory.wf_nil
    · exact Memory.wf_cons.mpr ⟨by assumption, by simp, Memory.wf_nil⟩
  | cons d ds ih =>
    obtain ⟨hdb, hdlt, hds⟩ := Memory.wf_cons.mp hm
    unfold Memory.write
    split_ifs with h1 h2 h3 h4
    · exact hm
    · refine Memory.wf_cons.mpr ⟨h2, fun e he => ?_, hm⟩
      rcases List.mem_cons.mp he with rfl | he
      · exact h1
      · exact Nat.lt_trans h1 (hdlt e he)
    · exact hds
    · refine Memory.wf_cons.mpr ⟨h4, fun e he => ?_, hds⟩
      have := hdlt e he
      show a < e.1
      omega
    · refine Memory.wf_cons.mpr ⟨hdb, fun e he => ?_, ih hds⟩
      rcases Memory.mem_write he with rfl | he
      · show d.1 < a
        omega
      · exact hdlt e he

/-- A read after a write: the byte written at its address, what stood there elsewhere. -/
theorem Memory.read_write {m : Memory} (hm : Memory.wf m) (a : Nat) (b : Byte) (a' : Nat) :
    Memory.read (m.write a b) a' = if a' = a then b else Memory.read m a' := by
  induction m with
  | nil =>
    unfold Memory.write
    by_cases hb : b = Config.blankByte
    · rw [if_pos hb, hb]
      simp [Memory.read]
    · rw [if_neg hb]
      show (if a = a' then b else Config.blankByte) = _
      by_cases h : a = a'
      · rw [if_pos h, if_pos h.symm]
      · rw [if_neg h, if_neg fun e => h e.symm]; rfl
  | cons d ds ih =>
    obtain ⟨hdb, hdlt, hds⟩ := Memory.wf_cons.mp hm
    unfold Memory.write
    split_ifs with h1 h2 h3 h3 h4 h5 h6 h6 h7
    all_goals try subst_vars
    · rw [Memory.read_of_lt]
      intro e he
      rcases List.mem_cons.mp he with rfl | he
      · exact h1
      · exact Nat.lt_trans h1 (hdlt e he)
    · rfl
    · simp [Memory.read]
    · rw [Memory.read, if_neg]
      show a ≠ a'
      omega
    · rw [Memory.read_of_lt hdlt]
    · rw [Memory.read, if_neg (by omega)]
    · simp [Memory.read]
    · rw [Memory.read, if_neg (fun h => h6 h.symm)]
      rw [Memory.read, if_neg (by omega)]
    · rw [Memory.read, if_neg (by omega), ih hds, if_pos rfl]
    · rw [Memory.read, Memory.read, ih hds]
      split_ifs <;> rfl

/-- Cells written in turn keep the canonical form. -/
theorem Memory.wf_overlay {m : Memory} (hm : Memory.wf m) (cells : List Host.Cell) : Memory.wf (m.overlay cells) := by
  unfold Memory.overlay
  induction cells generalizing m with
  | nil => exact hm
  | cons c cs ih => exact ih (Memory.wf_write hm c.1 c.2)

/-- A run of bytes written keeps the canonical form. -/
theorem Memory.wf_writeRun {m : Memory} (hm : Memory.wf m) (a : Nat) (bs : List Byte) :
    Memory.wf (m.writeRun a bs) := by
  induction bs generalizing m a with
  | nil => exact hm
  | cons b bs ih => exact ih (Memory.wf_write hm a b) (a + 1)

/-- What a run of bytes written reads as. -/
theorem Memory.read_writeRun {m : Memory} (hm : Memory.wf m) (a : Nat) (bs : List Byte) (a' : Nat) :
    Memory.read (m.writeRun a bs) a'
      = if a ≤ a' ∧ a' < a + bs.length then bs.getD (a' - a) 0#8 else Memory.read m a' := by
  induction bs generalizing m a with
  | nil => rw [Memory.writeRun, if_neg (by simp only [List.length_nil]; omega)]
  | cons b bs ih =>
    rw [Memory.writeRun, ih (Memory.wf_write hm a b), Memory.read_write hm]
    rcases Nat.lt_trichotomy a' a with h | h | h
    · rw [if_neg (by omega), if_neg (by omega), if_neg (by omega)]
    · subst h
      rw [if_neg (by omega), if_pos rfl, if_pos (by simp)]
      simp
    · by_cases h2 : a' < a + 1 + bs.length
      · rw [if_pos (by omega), if_pos (by simp; omega)]
        have : a' - a = (a' - (a + 1)) + 1 := by omega
        rw [this]
        simp
      · rw [if_neg (by omega), if_neg (by omega), if_neg (by simp; omega)]

/-- Bytes written with a wrap keep the canonical form. -/
theorem Memory.wf_writeWrapped {m : Memory} (hm : Memory.wf m) (a : Nat) (bs : List Byte) :
    Memory.wf (writeWrapped m a bs) := by
  induction bs generalizing m a with
  | nil => exact hm
  | cons b bs ih => exact ih (Memory.wf_write hm a b) (nextOffset a)

/-- Every address of `ofBytes` lies in its run. -/
theorem Memory.mem_ofBytes {a : Nat} {bs : List Byte} {c : Host.Cell} (h : c ∈ Memory.ofBytes a bs) :
    a ≤ c.1 ∧ c.1 < a + bs.length := by
  induction bs generalizing a with
  | nil => simp [Memory.ofBytes] at h
  | cons b bs ih =>
    unfold Memory.ofBytes at h
    split at h
    · have := ih h; simp only [List.length_cons]; omega
    · rcases List.mem_cons.mp h with rfl | h
      · simp
      · have := ih h; simp only [List.length_cons]; omega

/-- A run of bytes as a memory is canonical. -/
theorem Memory.wf_ofBytes (a : Nat) (bs : List Byte) : Memory.wf (Memory.ofBytes a bs) := by
  induction bs generalizing a with
  | nil => exact Memory.wf_nil
  | cons b bs ih =>
    unfold Memory.ofBytes
    split
    · exact ih (a + 1)
    · refine Memory.wf_cons.mpr ⟨by assumption, fun d hd => ?_, ih (a + 1)⟩
      have := Memory.mem_ofBytes hd
      show a < d.1
      omega

/-- What a run of bytes reads as. -/
theorem Memory.read_ofBytes (a : Nat) (bs : List Byte) (a' : Nat) :
    Memory.read (Memory.ofBytes a bs) a'
      = if a ≤ a' ∧ a' < a + bs.length then bs.getD (a' - a) 0#8 else Config.blankByte := by
  induction bs generalizing a with
  | nil => rw [Memory.ofBytes, if_neg (by simp only [List.length_nil]; omega)]; rfl
  | cons b bs ih =>
    have hstep : ∀ (x : Byte), Memory.read (Memory.ofBytes (a + 1) bs) a'
        = if a + 1 ≤ a' ∧ a' < a + 1 + bs.length then bs.getD (a' - (a + 1)) 0#8 else Config.blankByte := fun _ => ih _
    by_cases h : a = a'
    · subst h
      rw [if_pos (by simp)]
      unfold Memory.ofBytes
      split
      · rename_i hb
        rw [hstep b, if_neg (by omega)]
        simp [hb]
      · simp [Memory.read]
    · have hr : Memory.read (Memory.ofBytes a (b :: bs)) a' = Memory.read (Memory.ofBytes (a + 1) bs) a' := by
        conv_lhs => unfold Memory.ofBytes
        split
        · rfl
        · rw [Memory.read, if_neg h]
      rw [hr, hstep b]
      by_cases h2 : a + 1 ≤ a' ∧ a' < a + 1 + bs.length
      · rw [if_pos h2, if_pos (by simp; omega)]
        have : a' - a = (a' - (a + 1)) + 1 := by omega
        rw [this]
        simp
      · rw [if_neg h2, if_neg (by simp; omega)]

/-! ## Pages -/

/-- A slice is canonical. -/
theorem Memory.wf_slice {m : Memory} (hm : Memory.wf m) (base len : Nat) : Memory.wf (m.slice base len) := by
  unfold Memory.slice
  refine Memory.wf_map (fun a => a - base) (fun c hc d hd h => ?_) (Memory.wf_filter _ hm)
  have h1 := (List.mem_filter.mp hc).2
  have h2 := (List.mem_filter.mp hd).2
  simp only [Bool.and_eq_true, decide_eq_true_eq] at h1 h2
  omega

/-- What a slice reads as. -/
theorem Memory.read_slice (m : Memory) (base len i : Nat) (h : i < len) :
    Memory.read (m.slice base len) i = Memory.read m (base + i) := by
  unfold Memory.slice
  induction m with
  | nil => rfl
  | cons c cs ih =>
    by_cases hp : base ≤ c.1 ∧ c.1 < base + len
    · rw [List.filter_cons_of_pos (by simpa using hp), List.map_cons]
      by_cases hc : c.1 = base + i
      · simp [Memory.read, hc]
      · rw [Memory.read, if_neg (by show c.1 - base ≠ i; omega), Memory.read, if_neg hc]
        exact ih
    · rw [List.filter_cons_of_neg (by simpa using hp), Memory.read, if_neg (by omega)]
      exact ih

/-- The addresses of a slice. -/
theorem Memory.mem_slice {m : Memory} {base len : Nat} {c : Host.Cell} (h : c ∈ m.slice base len) : c.1 < len := by
  unfold Memory.slice at h
  obtain ⟨d, hd, rfl⟩ := List.mem_map.mp h
  have := (List.mem_filter.mp hd).2
  simp only [Bool.and_eq_true, decide_eq_true_eq] at this
  show d.1 - base < len
  omega

/-- A splice is canonical. -/
theorem Memory.wf_splice {m image : Memory} (hm : Memory.wf m) (hi : Memory.wf image) (base len : Nat) :
    Memory.wf (m.splice base len image) := by
  unfold Memory.splice
  have h1 := Memory.wf_filter (fun c => c.1 < base) hm
  have h2 : Memory.wf ((image.filter fun c => c.1 < len).map fun c => (c.1 + base, c.2)) :=
    Memory.wf_map (fun a => a + base) (fun c _ d _ h => by omega) (Memory.wf_filter _ hi)
  have h3 := Memory.wf_filter (fun c => base + len ≤ c.1) hm
  have hmid : ∀ c ∈ (image.filter fun c => c.1 < len).map (fun c => (c.1 + base, c.2)),
      base ≤ c.1 ∧ c.1 < base + len := by
    intro c hc
    obtain ⟨d, hd, rfl⟩ := List.mem_map.mp hc
    have := (List.mem_filter.mp hd).2
    simp only [decide_eq_true_eq] at this
    show base ≤ d.1 + base ∧ d.1 + base < base + len
    omega
  have hlow : ∀ c ∈ m.filter (fun c => c.1 < base), c.1 < base := fun c hc => by
    simpa using (List.mem_filter.mp hc).2
  have hhigh : ∀ c ∈ m.filter (fun c => base + len ≤ c.1), base + len ≤ c.1 := fun c hc => by
    simpa using (List.mem_filter.mp hc).2
  refine Memory.wf_append (Memory.wf_append h1 h2 fun c hc d hd => ?_) h3 fun c hc d hd => ?_
  · have := hlow c hc; have := hmid d hd; omega
  · have h := hhigh d hd
    rcases List.mem_append.mp hc with hc | hc
    · have := hlow c hc; omega
    · have := hmid c hc; omega

/-- What a splice reads as. -/
theorem Memory.read_splice (m image : Memory) (base len a : Nat) :
    Memory.read (m.splice base len image) a
      = if base ≤ a ∧ a < base + len then Memory.read image (a - base) else Memory.read m a := by
  have hmid : ∀ (l : Memory), base ≤ a →
      Memory.read (l.map fun c => (c.1 + base, c.2)) a = Memory.read l (a - base) := by
    intro l hb
    induction l with
    | nil => rfl
    | cons c cs ih =>
      rw [List.map_cons, Memory.read, Memory.read, ih]
      by_cases h : c.1 = a - base
      · rw [if_pos (by show c.1 + base = a; omega), if_pos h]
      · rw [if_neg (by show c.1 + base ≠ a; omega), if_neg h]
  unfold Memory.splice
  rw [Memory.read_append, Memory.read_append, Memory.read_filter m (fun x => decide (x < base)),
    Memory.read_filter m (fun x => decide (base + len ≤ x))]
  have hlow : (∃ c ∈ m.filter (fun c => c.1 < base), c.1 = a) → a < base := by
    rintro ⟨c, hc, rfl⟩; simpa using (List.mem_filter.mp hc).2
  have hin : (∃ c ∈ (image.filter fun c => c.1 < len).map (fun c => (c.1 + base, c.2)), c.1 = a)
      → base ≤ a ∧ a < base + len := by
    rintro ⟨c, hc, rfl⟩
    obtain ⟨d, hd, rfl⟩ := List.mem_map.mp hc
    have := (List.mem_filter.mp hd).2
    simp only [decide_eq_true_eq] at this
    show base ≤ d.1 + base ∧ d.1 + base < base + len
    omega
  by_cases hr : base ≤ a ∧ a < base + len
  · rw [if_pos hr]
    have hnl : ¬ ∃ c ∈ m.filter (fun c => c.1 < base), c.1 = a := fun h => by have := hlow h; omega
    have hread : Memory.read ((image.filter fun c => c.1 < len).map fun c => (c.1 + base, c.2)) a
        = Memory.read image (a - base) := by
      rw [hmid _ hr.1, Memory.read_filter image (fun x => decide (x < len)),
        if_pos (by simp only [decide_eq_true_eq]; omega)]
    by_cases hex : ∃ c ∈ (image.filter fun c => c.1 < len).map (fun c => (c.1 + base, c.2)), c.1 = a
    · rw [if_pos (by obtain ⟨c, hc, h⟩ := hex; exact ⟨c, List.mem_append_right _ hc, h⟩), if_neg hnl, hread]
    · rw [if_neg, if_neg (by simp only [decide_eq_true_eq]; omega)]
      · rw [← hread]
        exact (Memory.read_of_notMem fun c hc h => hex ⟨c, hc, h⟩).symm
      · rintro ⟨c, hc, h⟩
        rcases List.mem_append.mp hc with hc | hc
        · exact hnl ⟨c, hc, h⟩
        · exact hex ⟨c, hc, h⟩
  · rw [if_neg hr]
    by_cases hlt : a < base
    · by_cases hex : ∃ c ∈ m.filter (fun c => c.1 < base), c.1 = a
      · rw [if_pos (by obtain ⟨c, hc, h⟩ := hex; exact ⟨c, List.mem_append_left _ hc, h⟩), if_pos hex,
          if_pos (by simpa using hlt)]
      · rw [if_neg, if_neg (by simp only [decide_eq_true_eq]; omega)]
        · refine (Memory.read_of_notMem fun c hc h => hex ⟨c, ?_, h⟩).symm
          rw [List.mem_filter]
          exact ⟨hc, by simpa [h] using hlt⟩
        · rintro ⟨c, hc, h⟩
          rcases List.mem_append.mp hc with hc | hc
          · exact hex ⟨c, hc, h⟩
          · exact hr (hin ⟨c, hc, h⟩)
    · rw [if_neg, if_pos (by simp only [decide_eq_true_eq]; omega)]
      rintro ⟨c, hc, h⟩
      rcases List.mem_append.mp hc with hc | hc
      · exact hlt (hlow ⟨c, hc, h⟩)
      · exact hr (hin ⟨c, hc, h⟩)

/-- A page's bytes are canonical. -/
theorem Store.wf_image {st : Store} (h : Memory.wf st.cells) (p : Page) : Memory.wf (st.image p) :=
  Memory.wf_slice h _ _

/-- What a page's bytes read as. -/
theorem Store.read_image (st : Store) (p : Page) (i : Nat) (h : i < pageSize) :
    Memory.read (st.image p) i = Memory.read st.cells (pageBase p + i) := Memory.read_slice _ _ _ _ h

/-- The cells with a page replaced are canonical. -/
theorem Store.wf_setImage {st : Store} {image : Memory} (h : Memory.wf st.cells) (hi : Memory.wf image) (p : Page) :
    Memory.wf (st.setImage p image).cells := Memory.wf_splice h hi _ _

/-- A byte of a replaced page. -/
theorem Store.read_setImage (st : Store) (p : Page) (image : Memory) (i : Nat) (h : i < pageSize) :
    Memory.read (st.setImage p image).cells (pageBase p + i) = Memory.read image i := by
  unfold Store.setImage
  rw [Memory.read_splice, if_pos (by omega), Nat.add_sub_cancel_left]

/-- A byte of any other page. -/
theorem Store.read_setImage_of_ne (st : Store) {p q : Page} (hpq : q ≠ p) (image : Memory) (i : Nat) (h : i < pageSize) :
    Memory.read (st.setImage p image).cells (pageBase q + i) = Memory.read st.cells (pageBase q + i) := by
  have hne : q.val ≠ p.val := fun h => hpq (Fin.ext h)
  unfold Store.setImage
  rw [Memory.read_splice, if_neg]
  unfold pageBase pageSize at *
  omega

/-- The check written into an image keeps its form. -/
theorem wf_sealPage {image : Memory} (h : Memory.wf image) : Memory.wf (sealPage image) :=
  Memory.wf_write (Memory.wf_write h _ _) _ _

/-- A sealed image keeps every byte but the two of its check. -/
theorem read_sealPage {image : Memory} (h : Memory.wf image) {i : Nat} (h1 : i ≠ checkAt) (h2 : i ≠ checkAt + 1) :
    Memory.read (sealPage image) i = Memory.read image i := by
  unfold sealPage
  rw [Memory.read_write (Memory.wf_write h _ _), if_neg h2, Memory.read_write h, if_neg h1]

end Sys2Proof.Machine
end

