-- ==== Sys2Proof/Laws/Queues.lean ====
section
/-! SUPPORT. What the operations over the outbound queues, the held-note table and the change queue can do, one lemma each:
provers cite these in place of unfolding the operation. -/

namespace Sys2Proof.Machine

variable (s : State)

/-! ## Outbound ports -/

/-- A changed outbound port, and every other one. -/
theorem modifyOut_outs (p q : Port) (f : OutPort → OutPort) :
    (modifyOut p f s).link.outs[q] = if q = p then f s.link.outs[p] else s.link.outs[q] := by
  unfold modifyOut upd State.setLink
  by_cases h : q = p
  · subst h; simp
  · have : p.val ≠ q.val := fun e => h (Fin.ext e.symm)
    simp [h, this]

/-- The receivers are not of an outbound port. -/
theorem modifyOut_receivers (p : Port) (f : OutPort → OutPort) :
    (modifyOut p f s).link.receivers = s.link.receivers := rfl

/-- R15: an offer to a play queue places the frame at the tail below 28 frames, and counts a play drop otherwise. -/
theorem offerPlay_spec (p : Port) (q : Queued) :
    (s.link.outs[p].play.length < 28 ∧ offerPlay p q s = pushPlay p q s)
      ∨ (28 ≤ s.link.outs[p].play.length ∧ offerPlay p q s = countPlayDrop p s) := by
  unfold offerPlay playAdmits
  by_cases h : s.link.outs[p].play.length < Config.playAdmission
  · exact .inl ⟨h, if_pos (decide_eq_true h)⟩
  · exact .inr ⟨Nat.not_lt.mp h, if_neg (by simpa using h)⟩

/-- R13: an offer to a timing queue places the frame at the tail below 4 frames, and counts a timing slip otherwise. -/
theorem offerTiming_spec (p : Port) (f : Frame) :
    (s.link.outs[p].timing.length < 4
        ∧ offerTiming p f s
          = modifyOut p (fun o => { o with timing := o.timing ++ [{ frame := f, source := .tempo }] }) s)
      ∨ (4 ≤ s.link.outs[p].timing.length ∧ offerTiming p f s = countTimingSlip p s) := by
  unfold offerTiming
  by_cases h : s.link.outs[p].timing.length < Config.timingCapacity
  · exact .inl ⟨h, if_pos h⟩
  · exact .inr ⟨Nat.not_lt.mp h, if_neg h⟩

/-- R6, R16: a service frame passed on goes to the pass port's queue, or is counted, or is dropped without a pass port. -/
theorem passOn_spec (p : Port) (f : Frame) :
    (s.settings.inbound[p].pass = none ∧ passOn p f s = s)
      ∨ ∃ q, s.settings.inbound[p].pass = some q
        ∧ ((s.link.outs[q].service.length < 4 ∧ passOn p f s = pushService q { frame := f, source := .passedOn } s)
          ∨ (4 ≤ s.link.outs[q].service.length ∧ passOn p f s = countServiceOverrun p s)) := by
  unfold passOn serviceHasRoom
  cases hq : s.settings.inbound[p].pass with
  | none => exact .inl ⟨rfl, rfl⟩
  | some q =>
    refine .inr ⟨q, rfl, ?_⟩
    by_cases h : s.link.outs[q].service.length < Config.serviceCapacity
    · exact .inl ⟨h, if_pos (decide_eq_true h)⟩
    · exact .inr ⟨Nat.not_lt.mp h, if_neg (by simpa using h)⟩

/-! ## The held-note table -/

/-- R62, R63: the five things a layer can come to. -/
theorem offerLayer_spec (id : Ident) (h : Handling) (f : Frame) :
    (findEntry id s = none ∧ 128 ≤ s.held.table.length ∧ offerLayer id h f s = countHeldOverflow s)
      ∨ (findEntry id s = none ∧ s.held.table.length < 128 ∧ playAdmits id.dst.port s = true
        ∧ offerLayer id h f s = createEntry id h (pushPlay id.dst.port { frame := f, source := .zone } s))
      ∨ (∃ e, findEntry id s = some e ∧ playAdmits id.dst.port s = true
        ∧ offerLayer id h f s = restrikeEntry id h (pushPlay id.dst.port { frame := f, source := .zone } s))
      ∨ (playAdmits id.dst.port s = false ∧ (findEntry id s = none → s.held.table.length < 128)
        ∧ offerLayer id h f s = countPlayDrop id.dst.port s) := by
  unfold offerLayer Config.heldCapacity
  cases he : findEntry id s with
  | none =>
    by_cases hf : 128 ≤ s.held.table.length
    · exact .inl ⟨rfl, hf, if_pos hf⟩
    · cases hp : playAdmits id.dst.port s
      · refine .inr (.inr (.inr ⟨rfl, fun _ => by omega, ?_⟩))
        simp [hf]
      · refine .inr (.inl ⟨rfl, by omega, rfl, ?_⟩)
        simp [hf]
  | some e =>
    cases hp : playAdmits id.dst.port s
    · exact .inr (.inr (.inr ⟨rfl, by simp, by simp⟩))
    · exact .inr (.inr (.inl ⟨e, rfl, rfl, by simp⟩))

/-- R61: what making entries RELEASING leaves of the table and the release order. -/
theorem makeReleasing_held (which : Entry → Bool) (value : Entry → Option Nat) :
    (makeReleasing which value s).held
      = { s.held with
          table := s.held.table.map fun e => if which e then { e with state := .releasing, release := value e } else e
          releaseOrder := s.held.releaseOrder ++ (s.held.table.filter which).map (·.ident) } := rfl

/-- R66, R67: one turn of the drain: nothing when the play queue holds 32 frames or no release waits for the port;
otherwise the entry leaves, with its Release placed unless another entry names its destination. -/
theorem drainOne_spec (p : Port) :
    ((32 ≤ s.link.outs[p].play.length ∨ nextRelease p s = none) ∧ drainOne p s = s)
      ∨ ∃ id, s.link.outs[p].play.length < 32 ∧ nextRelease p s = some id
        ∧ ((findEntry id s = none ∧ drainOne p s = dropEntry id s)
          ∨ ∃ e, findEntry id s = some e
            ∧ ((destNamed id s = true ∧ drainOne p s = dropEntry id s)
              ∨ (destNamed id s = false
                ∧ drainOne p s
                  = pushPlay p { frame := entryRelease e s, source := .held } (dropEntry id s)))) := by
  unfold drainOne drainRuns Config.playCapacity
  by_cases hl : s.link.outs[p].play.length < 32
  · cases hn : nextRelease p s with
    | none => exact .inl ⟨.inr rfl, by simp⟩
    | some id =>
      refine .inr ⟨id, hl, rfl, ?_⟩
      have hl' : s.link.outs[p.val].play.length < 32 := hl
      cases he : findEntry id s with
      | none => exact .inl ⟨rfl, by simp [hl', he]⟩
      | some e =>
        refine .inr ⟨e, rfl, ?_⟩
        cases hd : destNamed id s
        · exact .inr ⟨rfl, by simp [hl', he, hd]⟩
        · exact .inl ⟨rfl, by simp [hl', he, hd]⟩
  · have hl' : ¬ s.link.outs[p.val].play.length < 32 := hl
    exact .inl ⟨.inl (Nat.not_lt.mp hl), by simp [hl']⟩

/-! ## The change queue -/

/-- R120: a request that ends keeps the copies, the cursor and the queue. -/
theorem endRequest_change (o : ChangeOutcome) (x : Origin) :
    (endRequest o x s).change
      = { s.change with state := .idle, target := none, staged := none, outcome := o, origin := some x } := by
  unfold endRequest
  dsimp only
  split <;> rfl

/-- R118, R120: taking requests keeps the active copy, the cursor, the burst and the adjusted flag, and leaves the
controller IDLE with an empty queue, or FETCHING. -/
theorem takeAll_change (rs : List ChangeRequest) :
    let c := (takeAll rs s).change
    c.active = s.change.active ∧ c.cursorEntry = s.change.cursorEntry ∧ c.cursorScene = s.change.cursorScene
      ∧ c.cursorPage = s.change.cursorPage ∧ c.burstCursor = s.change.burstCursor
      ∧ c.selectPlaced = s.change.selectPlaced ∧ c.flushed = s.change.flushed ∧ c.adjusted = s.change.adjusted
      ∧ c.keepStale = s.change.keepStale ∧ ((c.state = .idle ∧ c.queue = []) ∨ c.state = .fetching)
      ∧ c.queue.length ≤ rs.length := by
  induction rs generalizing s with
  | nil => simp [takeAll, modifyChange]
  | cons r rs ih =>
    have hend (o : ChangeOutcome) := ih (endRequest o r.origin s)
    simp only [endRequest_change] at hend
    dsimp only
    unfold takeAll
    dsimp only
    repeat' split
    · obtain ⟨h1, h2, h3, h4, h5, h6, h7, h8, h9, h10, h11⟩ := hend _
      exact ⟨h1, h2, h3, h4, h5, h6, h7, h8, h9, h10, Nat.le_succ_of_le h11⟩
    · obtain ⟨h1, h2, h3, h4, h5, h6, h7, h8, h9, h10, h11⟩ := hend .noSet
      exact ⟨h1, h2, h3, h4, h5, h6, h7, h8, h9, h10, Nat.le_succ_of_le h11⟩
    · obtain ⟨h1, h2, h3, h4, h5, h6, h7, h8, h9, h10, h11⟩ := hend .empty
      exact ⟨h1, h2, h3, h4, h5, h6, h7, h8, h9, h10, Nat.le_succ_of_le h11⟩
    · simp [beginFetch, modifyChange, modifyStore]

end Sys2Proof.Machine
end

