-- ==== Sys2Proof/Laws/Service.lean ====
section
/-! SUPPORT. What a request row does, said once: taken with room for its reply, dropped for want of room, or left
waiting. Statements about requests cite these and unfold neither `serve` nor `takeRequest`. -/

namespace Sys2Proof.Machine

/-- A request taken from a port with room: the operation, then its answer as the reply. -/
theorem takeRequest_answered {p : Port} {unit tag code : Byte} {op : State → State × Answer} {s : State}
    (hroom : s.link.outs[p].service.length < 4) :
    takeRequest p unit tag code op s = answered { port := p, unit := unit, tag := tag } code (op s) := by
  have hr : serviceHasRoom p s = true := decide_eq_true hroom
  unfold takeRequest
  rw [if_pos hr]
  simp [answered, replySource, restartCode, replyFrame, pushService, modifyOut, modifyService, upd, State.setLink,
    State.setService, serviceTimeOf, pageReadCode, Config.pageReadTime, Config.serviceTime]
  exact ⟨by congr, by congr⟩

/-- An answer that is not an accepted RESTART's is a plain reply. -/
theorem answered_eq_replied {h : Head} {code : Byte} {r : State × Answer}
    (hsrc : code ≠ restartCode ∨ r.2.outcome ≠ .ok) : answered h code r = replied h code r.2.outcome r.2.data r.1 := by
  have hs : ¬(code = 0x4F#8 ∧ r.2.outcome = .ok) := fun hc => hsrc.elim (fun hn => hn hc.1) fun hn => hn hc.2
  simp only [answered, replied, if_neg hs]

/-- A request taken from a port with room: the operation, then the reply. -/
theorem takeRequest_of_room {p : Port} {unit tag code : Byte} {op : State → State × Answer} {s : State}
    (hroom : s.link.outs[p].service.length < 4) (hsrc : code ≠ restartCode ∨ (op s).2.outcome ≠ .ok) :
    takeRequest p unit tag code op s
      = replied { port := p, unit := unit, tag := tag } code (op s).2.outcome (op s).2.data (op s).1 := by
  rw [takeRequest_answered hroom, answered_eq_replied hsrc]

/-- A request taken from a port whose service queue is full is dropped and counted. -/
theorem takeRequest_of_full {p : Port} {unit tag code : Byte} {op : State → State × Answer} {s : State}
    (hfull : 4 ≤ s.link.outs[p].service.length) :
    takeRequest p unit tag code op s = modifyService (fun u => { u with pointer := p }) (countServiceOverrun p s) := by
  have hr : serviceHasRoom p s = false := decide_eq_false (Nat.not_lt.mpr hfull)
  unfold takeRequest
  rw [hr]
  rfl

/-- The unit is free exactly when no service time runs and no restart is on its way. -/
theorem serviceFree_iff (s : State) : s.serviceFree = true ↔ s.service.busy = none ∧ s.service.restart = .none := by
  simp [State.serviceFree, beq_iff_eq]

/-- A free unit takes a request of this port next exactly when none waits that is considered before it. -/
theorem takenNext_iff (p : Port) (s : State) : takenNext p s.service = true ↔ NextTaken p s := by
  simp [takenNext, NextTaken]

/-- A request that stays here is heard. -/
theorem hears_of_stays {h : Head} {s : State} (hs : StaysHere h s) : s.hears h.unit = true := by
  rcases hs with hs | hs <;> simp [State.hears, hs]

/-- A request that stays here is passed on nowhere. -/
theorem passRequest_of_stays {h : Head} {s : State} (hs : StaysHere h s) (w : Waiting) (hw : w.unit = h.unit) :
    passRequest h.port w s = s := by
  unfold passRequest
  split
  · rfl
  · rename_i hn
    rcases hs with hs | hs
    · exact absurd (hw ▸ hs) hn
    · unfold passOn
      rw [hs.2]

/-- A request that is heard, that a free unit takes next, is passed on if it is for all parts and then taken. -/
theorem serveCode_of_next {h : Head} {code : Byte} {params : List Byte} {op : State → State × Answer} {s : State}
    (hh : s.hears h.unit = true) (hb : s.service.busy = none) (hres : s.service.restart = .none)
    (hturn : NextTaken h.port s) :
    serveCode h code params op s
      = takeRequest h.port h.unit h.tag code op
        (passRequest h.port { unit := h.unit, tag := h.tag, code := code, params := params } s) := by
  have hf : s.serviceFree = true := (serviceFree_iff s).mpr ⟨hb, hres⟩
  have ht : takenNext h.port s.service = true := (takenNext_iff h.port s).mpr hturn
  unfold serveCode
  rw [if_pos (by rw [hh, hf, ht]; rfl)]

/-- A request that is not heard, that is not taken next, or whose unit is not free, is classified and no more. -/
theorem serveCode_of_waiting {h : Head} {code : Byte} {params : List Byte} {op : State → State × Answer} {s : State}
    (hw : s.hears h.unit = false ∨ s.service.busy ≠ none ∨ s.service.restart ≠ .none ∨ ¬NextTaken h.port s) :
    serveCode h code params op s
      = classifyRequest h.port { unit := h.unit, tag := h.tag, code := code, params := params } s := by
  have hn : ¬(s.hears h.unit && s.serviceFree && takenNext h.port s.service) = true := by
    rw [Bool.and_eq_true, Bool.and_eq_true, serviceFree_iff]
    rintro ⟨⟨hh, hb, hres⟩, ht⟩
    rcases hw with hw | hw | hw | hw
    · exact Bool.noConfusion (hh.symm.trans hw)
    · exact hw hb
    · exact hw hres
    · exact hw ((takenNext_iff h.port s).mp ht)
  unfold serveCode
  rw [if_neg hn]

/-- A ready request is the operation and its answer. -/
theorem serveCode_of_ready {h : Head} {code : Byte} {params : List Byte} {op : State → State × Answer} {s : State}
    (hr : Ready h s) : serveCode h code params op s = answered h code (op s) := by
  obtain ⟨-, hb, hres, hroom, hturn, hs⟩ := hr
  rw [serveCode_of_next (hears_of_stays hs) hb hres hturn, passRequest_of_stays hs _ rfl, takeRequest_answered hroom]

/-- A request row of the catalogue, ready. -/
theorem serve_of_ready {h : Head} {r : Request} {op : State → State × Answer} {s : State} (hr : Ready h s)
    (hf : r.formOk = true) (hsrc : r.code ≠ restartCode ∨ (op s).2.outcome ≠ .ok) :
    powered (serve h r op) s = .next (replied h r.code (op s).2.outcome (op s).2.data (op s).1) := by
  unfold powered serve checkedForm
  rw [if_pos hr.1, if_pos hf, serveCode_of_ready hr, answered_eq_replied hsrc]

/-- A request row of the catalogue that does not fit its form, ready. -/
theorem serve_of_malformed {h : Head} {r : Request} {op : State → State × Answer} {s : State} (hr : Ready h s)
    (hf : r.formOk = false) : powered (serve h r op) s = .next (replied h r.code .malformed [] s) := by
  unfold powered serve checkedForm
  rw [if_pos hr.1, if_neg (by simp [hf]), serveCode_of_ready hr, answered_eq_replied (.inr (by simp [refuse, bare]))]
  rfl

/-- A request that stays here, that a free unit takes, and whose reply queue is full. -/
theorem serve_of_full {h : Head} {r : Request} {op : State → State × Answer} {s : State} (hp : s.power = true)
    (hb : s.service.busy = none) (hres : s.service.restart = .none) (hturn : NextTaken h.port s) (hs : StaysHere h s)
    (hfull : 4 ≤ s.link.outs[h.port].service.length) :
    powered (serve h r op) s
      = .next (modifyService (fun u => { u with pointer := h.port }) (countServiceOverrun h.port s)) := by
  unfold powered serve
  rw [if_pos hp, serveCode_of_next (hears_of_stays hs) hb hres hturn, passRequest_of_stays hs _ rfl,
    takeRequest_of_full hfull]

/-- A request that is not taken next, or whose unit is not free, is classified: it waits in its port's place, or is
counted, and is passed on if it is for all parts. -/
theorem serve_of_waiting {h : Head} {r : Request} {op : State → State × Answer} {s : State} (hp : s.power = true)
    (hw : s.hears h.unit = false ∨ s.service.busy ≠ none ∨ s.service.restart ≠ .none ∨ ¬NextTaken h.port s) :
    powered (serve h r op) s
      = .next
        (classifyRequest h.port { unit := h.unit, tag := h.tag, code := r.code, params := r.params } s) := by
  unfold powered serve
  rw [if_pos hp, serveCode_of_waiting hw]

/-- A refusal changes nothing but the reply. -/
@[simp] theorem refuse_fst (o : Outcome) (s : State) : (refuse o s).1 = s := rfl
@[simp] theorem refuse_snd (o : Outcome) (s : State) : (refuse o s).2 = { outcome := o, data := [] } := rfl

end Sys2Proof.Machine
end

