-- ==== Sys2Proof/Tests/Slice0.lean ====
section
/-! SUPPORT. Tests: the terms that well-formedness refuses, the manual's worked examples, and for every statement with
hypotheses a state and operands that meet them, clause by clause. -/

namespace Sys2Proof.Tests

-- One theorem at a time: the tests in parallel would hold a thread, and its stack, each.
set_option Elab.async false

open Sys2Proof Sys2Proof.Machine

/-! ## Well-formedness refuses -/

theorem test_wf_lane_zero : (Frame.strikeLong 0#8 60#8 800#16).ok = false := by decide
theorem test_wf_lane_above : (Frame.control 33#8 1#8 0#16).ok = false := by decide
theorem test_wf_key_above : (Frame.strikeShort 1#8 128#8 90#8).ok = false := by decide
theorem test_wf_release_key_above : (Frame.releaseLong 1#8 128#8 none).ok = false := by decide
theorem test_wf_release_short_lane : (Frame.releaseShort 33#8 0#8 none).ok = false := by decide
theorem test_wf_select_lane : (Frame.soundSelect 0#8 0#16 0#8).ok = false := by decide
theorem test_wf_beat_zero : (Frame.transport 1#8 1#16 0#8).ok = false := by decide
theorem test_wf_beat_above : (Frame.transport 1#8 1#16 17#8).ok = false := by decide
theorem test_wf_feed_above : (Frame.click 9#8 1#8 1#16 1#8).ok = false := by decide
theorem test_wf_request_too_long : (Frame.request 0#8 0#8 1#8 (List.replicate 59 0#8)).ok = false := by decide
theorem test_wf_reply_too_long : (Frame.reply 0#8 0#8 1#8 0#8 (List.replicate 58 0#8)).ok = false := by decide
theorem test_wf_write_setting_no_value : (Request.writeSetting 1#8 1#8 1#8 []).formOk = false := by decide
theorem test_wf_write_curve_29_points : (Request.writeCurve 1#8 0#8 (List.replicate 29 0#16)).formOk = false := by
  decide
theorem test_wf_buffer_write_57_bytes : (Request.bufferWrite 0#16 (List.replicate 57 0#8)).formOk = false := by decide
theorem test_wf_set_list_66_pages : (Request.writeSetList (List.replicate 66 1#7)).formOk = false := by decide
theorem test_wf_control_of_sustain : (Instr.control 0 0 8#8 0#16).wf = false := by decide
theorem test_wf_transport_beat : (Instr.transport 0 1#8 1#16 17#8).wf = false := by decide
theorem test_wf_thru_service_frame : (Instr.thruFrame 0 (.request 0#8 0#8 1#8 [])).wf = false := by decide
theorem test_wf_service_request : (Instr.serviceRequest 0 0#8 0#8 1#8 (List.replicate 59 0#8)).wf = false := by decide
theorem test_wf_service_reply : (Instr.serviceReply 0 0#8 0#8 1#8 0#8 (List.replicate 58 0#8)).wf = false := by decide
theorem test_wf_deviation_address : (Instr.commitEnd [(4096, 0#8)]).wf = false := by decide
theorem test_wf_clear_deviation : (Instr.clearEnd [(4096, 0#8)]).wf = false := by decide
theorem test_wf_torn_address : (Instr.lossOfPower [(4096, 0#8)]).wf = false := by decide

/-! ## Frames (spec 11, 11.1 and 11.2) -/

/-- The check byte example of 11.1. -/
theorem test_frame_strike_long :
    parseFrame [7#8, 0x10#8, 1#8, 60#8, 0x03#8, 0x20#8, 0x89#8] = some (.strikeLong 1#8 60#8 800#16) := by decide
theorem test_frame_strike_long_bytes :
    (Frame.strikeLong 1#8 60#8 800#16).bytes = [7#8, 0x10#8, 1#8, 60#8, 0x03#8, 0x20#8, 0x89#8] := by decide
/-- 3 + 0x20 = 35, and 256 − 35 = 221. -/
theorem test_frame_beat_tick : parseFrame [3#8, 0x20#8, 221#8] = some .beatTick := by decide
/-- 3 + 0x23 = 38, and 256 − 38 = 218. -/
theorem test_frame_port_silence : Frame.portSilence.bytes = [3#8, 0x23#8, 218#8] := by decide
/-- A Release Long without value has L = 5: 5 + 0x12 + 2 + 64 = 89, and 256 − 89 = 167. -/
theorem test_frame_release_without_value :
    parseFrame [5#8, 0x12#8, 2#8, 64#8, 167#8] = some (.releaseLong 2#8 64#8 none) := by decide
/-- A check that is one off is refused. -/
theorem test_frame_bad_check : parseFrame [3#8, 0x20#8, 220#8] = none := by decide
/-- A length that the kind does not allow is refused: 4 + 0x20 = 36, and 256 − 36 = 220. -/
theorem test_frame_bad_length : parseFrame [4#8, 0x20#8, 0#8, 220#8] = none := by decide
/-- CLICK, code 0x43, action 1. -/
theorem test_request_click : parseRequest 0x43#8 [1#8] = some (.click 1#8) := by decide
/-- Pages 1 and 64 in 7 bits each: 0000001 1000000 and two filler bits are 0x03 0x00. -/
theorem test_request_set_list : parseRequest 0x21#8 [2#8, 0x03#8, 0x00#8] = some (.writeSetList [1#7, 64#7]) := by
  decide
theorem test_request_unknown : parseRequest 0x48#8 [] = none := by decide
theorem test_no_word_spells_a_command : decodeTableWord 8 0 = none := by decide

/-! ## Strike arithmetic (spec 03, 3.9) and the key stage (spec 02, 2.10) -/

/-- A zone with its fields at plain values. -/
def zone : Zone :=
  { sourcePort := 1#8, sourceLane := 1#8, keyLow := 0#8, keyHigh := 127#8, strikeLow := 1#16, strikeHigh := 1023#16,
    destPort := 2#8, destLane := 1#8, transpose := 0#8, edge := 0#8, sustain := 0#8, controls := 1#8,
    enabledStored := 1#8, curve := 0#8, gain := 64#8, offset := 0#16, enabled := true, repaired := false }

/-- Curves with points i and i + 1 of a partition set. -/
def curvesWith (n : Fin 15) (i : Nat) (p q : Nat) : Vector (Vector Nat 129) 15 :=
  upd straightCurves n fun v => writePoints v i [p, q]

theorem test_expand_short_100 : expandStrike .replicate (.short 100#8) = 806 := by decide
theorem test_expand_short_127_zero : expandStrike .zero (.short 127#8) = 1016 := by decide
theorem test_expand_long_0 : expandStrike .zero (.long 0#16) = 1 := by decide
theorem test_curved_scaled :
    shapeStrike (curvesWith 2 100 700 716) { zone with curve := 3#8, gain := 80#8, offset := 0xFFEC#16 } 806 = 870 := by
  decide +kernel
theorem test_curved_scaled_short : outputStrike .short 870 = 108 := by decide
theorem test_top_limit : clampStage (gainStage 1023 255 511) = 1023 := by decide
theorem test_bottom_limit : clampStage (gainStage 1 64 (-100)) = 1 := by decide
theorem test_output_short_raised : outputStrike .short 1 = 1 := by decide
theorem test_falling_curve : shapeStrike (curvesWith 6 50 600 587) { zone with curve := 7#8 } 403 = 596 := by
  decide +kernel
theorem test_fixed_strike : shapeStrike straightCurves { zone with gain := 0#8, offset := 400#16 } 77 = 400 := by
  decide +kernel
theorem test_straight_top : curveStage straightCurves 1 1023 = 1022 := by decide +kernel
theorem test_release_short_40 : expandRelease .replicate (.short (some 40#8)) = some 322 := by decide
theorem test_release_sent_40 :
    releaseFrame .short 0 64 (some 322) = .releaseShort 1#8 64#8 (some 40#8) := by decide
theorem test_release_zero_not_raised : releaseFrame .short 0 64 (some 5) = .releaseShort 1#8 64#8 (some 0#8) := by decide
theorem test_fold_below : keyStage { zone with transpose := 0xF4#8, edge := 1#8 } 5 = some 5 := by decide
theorem test_drop_above : keyStage { zone with transpose := 12#8 } 120 = none := by decide

/-! ## Tempo (spec 05) -/

/-- Two taps 480,000 µs apart set 12500 (5.8). -/
theorem test_two_taps : tapTempo 0 1 480000 = 12500 := by decide
theorem test_three_taps : tapTempo 0 2 962000 = 12474 := by decide
theorem test_four_taps : addTap 1920000 [0, 480000, 962000, 1441000] = [480000, 962000, 1441000, 1920000] := by decide
theorem test_tap_gap : addTap 4100000 [480000, 962000, 1441000, 1920000] = [4100000] := by decide
/-- At T = 12000 a sub-tick lasts 8,333 units, the third 8,334 (the note to R81). -/
theorem test_third_sub_tick :
    (stepAccumulator { State.reset.tempo with accumulator := 8000 }).units = 8334 := by decide +kernel

/-! ## States for the witnesses -/

/-- A request that came in on IN1. -/
def hd : Head := { port := 0, unit := 0#8, tag := 7#8 }

/-- The part after power-up. -/
def on : State := State.reset

/-- IN1 with this inbound record. -/
def inRec (r : InboundRecord) (s : State) : State :=
  modifySettings (fun t => { t with inbound := upd t.inbound 0 fun _ => r }) s

/-- The active scene holds these zones. -/
def zones (zs : List Zone) (s : State) : State := modifyBlock (fun b => { b with zones := zs }) s

/-- `n` frames in the play queue of OUT2. -/
def playFill (n : Nat) (s : State) : State :=
  modifyOut 1 (fun o => { o with play := List.replicate n { frame := .beatTick, source := .thru } }) s

/-- The service mute of OUT2 on. -/
def mute2 (s : State) : State := modifyOut 1 (fun o => { o with serviceMute := true }) s

/-- A source and destination triple of key `k`, from IN1 lane 1 to OUT2 lane 1. -/
def ident (k : Key) : Ident := { src := { port := 0, lane := 0, key := k }, dst := { port := 1, lane := 0, key := k } }

/-- An entry of key `k` in a state. -/
def entry (k : Key) (st : NoteState) : Entry := { ident := ident k, handling := .hold, state := st, release := none }

/-- The held-note table holds these entries. -/
def table (es : List Entry) (s : State) : State := s.setHeld { s.held with table := es }

/-- A RELEASING entry of key 60, first in release order. -/
def releasing60 : State := on.setHeld { on.held with table := [entry 60 .releasing], releaseOrder := [ident 60] }

/-- The sustain flag of IN1 lane 1 down. -/
def lane1Down (s : State) : State := modifySustain 0 0 (fun r => { r with down := true }) s

/-- The clock in this state. -/
def clockIn (c : ClockState) (s : State) : State := modifyTempo (fun t => { t with clock := c }) s

/-- The last sub-tick of a beat. -/
def lastTick (s : State) : State := modifyTempo (fun t => { t with subTick := 959 }) s

/-- The clock RUNNING. -/
def running : State := clockIn .running on

/-- Tick out on for OUT1. -/
def ticking (s : State) : State :=
  modifySettings (fun t => { t with outbound := upd t.outbound 0 fun r => { r with tickOut := true } }) s

/-- The controller in this state. -/
def ctl (c : ControllerState) (s : State) : State := modifyChange (fun x => { x with state := c }) s

/-- The set list of pages 3 and 4. -/
def list34 (s : State) : State := modifySettings (fun t => { t with setList := [2, 3] }) s

/-- The active copy is scene 1 of 2 of page 3, and the cursor stands there. -/
def inSong (s : State) : State :=
  modifyChange (fun c =>
    { c with
      active := { c.active with header := { c.active.header with sceneCount := 2 }, source := some (2, 1) }
      cursorPage := some 2 }) s

/-- A change to scene 2 of page 3, WAITING, with its copy staged. -/
def target : Target := { entry := 1, scene := 2, song := false, origin := .service, page := 2 }
def waiting (s : State) : State :=
  modifyChange (fun c => { c with state := .waiting, target := some target, staged := some emptyScene }) s

/-- The change point of the active scene. -/
def changePoint (cp : ChangePoint) (s : State) : State := modifyBlock (fun b => { b with changePoint := cp }) s

/-- A fetch of scene 2 of page 3 from the cells, for that target. -/
def fetch3 : Fetch := { page := 2, scene := 2, source := .cells }
def fetching3 (s : State) : State :=
  modifyStore (fun st => { st with fetch := some fetch3 })
    (modifyChange (fun c => { c with state := .fetching, target := some target }) s)

/-- Page 3 with this class and scene count. -/
def page3 (c : PageClass) (count : Byte) (s : State) : State :=
  modifyStore (fun st => { st with classes := upd st.classes 2 fun _ => c, cells := [(2 * 4096 + 17, count)] }) s

/-- This operation in flight. -/
def oper (k : OperationKind) (s : State) : State :=
  modifyStore (fun st => { st with operation := some { kind := k, begun := true, suspended := false } }) s

/-- The lock flag clear. -/
def unlocked (s : State) : State := modifyStore (fun st => { st with lock := false }) s

/-- Page 3 unprotected. -/
def unprot3 (s : State) : State := modifyStore (fun st => { st with protect := upd st.protect 2 fun _ => false }) s

/-- The pedal PED1 with this record and this contact. -/
def pedal1 (r : PedalRecord) (d : Debouncer) (s : State) : State :=
  setPedalRecord 0 r (modifyContact 0 (fun _ => d) s)

/-- A burst entry for OUT2 lane 1, with a level. -/
def burst : BurstEntry := { port := 2#8, lane := 1#8, bank := 0#16, sound := 5#8, level := 127#8, skip := false }

/-- SWITCHING, with one burst entry to place. -/
def switching1 : State := ctl .switching (modifyBlock (fun b => { b with bursts := [burst] }) on)

/-- `n` frames in the burst queue of OUT2. -/
def burstFill (n : Nat) (s : State) : State :=
  modifyOut 1 (fun o => { o with burst := List.replicate n { frame := .beatTick, source := .burst } }) s

/-- `n` frames in the service queue of OUT1. -/
def serviceFill (n : Nat) (s : State) : State :=
  modifyOut 0 (fun o => { o with service := List.replicate n { frame := .beatTick, source := .reply } }) s

/-- A capture of scene 8 of page 3. -/
def capture : KeepCapture := { page := 2, scene := 8, block := emptyScene.block, slots := [] }

/-- A waiting request IDENTIFY. -/
def waiter : Waiting := { unit := 0#8, tag := 1#8, code := 1#8, params := [] }

/-! ## The application example of spec 02, 2.10 -/

/-- What a command leaves. -/
def after (c : Instr) (s : State) : State :=
  match exec c s with
  | .next t => t
  | _ => s

/-- The four zones of the example, IN1 with REPLICATE, OUT2 with form SHORT. -/
def rig : State :=
  inRec { InboundRecord.default with fill := .replicate }
    (modifySettings (fun t => { t with outbound := upd t.outbound 1 fun r => { r with form := .short } })
      (zones
        [{ zone with keyHigh := 59#8, transpose := 0xF4#8, edge := 1#8 },
         { zone with sourceLane := 0#8, keyLow := 60#8, strikeHigh := 599#16, destPort := 3#8, controls := 0#8 },
         { zone with sourceLane := 0#8, keyLow := 60#8, strikeLow := 600#16, destPort := 3#8, destLane := 2#8,
                     controls := 0#8 },
         { zone with destPort := 4#8, destLane := 5#8, transpose := 12#8, sustain := 1#8 }] on))

/-- The frames waiting in the play queue of a port. -/
def plays (p : Port) (s : State) : List Frame := s.link.outs[p].play.map (·.frame)

theorem test_event_a :
    let t := after (.strike 0 0 64 (.short 90#8)) rig
    plays 2 t = [.strikeLong 2#8 64#8 725#16] ∧ plays 3 t = [.strikeLong 5#8 76#8 725#16]
      ∧ t.held.table.map (·.handling) = [.hold, .forward] := by decide +kernel

theorem test_event_b :
    let t := after (.strike 0 0 120 (.short 40#8)) rig
    plays 2 t = [.strikeLong 1#8 120#8 322#16] ∧ plays 3 t = [] ∧ t.held.table.length = 1 := by decide +kernel

theorem test_event_c :
    let t := after (.strike 0 0 5 (.short 127#8)) rig
    plays 1 t = [.strikeShort 1#8 5#8 127#8] ∧ plays 3 t = [.strikeLong 5#8 17#8 1023#16] := by decide +kernel

theorem test_event_d :
    let t := after (.control 0 0 1#8 5000#16) rig
    plays 1 t = [.control 1#8 1#8 5000#16] ∧ plays 2 t = [] ∧ plays 3 t = [.control 5#8 1#8 5000#16] := by
  decide +kernel

/-- Events a, e and g: the Release for OUT3 is suppressed while lane 2 holds the note, that for OUT4 is sent. -/
theorem test_event_g :
    let t := after (.strike 0 1 64 (.short 90#8)) (after (.strike 0 0 64 (.short 90#8)) rig)
    let u := after (.releaseDrain 3) (after (.releaseDrain 2) (after (.release 0 0 64 (.short none)) t))
    plays 2 u = [.strikeLong 2#8 64#8 725#16, .strikeLong 2#8 64#8 725#16]
      ∧ plays 3 u = [.strikeLong 5#8 76#8 725#16, .releaseLong 5#8 76#8 none] ∧ u.held.table.length = 1 := by
  decide +kernel

/-- Event f, and the note after event h: +24 is set, +60 gives RANGE (code 7). -/
theorem test_event_f :
    (after (.adjustZoneTranspose hd 4#8 24#16) rig).change.active.block.zones.map (·.transpose.toNat) = [244, 0, 0, 24]
      ∧ ((after (.adjustZoneTranspose hd 4#8 60#16) rig).link.outs[(0 : Port)].service.map (·.frame))
        = [.reply 0#8 7#8 0x41#8 7#8 []] := by decide +kernel

/-- A LOCK right after power-up replies NO_CHANGE (3), an UNLOCK under an UNSETTLED switch LOCKED (6). -/
theorem test_lock_after_power_up :
    (after (.lock hd) on).link.outs[(0 : Port)].service.map (·.frame) = [.reply 0#8 7#8 0x34#8 3#8 []]
      ∧ (after (.unlock hd) on).link.outs[(0 : Port)].service.map (·.frame) = [.reply 0#8 7#8 0x35#8 6#8 []] := by
  decide +kernel

/-- R178: IDENTIFY after power-up gives vendor 0x5A, part 88, revision 1, unit 0 and 66 pages. -/
theorem test_identify :
    (after (.identify hd) on).link.outs[(0 : Port)].service.map (·.frame)
      = [.reply 0#8 7#8 1#8 0#8 [0x5A#8, 88#8, 1#8, 0#8, 66#8]] := by decide +kernel

/-- The bytes of the check byte example, received one after the other, are one frame for the zone engine: nothing is
rejected, and the strike of 800 is routed by the zone of lane 1. -/
theorem test_characters :
    let cs : List Instr := [7#8, 0x10#8, 1#8, 60#8, 0x03#8, 0x20#8, 0x89#8].map fun c => .character 0 c true
    let t := cs.foldl (fun s c => after c s) (after (.idleResync 0) (zones [zone] on))
    plays 1 t = [.strikeLong 1#8 60#8 800#16] ∧ t.status.rejected[(0 : Port)] = 0
      ∧ t.link.receivers[(0 : Port)] = .ready := by decide +kernel

/-! ## Every statement's hypotheses are met -/

theorem witness_StepRunsFrontCommand :
    (on.setPending [.burstPlace]).pending = [Instr.burstPlace] ∧ on.pending = [] := by decide

theorem witness_FramesRoundTrip :
    (Frame.strikeLong 32#8 127#8 0xFFFF#16).ok = true ∧ (Frame.releaseLong 1#8 0#8 none).ok = true
      ∧ (Frame.transport 1#8 1#16 16#8).ok = true ∧ (Frame.click 8#8 3#8 1#16 1#8).ok = true
      ∧ (Frame.request 15#8 0#8 1#8 (List.replicate 58 0#8)).ok = true
      ∧ (Frame.reply 0#8 0#8 1#8 0#8 (List.replicate 57 0#8)).ok = true := by decide

theorem witness_RequestsRoundTrip :
    (Request.writeSetList (List.replicate 65 64#7)).formOk = true
      ∧ (Request.writeSetting 1#8 1#8 1#8 (List.replicate 27 0#16)).formOk = true
      ∧ (Request.writeCurve 1#8 0#8 (List.replicate 28 1023#16)).formOk = true
      ∧ (Request.bufferWrite 4095#16 (List.replicate 56 0#8)).formOk = true ∧ Request.restart.formOk = true := by decide

theorem witness_CharactersSpellFrame :
    (Frame.strikeLong 1#8 60#8 800#16).ok = true ∧ (setReceiver 0 .ready on).power = true
      ∧ (setReceiver 0 .ready on).link.receivers[(0 : Port)] = .ready := by decide +kernel

theorem witness_ReceiverStates :
    on.power = true ∧ on.link.receivers[(0 : Port)] = .sync
      ∧ (setReceiver 0 .ready on).link.receivers[(0 : Port)] = .ready
      ∧ (setReceiver 0 (.receiving 3 [3#8] false) on).link.receivers[(0 : Port)] = .receiving 3 [3#8] false
      ∧ (setReceiver 0 (.receiving 3 [3#8, 0x20#8] true) on).link.receivers[(0 : Port)]
        = .receiving 3 [3#8, 0x20#8] true
      ∧ [3#8].length + 1 < 3 ∧ 3 ≤ [3#8, 0x20#8].length + 1 ∧ parseFrame ([3#8, 0x20#8] ++ [0#8]) = none := by
  decide +kernel

/-- R4: a Beat Tick (3, 0x20, 221) with a character error at its second byte: nothing is counted before its third, which
rejects it once and sends the receiver to SYNC; cut short before that, it sends the receiver to READY. -/
theorem test_character_error :
    let t := after (.character 0 0x20#8 false) (after (.character 0 3#8 true) (setReceiver 0 .ready on))
    let u := after (.character 0 221#8 true) t
    let v := after (.frameCutShort 0) t
    t.status.rejected[(0 : Port)] = 0 ∧ t.status.link = false ∧ u.status.rejected[(0 : Port)] = 1
      ∧ u.status.link = true ∧ u.link.receivers[(0 : Port)] = .sync ∧ v.status.rejected[(0 : Port)] = 1
      ∧ v.link.receivers[(0 : Port)] = .ready := by decide +kernel

theorem witness_OffAndThruPorts :
    on.power = true ∧ Frame.beatTick.isService = false
      ∧ (inRec { InboundRecord.default with role := .off } on).settings.inbound[(0 : Port)].role = .off
      ∧ (inRec { InboundRecord.default with role := .thru } on).settings.inbound[(0 : Port)].role = .thru
      ∧ (inRec { InboundRecord.default with role := .thru } on).settings.inbound[(0 : Port)].pass = none
      ∧ (inRec { InboundRecord.default with role := .thru, pass := some 1 } (playFill 28 on)).settings.inbound[(0 : Port)].role
        = .thru
      ∧ (inRec { InboundRecord.default with role := .thru, pass := some 1 } (playFill 28 on)).settings.inbound[(0 : Port)].pass
        = some 1 := by decide +kernel

theorem witness_ServiceFramesClassified :
    on.power = true ∧ (0#8).toNat = on.settings.unitNumber ∧ (15#8).toNat ≠ on.settings.unitNumber
      ∧ (1#8).toNat ≠ on.settings.unitNumber ∧ 1#8 ≠ 15#8 := by decide +kernel

theorem witness_LayersOfAStrike :
    zone ∈ [zone] ∧ zoneMatches { port := 0, lane := 0, key := 60 } 1023 zone = true
      ∧ layerDest zone 60 = some { port := 1, lane := 0, key := 60 }
      ∧ ((127 : Key).val : Int) + (48#8).toInt = 175 ∧ ((0 : Key).val : Int) + (0xD0#8).toInt = -48
      ∧ ((127 : Key).val : Int) + (0#8).toInt = 127 ∧ { zone with edge := 1#8 }.edge ≠ 0#8 ∧ zone.edge = 0#8 := by
  decide

/-- R31: two zones with one destination give the layer of the first. -/
theorem test_first_zone_wins :
    layersOf [zone, { zone with curve := 3#8 }] { port := 0, lane := 0, key := 60 } 800
      = [(zone, { port := 1, lane := 0, key := 60 })] := by decide

theorem witness_StrikeValues :
    straightCurves[(14 : Fin 15)][(127 : Fin 129)] ≤ straightCurves[(14 : Fin 15)][(128 : Fin 129)]
      ∧ (curvesWith 6 50 600 587)[(6 : Fin 15)][(51 : Fin 129)]
        < (curvesWith 6 50 600 587)[(6 : Fin 15)][(50 : Fin 129)]
      ∧ expandRelease .replicate (.short (some 127#8)) = some 1023 := by decide +kernel

theorem witness_StrikeOfOneLayer :
    let s := zones [zone] on
    let f := expandStrike s.settings.inbound[(0 : Port)].fill (.long 1023#16)
    let d : Dest := { port := 1, lane := 0, key := 60 }
    let full := table ((List.finRange 128).map fun k => entry k .held) s
    s.power = true ∧ s.settings.inbound[(0 : Port)].role = .play
      ∧ layersOf s.change.active.block.zones { port := 0, lane := 0, key := 60 } f = [(zone, d)]
      ∧ (mute2 s).muted d.port = true ∧ s.muted d.port = false
      ∧ (playFill 28 s).link.outs[d.port].play.length = 28 ∧ (playFill 28 s).held.table.length < 128
      ∧ (∃ e ∈ (table [entry 60 .releasing] s).held.table, e.ident = ident 60)
      ∧ 128 ≤ full.held.table.length
      ∧ (∀ e ∈ (table ((List.finRange 127).map fun k => entry (k.castLE (by decide)) .held) s).held.table,
          e.ident ≠ ident 127) := by
  decide +kernel

theorem witness_StrikeFrame :
    let s := zones [zone, { zone with destPort := 3#8 }] releasing60
    HeldInv s ∧ s.power = true ∧ s.settings.inbound[(0 : Port)].role = .play
      ∧ ((layersOf s.change.active.block.zones { port := 0, lane := 0, key := 60 } 800).filter
          fun y => !(mute2 s).muted y.2.port).length = 1 := by
  refine ⟨⟨by decide +kernel, by decide +kernel, fun i => ?_, by decide +kernel⟩, by decide +kernel⟩
  show i ∈ [ident 60] ↔ ∃ e ∈ [entry 60 .releasing], e.ident = i ∧ e.state = .releasing
  simp [entry, eq_comm]

/-- R62, R35: two layers for a play queue of 27 frames: the earlier zone's is admitted, the later one's is a play drop. A
table with one place left takes the earlier of two new identities, and the later is a held overflow. -/
theorem test_layers_in_list_order :
    let two := zones [zone, { zone with transpose := 12#8 }]
    let t := after (.strike 0 0 60 (.long 800#16)) (two (playFill 27 on))
    let full := (List.range 127).map fun k => entry ⟨k % 128, by omega⟩ .held
    let u := after (.strike 0 0 127 (.long 800#16)) (zones [zone, { zone with destPort := 3#8 }] (table full on))
    plays 1 t = List.replicate 27 .beatTick ++ [.strikeLong 1#8 60#8 800#16] ∧ t.status.playDrops[(1 : Port)] = 1
      ∧ t.held.table.length = 1 ∧ plays 1 u = [.strikeLong 1#8 127#8 800#16] ∧ plays 2 u = []
      ∧ u.status.heldOverflows = 1 ∧ u.held.table.length = 128 := by decide +kernel

theorem witness_KeyUp :
    (lane1Down (table [entry 60 .held] on)).power = true
      ∧ (lane1Down (table [entry 60 .held] on)).settings.inbound[(0 : Port)].role = .play := by decide +kernel

theorem witness_ControlRouted :
    let s := playFill 27 (zones [zone, { zone with destLane := 2#8 }] on)
    s.power = true ∧ s.settings.inbound[(0 : Port)].role = .play ∧ 1#8 ≠ 8#8 ∧ (controlDestsOn s 0 0 1).length = 2 := by
  decide +kernel

/-- R38: the destinations stand in the order of their first zones, whatever is routed to them again later. -/
theorem test_control_order :
    let other : Zone := { zone with destPort := 3#8 }
    controlDests [other, zone, other] 0 0 = [⟨2, 0⟩, ⟨1, 0⟩]
      ∧ List.Sublist [⟨2, 0⟩, ⟨1, 0⟩] (controlDests [other, zone, other] 0 0) := by decide +kernel

/-- R39, R15: with room for one of two Controls, the first is placed and the second is a play drop that sets OVERRUN. -/
theorem test_control_dropped :
    let t := after (.control 0 0 1#8 5000#16) (playFill 27 (zones [zone, { zone with destLane := 2#8 }] on))
    (plays 1 t).drop 27 = [.control 1#8 1#8 5000#16] ∧ t.status.playDrops[(1 : Port)] = 1 ∧ t.status.overrun = true := by
  decide +kernel

theorem witness_SustainEdges :
    on.power = true ∧ on.settings.inbound[(0 : Port)].role = .play ∧ 8192 ≤ (8192#16).toNat ∧ (8191#16).toNat < 8192
      ∧ (lane1Down on).held.sustain[(0 : Port)][(0 : Lane)].down = true
      ∧ on.held.sustain[(0 : Port)][(0 : Lane)].down = false := by decide +kernel

/-- R71, R72: a sustain down and up on a lane whose FORWARD zone leads to OUT2 lane 1. -/
theorem test_sustain_forwarded :
    let d := after (.sustainControl 0 0 16383#16) (zones [{ zone with sustain := 1#8 }] on)
    plays 1 d = [.control 1#8 8#8 16383#16] ∧ plays 1 (after (.sustainControl 0 0 0#16) d)
      = [.control 1#8 8#8 16383#16, .control 1#8 8#8 0#16] := by decide +kernel

theorem witness_SoundSelectAsChange :
    let s := ctl .switching (inRec { InboundRecord.default with selectAsChange := true } on)
    s.power = true ∧ s.settings.inbound[(0 : Port)].role = .play ∧ on.settings.inbound[(0 : Port)].selectAsChange = false
      ∧ s.settings.inbound[(0 : Port)].selectAsChange = true ∧ (7#8).toNat ≤ 7 ∧ 7 < (8#8).toNat ∧ (63#8).toNat < 64
      ∧ 127 < (128#8).toNat ∧ 64 ≤ (64#8).toNat ∧ (127#8).toNat ≤ 127 ∧ s.change.state = .switching := by
  decide +kernel

theorem witness_ClockStart :
    let s := ticking (inRec { InboundRecord.default with transportAccept := true } on)
    let r := clockIn .running s
    s.power = true ∧ s.settings.inbound[(0 : Port)].role = .play ∧ s.settings.inbound[(0 : Port)].transportAccept = true
      ∧ on.settings.inbound[(0 : Port)].transportAccept = false ∧ 3 < (4#8).toNat ∧ s.tempo.clock = .stopped
      ∧ r.tempo.clock ≠ .stopped ∧ Ready hd s ∧ Ready hd r := by unfold Ready; decide +kernel

/-- R91, R103: START with feed 1 enabled to OUT2 at lead 63 gives its downbeat at once. -/
theorem test_start_click :
    let s := modifySettings (fun t =>
      { t with feeds := upd t.feeds 0 fun r => { r with enabled := true, lead := 63, dest := 1 } }) (ticking on)
    let t := after (.clickStart hd) s
    t.link.outs[(1 : Port)].timing.map (·.frame) = [.click 1#8 2#8 1#16 1#8]
      ∧ t.link.outs[(0 : Port)].timing.map (·.frame) = [.transport 1#8 1#16 1#8, .beatTick] := by decide +kernel

theorem witness_ClockStop :
    let s := ticking (inRec { InboundRecord.default with transportAccept := true } running)
    s.power = true ∧ s.settings.inbound[(0 : Port)].role = .play ∧ s.settings.inbound[(0 : Port)].transportAccept = true
      ∧ s.tempo.clock ≠ .stopped ∧ s.change.state ≠ .waiting ∧ on.tempo.clock = .stopped ∧ Ready hd s ∧ Ready hd on
      ∧ Ready hd (waiting s) ∧ (waiting s).power = true ∧ (waiting s).settings.inbound[(0 : Port)].role = .play
      ∧ (waiting s).settings.inbound[(0 : Port)].transportAccept = true ∧ (waiting s).tempo.clock ≠ .stopped
      ∧ (waiting s).change.state = .waiting ∧ (waiting s).change.staged = some emptyScene
      ∧ (waiting s).change.target = some target ∧ emptyScene.block.autoStart = false := by unfold Ready; decide +kernel

/-- R92, R13: a Transport STOP that finds four frames in the timing queue is a timing slip and sets OVERRUN. -/
theorem test_stop_slips :
    let t := after (.clickStop hd)
      (modifyOut 0 (fun o => { o with timing := List.replicate 4 { frame := .beatTick, source := .tempo } })
        (ticking running))
    t.tempo.clock = .stopped ∧ t.status.timingSlips[(0 : Port)] = 1 ∧ t.status.overrun = true := by decide +kernel

theorem witness_ClockContinue :
    let s := ticking (inRec { InboundRecord.default with transportAccept := true } on)
    s.power = true ∧ s.settings.inbound[(0 : Port)].role = .play ∧ s.settings.inbound[(0 : Port)].transportAccept = true
      ∧ s.tempo.clock = .stopped ∧ running.tempo.clock ≠ .stopped ∧ Ready hd s ∧ Ready hd running := by
  unfold Ready; decide +kernel

theorem witness_SelectTempo :
    let ped := modifySettings (fun t => { t with tempoSource := .pedal }) on
    Ready hd ped ∧ ped.settings.tempoSource = .pedal ∧ Ready hd on ∧ on.settings.tempoSource = .scene
      ∧ 15 < (16#8).toNat ∧ (15#8).toNat = (15 : Slot).val ∧ on.tempo.pendingSlot.getD on.tempo.inEffect ≠ (15 : Slot)
      ∧ (0#8).toNat = (0 : Slot).val ∧ on.tempo.pendingSlot.getD on.tempo.inEffect = (0 : Slot) := by
  unfold Ready; decide +kernel

theorem witness_SubTick :
    on.power = true ∧ on.tempo.clock = .stopped ∧ 959 ≤ (lastTick running).tempo.subTick
      ∧ running.tempo.clock ≠ .stopped
      ∧ (modifyTempo (fun t => { t with subTick := 958 }) running).tempo.subTick < 959 := by decide +kernel

/-- R104: feed 1 with subdivision 4 and lead 0 in bar 1, beat 1: an off-beat Click at sub-tick 240. -/
theorem test_click_off_beat :
    let s := modifyTempo (fun t => { t with subTick := 239 })
      (modifySettings (fun t =>
        { t with feeds := upd t.feeds 0 fun r => { r with enabled := true, subdivision := 4, lead := 0 } }) running)
    (after .subTick s).link.outs[(0 : Port)].timing.map (·.frame) = [.click 1#8 0#8 1#16 1#8] := by decide +kernel

theorem witness_BeatLength :
    let s := modifyTempo (fun t => { t with accumulator := 100000000 % 12000, units := 100000000 / 12000 }) running
    s.power = true ∧ s.tempo.clock ≠ .stopped ∧ 0 < s.tempo.tempo ∧ s.tempo.subTick = 0
      ∧ s.tempo.accumulator = 100000000 % s.tempo.tempo ∧ s.tempo.units = 100000000 / s.tempo.tempo := by
  decide +kernel

/-- The clock's ranges, with the staged copy's as a bounded claim that `decide` decides. -/
theorem clock_inv {s : State}
    (h : (∀ i : Slot, s.tempo.slots[i].inRange)
      ∧ 4000 ≤ s.tempo.tempo ∧ s.tempo.tempo ≤ 30000 ∧ 1 ≤ s.tempo.meter ∧ s.tempo.meter ≤ 16
      ∧ 1 ≤ s.tempo.bar ∧ s.tempo.bar ≤ 9999 ∧ 1 ≤ s.tempo.beat ∧ s.tempo.beat ≤ s.tempo.meter
      ∧ s.tempo.subTick ≤ 959 ∧ s.tempo.countInBar ≤ 4 ∧ (s.tempo.clock ≠ .countIn → s.tempo.countInBar = 0)
      ∧ s.change.active.header.countIn ≤ 4 ∧ ∀ c ∈ s.change.staged, c.header.countIn ≤ 4) : ClockInv s := h

theorem witness_BeatBoundary_ranges :
    ClockInv running ∧ ClockInv (lastTick running) ∧ ClockInv (lastTick (clockIn .countIn on))
      ∧ ClockInv (ticking (changePoint .beat (waiting (lastTick running)))) := by
  refine ⟨clock_inv ?_, clock_inv ?_, clock_inv ?_, clock_inv ?_⟩ <;> unfold TempoRecord.inRange <;> decide +kernel

theorem witness_BeatBoundary :
    let s := lastTick running
    let c := lastTick (clockIn .countIn on)
    let w := changePoint .beat (waiting s)
    s.power = true ∧ running.tempo.subTick ≠ 959 ∧ s.tempo.clock ≠ .stopped ∧ s.tempo.subTick = 959
      ∧ s.change.state ≠ .waiting ∧ s.tempo.clock = .running
      ∧ c.tempo.clock = .countIn ∧ c.change.active.header.countIn ≤ c.tempo.countInBar
      ∧ decide (c.tempo.meter < c.tempo.beat + 1) = false
      ∧ w.tempo.clock = .running ∧ w.change.state = .waiting ∧ w.change.staged = some emptyScene
      ∧ w.change.target = some target ∧ w.change.active.block.changePoint = .beat
      ∧ (ticking w).settings.outbound[(0 : Port)].tickOut = true ∧ (ticking w).link.outs[(0 : Port)].timing = [] := by
  decide +kernel

/-- RUNNING in the last sub-tick of this bar, with a change of this kind WAITING for an 8-bar phrase. -/
def phraseEnd (bar : Nat) (song : Bool) : State :=
  modifyChange (fun c => { c with target := some { target with song := song } })
    (modifyTempo (fun t => { t with bar := bar, beat := 4 }) (changePoint .phrase8 (waiting (lastTick running))))

/-- The last sub-tick of bar 1 of a count-in of 2 bars. -/
def countInEnd : State :=
  modifyChange (fun c => { c with active := { c.active with header := { c.active.header with countIn := 2 } } })
    (modifyTempo (fun t => { t with countInBar := 1, beat := 4 }) (lastTick (clockIn .countIn on)))

theorem witness_BeatBoundary_phrase (song : Bool) :
    ClockInv (phraseEnd 8 song) ∧ ClockInv (phraseEnd 7 song)
      ∧ pointMetNext (phraseEnd 8 song) ∧ ¬pointMetNext (phraseEnd 7 song)
      ∧ (phraseEnd 8 song).change.target = some { target with song := song } := by
  refine ⟨clock_inv ?_, clock_inv ?_, show _ ∧ _ from ⟨?_, ?_⟩, fun h : _ ∧ _ => absurd h.2 ?_, ?_⟩
  case refine_1 | refine_2 => unfold TempoRecord.inRange; cases song <;> decide +kernel
  all_goals cases song <;> decide +kernel

theorem witness_BeatBoundary_count_in :
    ClockInv countInEnd ∧ countInEnd.tempo.clock = .countIn ∧ countInEnd.tempo.meter < countInEnd.tempo.beat + 1
      ∧ countInEnd.tempo.countInBar < countInEnd.change.active.header.countIn
      ∧ (modifyTempo (fun t => { t with countInBar := 2 }) countInEnd).change.active.header.countIn ≤ 2 := by
  refine ⟨clock_inv ?_, ?_⟩
  · unfold TempoRecord.inRange; decide +kernel
  · decide +kernel

/-- R96: the count-in of 2 bars ends after its second with a Transport START, and the song bar begins at 1. -/
theorem test_count_in_ends :
    let t := after .beatBoundary (ticking (modifyTempo (fun t => { t with countInBar := 2 }) countInEnd))
    t.tempo.clock = .running ∧ t.tempo.bar = 1
      ∧ t.link.outs[(0 : Port)].timing.map (·.frame) = [.transport 1#8 1#16 1#8, .beatTick] := by decide +kernel

theorem witness_Contacts : on.power = true := rfl

/-- PED1 pressed: closed, its candidate timing since 0 under a debounce of 2 ms. -/
def press (f : PedalFunction) : State :=
  pedal1 { PedalRecord.default with function := f, debounce := 2 } { raw := .closed, settled := some .opened, since := 0 }
    on

theorem witness_PedalSettled :
    let n := press .none
    let u := pedal1 { PedalRecord.default with function := .panic } (Debouncer.fresh .closed 0) on
    let l := pedal1 { PedalRecord.default with function := .sustain, debounce := 2 }
      { raw := .opened, settled := some .closed, since := 0 } on
    n.power = true
      ∧ max n.now 1999 < n.pedals.contacts[(0 : Pedal)].since + n.settings.pedals[(0 : Pedal)].debounce * 1000
      ∧ u.pedals.contacts[(0 : Pedal)].settled = none ∧ u.settings.pedals[(0 : Pedal)].function ≠ .sustain
      ∧ l.settings.pedals[(0 : Pedal)].function = .sustain ∧ l.pedals.contacts[(0 : Pedal)].raw ≠ .closed
      ∧ l.pedals.contacts[(0 : Pedal)].settled ≠ none
      ∧ ∀ f ∈ [PedalFunction.none, .muteHold, .tempoBit 3, .sustain, .muteToggle, .panic, .clickToggle, .tap]
            ++ [StepKind.nextScene, .prevScene, .nextSong, .prevSong].map stepFunction,
        (press f).settings.pedals[(0 : Pedal)].function = f ∧ (press f).settings.pedals[(0 : Pedal)].polarity = .normal
          ∧ (press f).pedals.contacts[(0 : Pedal)].settled ≠ some (press f).pedals.contacts[(0 : Pedal)].raw
          ∧ (press f).pedals.contacts[(0 : Pedal)].settled ≠ none ∧ (press f).pedals.contacts[(0 : Pedal)].raw = .closed
          ∧ (press f).pedals.contacts[(0 : Pedal)].since
              + (press f).settings.pedals[(0 : Pedal)].debounce * 1000 ≤ max (press f).now 2000
          ∧ (press f).change.state = .idle ∧ (press f).change.queue = [] ∧ (press f).tempo.clock = .stopped
          ∧ (press f).tempo.taps = [] := by
  decide +kernel

theorem witness_PedalSettled_queue_and_taps :
    let q : ChangeRequest := { kind := .nextSong, number := 0, origin := .pedal }
    let g := ctl .fetching (press .nextSong)
    let f := modifyChange (fun c => { c with queue := [q, q, q, q] }) g
    let r := clockIn .running (press .clickToggle)
    let t := modifyTempo (fun t => { t with taps := [0, 400, 800, 1200] }) (press .tap)
    g.change.state ≠ .idle ∧ g.change.queue.length < 4 ∧ 4 ≤ f.change.queue.length
      ∧ r.tempo.clock ≠ .stopped ∧ r.change.state ≠ .waiting ∧ (waiting r).tempo.clock ≠ .stopped
      ∧ (waiting r).change.state = .waiting ∧ (waiting r).change.staged = some emptyScene
      ∧ (waiting r).change.target = some target ∧ t.tempo.taps.getLast? = some 1200
      ∧ max t.now 2001200 ≤ 1200 + 2000000 ∧ 1200 + 2000000 < max t.now 2001201
      ∧ ((t.tempo.taps ++ [2001200]).drop (t.tempo.taps.length - 3)).head? = some 400 ∧ 400 < max t.now 2001200 := by
  decide +kernel

/-- IN1 with OUT3 as its pass port. -/
def passing : State := inRec { InboundRecord.default with pass := some 2 } on

theorem witness_RequestRows :
    requestOf (.panic hd) = some (hd, 0x45#8, []) ∧ on.power = true ∧ Ready hd on ∧ NextTaken 0 passing
      ∧ on.service.busy = none ∧ on.service.restart = .none ∧ StaysHere hd (serviceFill 4 on)
      ∧ 4 ≤ (serviceFill 4 on).link.outs[hd.port].service.length
      ∧ (modifyService (fun u => { u with busy := some 40 }) on).service.busy ≠ none
      ∧ ¬NextTaken 0 (modifyService (fun u => { u with places := upd u.places 0 fun _ => some waiter }) on)
      ∧ StaysHere { hd with unit := 15#8 } on ∧ ¬StaysHere { hd with unit := 15#8 } passing
      ∧ ¬((9#8).toNat = on.settings.unitNumber ∨ 9#8 = 15#8)
      ∧ (passedOnTo 0 (.request 15#8 7#8 0x45#8 []) passing).link.outs[hd.port].service.length < 4 := by
  unfold Ready; decide +kernel

/-- R6, R173: a request row for all parts is answered and passed on; one for another part is passed on only. -/
theorem test_request_passed_on :
    let t := after (.identify { hd with unit := 15#8 }) passing
    let u := after (.identify { hd with unit := 9#8 }) passing
    t.link.outs[(2 : Port)].service.map (·.frame) = [.request 15#8 7#8 1#8 []]
      ∧ t.link.outs[(0 : Port)].service.map (·.frame) = [.reply 15#8 7#8 1#8 0#8 [0x5A#8, 88#8, 1#8, 0#8, 66#8]]
      ∧ u.link.outs[(2 : Port)].service.map (·.frame) = [.request 9#8 7#8 1#8 []]
      ∧ u.link.outs[(0 : Port)].service = [] := by decide +kernel

/-- R174: the places are taken from the one after the pointer on; `turnOf` numbers them so. -/
theorem test_turns : ∀ pointer p : Port, (portsAfter pointer).idxOf p = turnOf pointer p := by decide

/-- R174: with the pointer at IN8 a request on IN2 waits behind one that waits on IN1. -/
theorem test_request_waits_its_turn :
    let s := modifyService (fun u => { u with places := upd u.places 0 fun _ => some waiter }) on
    let t := after (.identify { hd with port := 1 }) s
    t.service.places[(1 : Port)] = some { waiter with tag := 7#8 } ∧ t.link.outs[(1 : Port)].service = [] := by
  decide +kernel

theorem witness_ServiceTake :
    let s := modifyService (fun u => { u with places := upd u.places 7 fun _ => some waiter }) on
    on.power = true ∧ (∀ p : Port, on.service.places[p] = none) ∧ s.service.busy = none ∧ s.service.restart = .none
      ∧ (7 : Port).val = (s.service.pointer.val + 1 + 7) % 8 ∧ s.service.places[(7 : Port)] = some waiter
      ∧ (∀ m < 7, ∀ q : Port, q.val = (s.service.pointer.val + 1 + m) % 8 → s.service.places[q] = none)
      ∧ s.link.outs[(7 : Port)].service.length < 4
      ∧ 4 ≤ (modifyOut 7 (fun o => { o with service := (serviceFill 4 on).link.outs[hd.port].service }) s).link.outs[(7 : Port)].service.length
      ∧ parseRequest 0x48#8 [] = none ∧ parseRequest 0x11#8 [1#8, 1#8, 1#8] = some (.writeSetting 1#8 1#8 1#8 [])
      ∧ (Request.writeSetting 1#8 1#8 1#8 []).formOk = false := by decide +kernel

theorem witness_ServiceTake_unknown :
    Ready hd on ∧ UnknownItem 0x43#8 [0#8] ∧ UnknownItem 0x43#8 [4#8] ∧ UnknownItem 0x40#8 [7#8, 0#8]
      ∧ UnknownItem 0x41#8 [8#8, 0#8, 0#8, 0#8] ∧ UnknownItem 0x11#8 [8#8, 1#8, 1#8, 0#8, 1#8] := by
  refine ⟨by unfold Ready; decide +kernel, ?_⟩
  simp [UnknownItem]

/-- R97: a CLICK with action 4 replies RANGE (7). -/
theorem test_unknown_click :
    (after (.requestMalformed hd 0x43#8 [4#8]) on).link.outs[(0 : Port)].service.map (·.frame)
      = [.reply 0#8 7#8 0x43#8 7#8 []] := by decide +kernel

theorem witness_IdentifyAndStatus :
    Ready hd on ∧ 8 < (9#8).toNat ∧ 1 < (2#8).toNat ∧ (1#8).toNat ≤ 1 ∧ (8#8).toNat = (7 : Port).val + 1 := by
  unfold Ready; decide +kernel

/-- R191: T in effect in STOPPED is that of the slot in effect as it stands: a slot in effect rewritten while the clock
ran is reported with its new T once the clock has stopped. -/
theorem test_stop_renews_tempo :
    let s := modifyTempo (fun t => { t with slots := upd t.slots 0 fun r => { r with t := 9000 } }) running
    (stopTempo s.tempo).tempo = 9000 := by decide +kernel

theorem witness_WriteSettingRecords :
    Ready hd on ∧ 1 ≤ [1#16].length ∧ (List.replicate 27 1#16).length ≤ 27 ∧ 8 < (9#8).toNat
      ∧ (8#8).toNat = (7 : Port).val + 1 ∧ 0#8 ≠ 1#8 := by unfold Ready; decide +kernel

theorem witness_ReadSetting : Ready hd on := by unfold Ready; decide +kernel

/-- R179, R182: item OUTBOUND PORT, index 2, all five fields after a change of its settle time (spec 09, Application
example: LONG, settle 40). -/
theorem test_read_outbound :
    let s := modifySettings (fun t => { t with outbound := upd t.outbound 1 fun r => { r with settle := 40 } }) on
    (after (.readSetting hd 2#8 2#8 1#8 5#8) s).link.outs[(0 : Port)].service.map (·.frame)
      = [.reply 0#8 7#8 0x10#8 0#8 [5#8, 0#8, 0#8, 0#8, 0#8, 0#8, 40#8, 0#8, 0#8, 0#8, 0#8]] := by decide +kernel

theorem witness_WriteTempoSlot :
    Ready hd on ∧ 1 ≤ [1#16].length ∧ [1#16].length ≤ 27 ∧ (3#8).toNat < 4 ∧ 15 < (16#8).toNat ∧ 4 ≤ (4 : Slot).val
      ∧ (4#8).toNat = (4 : Slot).val ∧ (15#8).toNat = (15 : Slot).val := by unfold Ready; decide +kernel

theorem witness_WritePedal :
    let old : PedalRecord := { PedalRecord.default with function := .sustain }
    let new : PedalRecord := { old with argLane := 31 }
    let s := pedal1 old { raw := .closed, settled := some .closed, since := 0 } on
    let written := fun start values =>
      (fieldsAfter s.settings.pedals[(0 : Pedal)].fields start values).bind pedalOfFields?
    Ready hd s ∧ 6 < (7#8).toNat ∧ (1#8).toNat = (0 : Pedal).val + 1
      ∧ written 3 [51] = some { old with debounce := 50 } ∧ written 5 [32] = some new ∧ written 5 [33] = none
      ∧ s.pedals.contacts[(0 : Pedal)].settled = some .closed ∧ old.polarity = .normal ∧ new.argLane ≠ old.argLane
      ∧ old.debounce ≠ 50 ∧ pedalOfFields? [14, 1, 1, 8, 32] ≠ none := by
  unfold Ready; decide +kernel

/-- R147: a debounce of 51 ms is stored, and given in the reply, as 50. -/
theorem test_debounce_limit :
    let t := after (.writeSettingPedal hd 1#8 3#8 [51#16] 0) on
    t.settings.pedals[(0 : Pedal)].debounce = 50
      ∧ t.link.outs[(0 : Port)].service.map (·.frame) = [.reply 0#8 7#8 0x11#8 0#8 [0#8, 50#8]] := by decide +kernel

theorem witness_CurveWriteAndRead :
    Ready hd on ∧ (List.replicate 28 1023#16).length ≤ 28 ∧ 15 < (16#8).toNat ∧ 128 < (129#8).toNat
      ∧ 1023 < (1024#16).toNat ∧ (15#8).toNat = (14 : Fin 15).val + 1 ∧ (128#8).toNat ≤ 128
      ∧ (∀ v ∈ [1023#16], v.toNat ≤ 1023) ∧ 28 < (29#8).toNat ∧ (28#8).toNat ≤ 28 := by
  refine ⟨by unfold Ready; decide +kernel, ?_⟩
  simp

theorem witness_SetList :
    let s := unlocked on
    Ready hd on ∧ Ready hd s ∧ 64 < (65#8).toNat ∧ 54 < (55#8).toNat ∧ (64#8).toNat ≤ 64 ∧ (54#8).toNat ≤ 54
      ∧ on.store.lock = true ∧ s.store.lock = false ∧ (unlocked running).tempo.clock ≠ .stopped
      ∧ (ctl .waiting s).change.state ≠ .idle ∧ s.tempo.clock = .stopped ∧ s.change.state = .idle
      ∧ (List.replicate 65 1#7).length = 65 ∧ 64 < (65#7).toNat
      ∧ Ready hd (oper (.clear 0) s) ∧ sourceOf 0 (oper (.clear 0) s) = none
      ∧ sourceOf 0 (oper (.load 5) s) = some .afterLoad ∧ sourceOf 0 s = some .cells
      ∧ [1#7, 64#7].map BitVec.toNat = ([0, 63] : List SongPage).map (fun p => p.val + 1) := by
  unfold Ready; decide +kernel

/-- R114, R76, R88: the list emptied under leave policy CUT, with a slot of the song in effect at another tempo. -/
theorem test_set_list_emptied :
    let s := modifyTempo (fun t => { t with tempo := 9000, meter := 3, beat := 5 })
      (modifyChange (fun c =>
        { c with active := { c.active with block := { c.active.block with leave := .cut } } })
        (table [entry 60 .held] (unlocked on)))
    let t := after (.writeSetList hd []) s
    t.held.table = [entry 60 .releasing] ∧ t.held.releaseOrder = [ident 60] ∧ t.tempo.tempo = 12000
      ∧ t.tempo.meter = 4 ∧ t.tempo.bar = 2 ∧ t.tempo.beat = 1 := by decide +kernel

/-- R114, R162: the first song's page is under a clear, so the GOTO SONG 1 ends EMPTY and the list stands. -/
theorem test_set_list_under_clear :
    let t := after (.writeSetList hd [1#7, 64#7]) (oper (.clear 0) (unlocked on))
    t.settings.setList = [0, 63] ∧ t.change.state = .idle ∧ t.change.outcome = .empty ∧ t.status.change = true := by
  decide +kernel

theorem witness_BufferAndPageReads :
    Ready hd on ∧ (List.replicate 56 0#8).length ≤ 56 ∧ 4095 < (4096#16).toNat ∧ (4095#16).toNat ≤ 4095
      ∧ (oper (.load 2) on).store.operation ≠ none ∧ Ready hd (oper (.load 2) on) ∧ on.store.operation = none
      ∧ Memory.wf on.store.buffer ∧ 56 < (57#8).toNat ∧ (56#8).toNat ≤ 56 ∧ 66 < (67#8).toNat
      ∧ (66#8).toNat = (65 : Page).val + 1 := by unfold Ready; decide +kernel

theorem witness_StoreOperationsAccepted :
    Ready hd on ∧ 66 < (67#8).toNat ∧ (66#8).toNat = (65 : Page).val + 1 ∧ Ready hd (oper (.clear 2) on)
      ∧ (oper (.clear 2) on).store.operation ≠ none ∧ on.store.operation = none
      ∧ on.store.protect[(2 : Page)] = true ∧ (unprot3 on).store.protect[(2 : Page)] = false := by
  unfold Ready; decide +kernel

theorem witness_StoredPagesReadBack :
    (∀ i : Port, inboundOfFields? Settings.default.inbound[i].fields = some Settings.default.inbound[i]
      ∧ outboundOfFields? Settings.default.outbound[i].fields = some Settings.default.outbound[i]
      ∧ feedOfFields? Settings.default.feeds[i].fields = some Settings.default.feeds[i])
    ∧ (∀ i : Pedal, pedalOfFields? Settings.default.pedals[i].fields = some Settings.default.pedals[i])
    ∧ (list34 on).settings.setList.length ≤ 64 ∧ Settings.default.unitNumber ≤ 14
    ∧ (∀ i : Slot, on.tempo.slots[i].inRange)
    ∧ (∀ (n : Fin 15) (j : Fin 129), straightCurves[n][j] ≤ 1023)
    ∧ Memory.wf [(17, 1#8)] :=
  ⟨by decide +kernel, by decide +kernel, by decide +kernel, by decide, by unfold TempoRecord.inRange; decide +kernel,
    fun n j => by simp [straightCurves, straightPoint], by decide⟩

theorem witness_Protection :
    Ready hd on ∧ on.store.lock = true ∧ Ready hd (unlocked on) ∧ (unlocked on).store.lock = false ∧ 66 < (67#8).toNat
      ∧ (66#8).toNat = (65 : Page).val + 1 ∧ (OperationKind.load 65).page = 65
      ∧ (unlocked (oper (.load 65) on)).store.operation = some { kind := .load 65, begun := true, suspended := false }
      ∧ (unlocked on).store.operation = none := by unfold Ready; decide +kernel

theorem witness_LockAndUnlock :
    let off := on.setPedals { on.pedals with showLock := { raw := .opened, settled := some .opened, since := 0 } }
    Ready hd on ∧ on.store.lock = true ∧ on.pedals.showLock.settled ≠ some .opened ∧ Ready hd off
      ∧ off.store.lock = true ∧ off.pedals.showLock.settled = some .opened ∧ (unlocked on).store.lock = false := by
  unfold Ready; decide +kernel

theorem witness_StoreOperationsEnd :
    let c := modifyStore (fun st => { st with buffer := [(17, 8#8)] }) (oper (.commit 2) (unprot3 on))
    on.power = true ∧ on.store.fetch = none
      ∧ (oper (.load 2) on).store.operation = some { kind := .load 2, begun := true, suspended := false }
      ∧ c.store.operation = some { kind := .commit 2, begun := true, suspended := false } ∧ MemoryInv c
      ∧ (∀ x ∈ c.store.buffer, x.1 < 4096)
      ∧ (oper (.keepCommit capture) c).store.operation
        = some { kind := .keepCommit capture, begun := true, suspended := false }
      ∧ MemoryInv (oper (.keepCommit capture) c) ∧ (∀ x ∈ (oper (.keepCommit capture) c).store.buffer, x.1 < 4096)
      ∧ (oper (.clear 2) on).store.operation = some { kind := .clear 2, begun := true, suspended := false }
      ∧ Memory.wf on.store.cells
      ∧ (fetching3 (oper (.clear 2) on)).store.fetch = some fetch3 ∧ fetch3.source = .cells
      ∧ on.store.operation = none := by unfold MemoryInv; decide +kernel

/-- R156: the ends of a BUFFER LOAD and of a clear come to nothing while a commit is at work. -/
theorem test_end_of_another_kind :
    let s := oper (.commit 2) on
    after .bufferLoadEnd s = s ∧ after (.clearEnd []) s = s ∧ after .operationSuspended s = s := by decide +kernel

/-- A cell that reads back otherwise than it was written, after a commit and after a clear, and none. -/
theorem witness_StoreOperationsEnd_deviations :
    (∃ i, i < 4096 ∧ readBack [(4095, 9#8), (17, 8#8)] (Memory.read [(17, 8#8)]) i ≠ Memory.read [(17, 8#8)] i)
      ∧ (∃ i, i < 4096 ∧ readBack [(0, 0#8)] (fun _ => 0xFF#8) i ≠ 0xFF#8)
      ∧ ¬∃ i, i < 4096 ∧ readBack [] (fun _ => 0xFF#8) i ≠ 0xFF#8 :=
  ⟨⟨4095, by decide, by decide⟩, ⟨0, by decide, by decide⟩, fun ⟨_, _, h⟩ => h rfl⟩

theorem witness_KeepAdjustments :
    let s := unprot3 (inSong on)
    let k := oper (.keepLoad capture) (page3 .good 8#8 on)
    Ready hd on ∧ on.change.active.source = none ∧ Ready hd s ∧ s.change.active.source ≠ none
      ∧ s.change.cursorPage = some 2 ∧ (oper (.load 3) s).store.operation ≠ none ∧ s.store.operation = none
      ∧ (inSong on).store.protect[(2 : Page)] = true ∧ s.store.protect[(2 : Page)] = false
      ∧ k.power = true ∧ k.store.fetch = none
      ∧ k.store.operation = some { kind := .keepLoad capture, begun := true, suspended := false }
      ∧ k.store.classes[capture.page] = .good ∧ capture.scene ≤ (pageByte k capture.page 17).toNat
      ∧ (pageByte (page3 .good 7#8 on) capture.page 17).toNat < capture.scene
      ∧ 1 ≤ capture.scene ∧ capture.scene ≤ 8 ∧ MemoryInv k ∧ capture.block.name.length = 12
      ∧ capture.block.zones.length ≤ 16 ∧ capture.block.bursts.length ≤ 16 ∧ capture.slots.length ≤ 4 := by
  unfold Ready MemoryInv; decide +kernel

theorem witness_ChangeQueue :
    let q : ChangeRequest := { kind := .nextScene, number := 0, origin := .pedal }
    let s := ctl .switching on
    let f := modifyChange (fun c => { c with queue := [q, q, q, q] }) s
    Ready hd s ∧ s.change.state ≠ .idle ∧ s.change.queue.length < 4 ∧ 4 ≤ f.change.queue.length
      ∧ s.change.state = .switching := by unfold Ready; decide +kernel

theorem witness_TakeRequest :
    let s := inSong (list34 on)
    let last := modifyChange (fun c => { c with cursorScene := 2, cursorEntry := 2 }) s
    let runsOn := modifyChange (fun c =>
      { c with cursorScene := 2, active := { c.active with header := { c.active.header with runOn := true } } }) s
    Ready hd s ∧ s.change.state = .idle ∧ s.change.queue = [] ∧ s.store.fetch = none ∧ s.change.cursorPage = some 2
      ∧ Ready hd on ∧ on.change.state = .idle ∧ on.settings.setList.length = 0 ∧ on.change.active.source = none
      ∧ s.settings.setList.length ≠ 0 ∧ s.change.cursorScene < s.change.active.header.sceneCount
      ∧ s.settings.setList.length < (3#8).toNat ∧ s.change.active.header.sceneCount < (3#8).toNat
      ∧ last.change.active.header.sceneCount ≤ last.change.cursorScene ∧ 1 < last.change.cursorScene
      ∧ last.settings.setList.length ≤ last.change.cursorEntry ∧ 1 < last.change.cursorEntry
      ∧ s.change.cursorScene ≤ 1 ∧ s.change.cursorEntry ≤ 1
      ∧ runsOn.change.cursorScene = runsOn.change.active.header.sceneCount
      ∧ runsOn.change.active.header.runOn = true ∧ runsOn.change.cursorEntry < runsOn.settings.setList.length
      ∧ (list34 on).change.active.source.isNone = true ∧ (list34 on).settings.setList[1 - 1]? = some 2
      ∧ s.settings.setList[2 - 1]? = some 3 := by unfold Ready; decide +kernel

/-- R162: the source of a fetch of page 3 under each operation, and the changes that a GOTO abandons. -/
theorem witness_TakeRequest_sources :
    sourceOf 2 on = some .cells ∧ sourceOf 2 (oper (.load 5) on) = some .afterLoad
      ∧ sourceOf 2 (oper (.commit 2) on) = some (.buffer on.store.buffer)
      ∧ sourceOf 2 (oper (.commit 5) on) = some .cells ∧ sourceOf 2 (oper (.clear 2) on) = none
      ∧ sourceOf 2 (oper (.keepCommit capture) on) = some (.buffer on.store.buffer)
      ∧ Ready hd (waiting on) ∧ (waiting on).change.state = .waiting ∧ (waiting on).store.fetch = none
      ∧ Ready hd (fetching3 on) ∧ (fetching3 on).change.state = .fetching ∧ (fetching3 on).store.fetch ≠ none := by
  unfold Ready; decide +kernel

theorem witness_FetchEnds :
    let s := fetching3 (page3 .good 2#8 on)
    let w := modifyChange (fun c => { c with queue := [{ kind := .prevSong, number := 0, origin := .pedal }] }) s
    let r := changePoint .beat (fetching3 (page3 .good 2#8 running))
    s.power = true ∧ s.change.state = .fetching ∧ s.change.queue = [] ∧ s.change.target = some target
      ∧ s.store.fetch = some fetch3 ∧ s.change.staged = none ∧ CounterInv s
      ∧ w.change.queue ≠ [] ∧ w.change.state = .fetching ∧ w.change.target = some target ∧ CounterInv w
      ∧ foundClass fetch3 (fetching3 on) = .empty ∧ foundClass fetch3 (page3 .damaged 2#8 on) = .damaged
      ∧ foundClass fetch3 (page3 .invalid 0#8 on) = .invalid ∧ foundClass fetch3 s = .good
      ∧ (readFrom fetch3 (page3 .good 1#8 on) 17).toNat < fetch3.scene ∧ fetch3.scene ≤ (readFrom fetch3 s 17).toNat
      ∧ foundClass { fetch3 with source := .buffer [(17, 2#8)] } on = .good
      ∧ foundClass { fetch3 with source := .buffer [(17, 9#8)] } on = .invalid
      ∧ s.tempo.clock = .stopped ∧ r.tempo.clock ≠ .stopped ∧ r.change.active.block.changePoint ≠ .immediate
      ∧ (oper (.load 2) s).store.operation = some { kind := .load 2, begun := true, suspended := false }
      ∧ (oper (.keepLoad capture) s).store.operation
        = some { kind := .keepLoad capture, begun := true, suspended := false } := by
  unfold CounterInv; decide +kernel

/-- A fetch from the cells with no operation in flight, or from the buffer, is read; one that waits for a load is not,
nor one from the cells beside an operation that has not stopped. -/
theorem witness_FetchEnds_read :
    beingRead fetch3 (fetching3 on) ∧ beingRead { fetch3 with source := .buffer [] } (oper (.commit 2) on)
      ∧ ¬beingRead { fetch3 with source := .afterLoad } (oper (.load 2) on) ∧ ¬beingRead fetch3 (oper (.commit 5) on) :=
  ⟨⟨by decide, fun _ _ h => nomatch h⟩, ⟨by decide, fun h => nomatch h⟩, fun h => h.1 rfl,
    fun h => nomatch h.2 rfl _ rfl⟩

/-- R122: a failed fetch with a request waiting: the PREV SONG behind it is taken and ends AT_END. -/
theorem test_failed_fetch_takes_next :
    let q : ChangeRequest := { kind := .prevSong, number := 0, origin := .pedal }
    let t := after (.fetchEnd false) (modifyChange (fun c => { c with queue := [q] }) (fetching3 (inSong (list34 on))))
    t.change.state = .idle ∧ t.change.queue = [] ∧ t.change.outcome = .atEnd ∧ t.status.change = true := by
  decide +kernel

/-- A song change to scene 1 of page 3, its fetch about to end under change point IMMEDIATE. The scene has its
overrides, tempo slot and auto start: feed 1 SILENT, slot 2, on. -/
def songFetch (s : State) : State :=
  modifyStore (fun st =>
    { st with
      classes := upd st.classes 2 fun _ => .good
      cells := [(8209, 1#8), (8211, 0#8), (8252, 2#8), (8256, 2#8), (8264, 1#8)]
      fetch := some { page := 2, scene := 1, source := .cells } })
    (modifyChange (fun c => { c with target := some { target with song := true, scene := 1 } })
      (ctl .fetching (changePoint .immediate s)))

/-- R126, R127: a switch that finds the clock STOPPED sets the override, selects the slot and starts the clock. -/
theorem test_switch_starts :
    let t := after (.fetchEnd false) (songFetch (ticking on))
    t.tempo.feeds[(0 : Port)].override = .silent ∧ t.tempo.inEffect.val = 2 ∧ t.tempo.clock = .running
      ∧ t.link.outs[(0 : Port)].timing.map (·.frame) = [.transport 1#8 1#16 1#8, .beatTick] := by decide +kernel

/-- R96, R126: in mid-beat of bar 5 the song change resets the position, and the slot selected takes effect. -/
theorem test_switch_resets :
    let t := after (.fetchEnd false)
      (songFetch (modifyTempo (fun t => { t with bar := 5, beat := 3, subTick := 100 }) (ticking running)))
    t.tempo.bar = 1 ∧ t.tempo.beat = 1 ∧ t.tempo.subTick = 0 ∧ t.tempo.inEffect.val = 2 ∧ t.tempo.pendingSlot = none
      ∧ t.link.outs[(0 : Port)].timing.map (·.frame) = [.transport 1#8 1#16 1#8, .beatTick] := by decide +kernel

/-- R115, R118: a change that ends with two requests waiting: PREV SONG ends AT_END, and the first NEXT SCENE begins a
fetch, behind which the second waits. -/
theorem test_queue_taken_in_order :
    let q (k : ChangeKind) : ChangeRequest := { kind := k, number := 0, origin := .pedal }
    let s := modifyChange (fun c => { c with queue := [q .prevSong, q .nextScene, q .nextScene] })
      (ctl .switching (inSong (list34 on)))
    let t := after .changeEnd s
    t.change.state = .fetching ∧ t.change.queue = [q .nextScene] ∧ t.change.outcome = .atEnd
      ∧ t.store.fetch = some { page := 2, scene := 2, source := .cells } := by decide +kernel

theorem witness_BurstAndChangeEnd :
    let e := ctl .switching on
    let two := modifyBlock (fun b => { b with bursts := [{ burst with skip := true }, burst] }) e
    let flushed := modifyChange (fun c => { c with flushed := upd c.flushed 1 fun _ => true }) switching1
    let asked (k : ChangeKind) :=
      modifyChange (fun c => { c with queue := [{ kind := k, number := 2, origin := .pedal }] }) e
    on.power = true ∧ on.change.state ≠ .switching ∧ switching1.change.state = .switching
      ∧ switching1.change.active.block.bursts.drop switching1.change.burstCursor = burst :: []
      ∧ two.change.active.block.bursts.drop two.change.burstCursor = { burst with skip := true } :: [burst]
      ∧ burst.skip = false ∧ burst.level ≠ 0xFF#8 ∧ burst.port.toNat = (1 : Port).val + 1
      ∧ switching1.change.flushed[(1 : Port)] = false ∧ flushed.change.flushed[(1 : Port)] = true
      ∧ switching1.change.selectPlaced = false ∧ (burstFill 14 switching1).link.outs[(1 : Port)].burst.length < 15
      ∧ (burstFill 15 switching1).link.outs[(1 : Port)].burst.length = 15
      ∧ 16 ≤ (burstFill 16 switching1).link.outs[(1 : Port)].burst.length
      ∧ e.change.active.block.bursts.length ≤ e.change.burstCursor ∧ (∀ p : Port, e.link.outs[p].burst = [])
      ∧ e.change.queue = [] ∧ (asked (requestKind .prevScene)).change.state = .switching
      ∧ (asked .gotoSong).change.queue = [{ kind := .gotoSong, number := 2, origin := .pedal }] := by decide +kernel

theorem witness_AdjustZones :
    let s := zones [zone] on
    Ready hd s ∧ s.change.active.block.zones.length < (2#8).toNat ∧ 1 ≤ (1#8).toNat
      ∧ s.change.active.block.zones[(1#8).toNat - 1]? = some zone ∧ -48 ≤ (0xFFD0#16).toInt ∧ (48#16).toInt ≤ 48 := by
  unfold Ready; decide +kernel

theorem witness_AdjustOthers :
    let r := modifyTempo (fun t => { t with slots := upd t.slots 0 fun x => { x with form := .ramp } }) on
    Ready hd on ∧ 8 < (9#8).toNat ∧ 2 < (3#16).toNat ∧ (8#8).toNat = (7 : Port).val + 1
      ∧ (2#16).toNat = Override.silent.code ∧ (3999#16).toNat < 4000 ∧ 30000 < (30001#16).toNat
      ∧ 4000 ≤ (12000#16).toNat ∧ on.tempo.slots[on.tempo.inEffect].form = .steady
      ∧ on.tempo.slots[on.tempo.inEffect].t = (12000#16).toNat ∧ r.tempo.slots[r.tempo.inEffect].form ≠ .steady
      ∧ r.tempo.clock = .stopped ∧ r.tempo.beat ≤ r.tempo.slots[r.tempo.inEffect].meter
      ∧ running.tempo.slots[running.tempo.inEffect].t ≠ (30000#16).toNat ∧ running.tempo.clock ≠ .stopped := by
  unfold Ready; decide +kernel

theorem witness_Mute :
    Ready hd on ∧ 8 < (9#8).toNat ∧ 1 < (2#8).toNat ∧ (8#8).toNat = (7 : Port).val + 1 ∧ (1#8).toNat ≤ 1
      ∧ on.link.outs[(7 : Port)].serviceMute = (0#8 == 1#8) ∧ on.link.outs[(7 : Port)].serviceMute ≠ (1#8 == 1#8) := by
  unfold Ready; decide +kernel

/-- R26, R129: a FLUSH of the port whose entry holds the burst cursor passes it over, and with it the change ends. -/
theorem test_flush_ends_change :
    let t := after (.flush hd 2#8) (burstFill 16 switching1)
    t.change.state = .idle ∧ t.change.burstCursor = 1 ∧ t.link.outs[(1 : Port)].burst = [] := by decide +kernel

theorem witness_Flush :
    Ready hd on ∧ 8 < (9#8).toNat ∧ (2#8).toNat = (1 : Port).val + 1 ∧ on.change.state ≠ .switching ∧ Ready hd switching1
      ∧ switching1.change.state = .switching ∧ switching1.change.queue = []
      ∧ (switching1.change.active.block.bursts[switching1.change.burstCursor]?).map (·.port.toNat)
        = some ((1 : Port).val + 1)
      ∧ (∀ e ∈ switching1.change.active.block.bursts.drop switching1.change.burstCursor,
          e.port.toNat = (1 : Port).val + 1)
      ∧ ∀ q : Port, q ≠ 1 → (burstFill 16 switching1).link.outs[q].burst = [] := by unfold Ready; decide +kernel

theorem witness_Restart :
    Ready hd on ∧ (oper (.load 2) on).store.operation ≠ none ∧ Ready hd (oper (.load 2) on) ∧ on.store.operation = none
      ∧ on.power = true ∧ on.service.restart ≠ .due
      ∧ (modifyService (fun u => { u with restart := .due }) on).service.restart = .due := by unfold Ready; decide +kernel

/-- R17, R20: the byte pacing gap that a port was counting goes on after a restart. -/
theorem test_restart_keeps_gap :
    let s := modifyService (fun u => { u with restart := .due }) (modifyOut 2 (fun o => { o with gap := some 4 }) on)
    (after (.restartMade 0) s).link.outs[(2 : Port)].gap = some 4 := by decide +kernel

/-- A settings page of class GOOD whose set list is page 3, of class GOOD, with two scenes; the restart due. -/
def loadable : State :=
  modifyService (fun u => { u with restart := .due })
    (modifyStore (fun st =>
      { st with
        classes := upd (upd st.classes 64 fun _ => .good) 2 fun _ => .good
        cells := [(2 * 4096 + 17, 2#8), (64 * 4096 + 234, 1#8), (64 * 4096 + 235, 3#8)] }) on)

/-- R171, R137: the settings page, then scene 1 of the page of its first set list entry, are loaded. -/
theorem test_restart_loads :
    let t := after (.restartMade 0) loadable
    t.settings.setList = [2] ∧ t.change.outcome = .ok ∧ t.change.cursorPage = some 2
      ∧ t.change.active.source = some (2, 1) ∧ t.change.active.header.sceneCount = 2 := by decide +kernel

theorem witness_PowerLossAndPowerUp :
    let off := on.setPower false
    let bad := modifyStore (fun st => { st with cells := [(5, 1#8)] }) off
    on.power = true ∧ underCut (oper (.commit 2) on) 2 ∧ ¬underCut on 3 ∧ off.power = false
      ∧ (modifyStore (fun st => { st with cutMarks := upd st.cutMarks 2 fun _ => true }) off).store.cutMarks[(2 : Page)]
        = true
      ∧ off.store.cutMarks[(2 : Page)] = false ∧ pageByte off 2 4095 = 0xFF#8 ∧ pageByte bad 0 5 ≠ 0xFF#8
      ∧ MemoryInv bad ∧ MemoryInv off := by
  refine ⟨by decide +kernel, ⟨{ kind := .commit 2, begun := true, suspended := false }, rfl, rfl, .inl rfl⟩, ?_, ?_⟩
  · rintro ⟨_, h, _⟩
    cases h
  · unfold MemoryInv
    decide +kernel

theorem witness_FrameStart :
    let item : Queued := { frame := .control 1#8 1#8 0#16, source := .zone }
    let tick : Queued := { frame := .beatTick, source := .tempo }
    let tick' : Queued := { frame := .beatTick, source := .burst }
    let s := modifyOut 1 (fun o =>
      { o with play := [item], service := [tick], serviceWait := 16, interleave := 1, window := some 5 }) on
    on.power = true ∧ s.link.outs[(1 : Port)].line = none ∧ s.link.outs[(1 : Port)].gap = none
      ∧ s.link.outs[(1 : Port)].service = tick :: [] ∧ s.link.outs[(1 : Port)].play = item :: []
      ∧ (modifyOut 1 (fun o => { o with timing := [tick], burst := [item] }) s).link.outs[(1 : Port)].timing = tick :: []
      ∧ (modifyOut 1 (fun o => { o with burst := [item] }) s).link.outs[(1 : Port)].burst = item :: []
      ∧ (burstFill 16 switching1).link.outs[(1 : Port)].burst = tick' :: List.replicate 15 tick'
      ∧ (burstFill 16 switching1).change.state = .switching
      ∧ (modifyOut 1 (fun o => { o with gap := some 1 }) s).link.outs[(1 : Port)].gap ≠ none := by decide +kernel

/-- The three ways in which a head may start or must wait. -/
theorem witness_mayStart :
    mayStart none [{ frame := .control 1#8 1#8 0#16, source := .zone }]
      ∧ mayStart (some 5) [{ frame := .beatTick, source := .tempo }]
      ∧ ¬mayStart (some 5) [{ frame := .control 1#8 1#8 0#16, source := .zone }] ∧ ¬mayStart none [] := by
  simp [mayStart]

theorem witness_FrameEnd :
    let x : Sending := { item := { frame := .soundSelect 1#8 0#16 0#8, source := .burst }, queue := .burst }
    let s := modifyOut 1 (fun o => { o with line := some x }) on
    s.power = true ∧ on.link.outs[(1 : Port)].line = none ∧ s.link.outs[(1 : Port)].line = some x := by decide +kernel

theorem witness_ReleaseDrain :
    HeldInv releasing60 ∧ releasing60.power = true ∧ entry 60 .releasing ∈ releasing60.held.table
      ∧ (entry 60 .releasing).ident.dst.port = 1
      ∧ releasing60.held.releaseOrder = [] ++ (entry 60 .releasing).ident :: []
      ∧ (playFill 31 releasing60).link.outs[(1 : Port)].play.length < 32 := by
  refine ⟨⟨by decide +kernel, by decide +kernel, fun i => ?_, by decide +kernel⟩, by decide +kernel⟩
  show i ∈ [ident 60] ↔ ∃ e ∈ [entry 60 .releasing], e.ident = i ∧ e.state = .releasing
  simp [entry, eq_comm]

/-- A second entry, of key 61, with the destination of the RELEASING one. -/
def sharing : State :=
  table [entry 60 .releasing, { entry 60 .held with ident := { ident 61 with dst := (ident 60).dst } }] releasing60

theorem witness_ReleaseDrain_shared :
    HeldInv sharing ∧ entry 60 .releasing ∈ sharing.held.table
      ∧ (∃ x ∈ sharing.held.table, x.ident ≠ ident 60 ∧ x.ident.dst = (ident 60).dst)
      ∧ (after (.releaseDrain 1) sharing).held.table.length = 1 ∧ plays 1 (after (.releaseDrain 1) sharing) = [] := by
  refine ⟨⟨by decide +kernel, by decide +kernel, fun i => ?_, by decide +kernel⟩, by decide +kernel⟩
  show i ∈ [ident 60] ↔ ∃ e ∈ [entry 60 .releasing, _], e.ident = i ∧ e.state = .releasing
  simp [entry, eq_comm]

/-- A part whose front command is a 60 µs idle of IN1, and the part after it. -/
def beforeIdle (s : State) : State := s.setPending [.idleResync 0]
def afterIdle (s : State) : State := setReceiver 0 .ready s

theorem witness_CapacitiesKept :
    CapacityInv (beforeIdle releasing60) ∧ CounterInv (beforeIdle releasing60)
      ∧ step (beforeIdle releasing60) = .next (afterIdle releasing60) := by
  refine ⟨?_, ?_, rfl⟩
  · unfold CapacityInv; decide +kernel
  · unfold CounterInv; decide +kernel

theorem witness_HeldNotesKept :
    HeldInv (beforeIdle releasing60) ∧ SustainInv (beforeIdle releasing60)
      ∧ step (beforeIdle releasing60) = .next (afterIdle releasing60) := by
  refine ⟨witness_ReleaseDrain.1, ⟨?_, ?_, ?_, ?_, ?_⟩, rfl⟩
  · intro ⟨p, l⟩
    have h : ∀ (p : Port) (l : Lane), (beforeIdle releasing60).held.holds[p][l] = 0
        ∧ listingLanes { port := p, lane := l } (beforeIdle releasing60) = 0 := by decide +kernel
    exact ⟨(h p l).1.trans (h p l).2.symm, by rw [(h p l).2]; decide⟩
  · decide +kernel
  · decide +kernel
  · decide +kernel
  · intro c hc; simp [beforeIdle, releasing60, on, State.reset, Change.fresh, State.setHeld, State.setPending] at hc

theorem witness_ClockKept :
    ClockInv (beforeIdle running) ∧ step (beforeIdle running) = .next (afterIdle running) := by
  refine ⟨clock_inv ?_, rfl⟩
  unfold TempoRecord.inRange
  decide +kernel

theorem witness_ProtectedPagesKept :
    let s := unprot3 (oper (.commit 2) (page3 .good 2#8 on))
    MemoryInv (beforeIdle s) ∧ ProtectInv (beforeIdle s) ∧ step (beforeIdle s) = .next (afterIdle s)
      ∧ s.store.protect[(3 : Page)] = true := by
  refine ⟨by unfold MemoryInv; decide +kernel, by unfold ProtectInv; decide +kernel, rfl, by decide +kernel⟩

theorem witness_HardLock :
    on.pedals.showLock.settled ≠ some .opened ∧ on.store.lock = true
      ∧ exec (.idleResync 0) on = .next (afterIdle on) := ⟨by decide, rfl, rfl⟩

theorem witness_Panic : SustainInv (beforeIdle releasing60) ∧ Ready hd (beforeIdle releasing60) :=
  ⟨witness_HeldNotesKept.2.1, by unfold Ready; decide +kernel⟩

end Sys2Proof.Tests
end

section
/-! SUPPORT. The bytes of frames and requests, written and read back (R192, R3; spec 11, 11.2 and 11.3), and the request
rows of the command table as requests in bytes. -/

namespace Sys2Proof

/-! ### Two-byte fields -/

/-- The two bytes of a field put together again. -/
@[simp] theorem half_hiByte_loByte (w : Half) : half (hiByte w) (loByte w) = w := by
  refine BitVec.eq_of_getLsbD_eq fun i hi => ?_
  rw [half, hiByte, loByte, BitVec.getLsbD_append]
  by_cases hlow : i < 8
  · simp [hlow]
  · simp [hlow, show i - 8 < 8 by omega, show 8 + (i - 8) = i by omega]

theorem halves_halfBytes (ws : List Half) : halves (halfBytes ws) = some ws := by
  induction ws with
  | nil => rfl
  | cons w ws ih => simp [halfBytes, halves, ih]

/-! ### Frames (R192, R3) -/

theorem byteSum_append (as bs : List Byte) : byteSum (as ++ bs) = byteSum as + byteSum bs := by
  induction as with
  | nil => simp [byteSum]
  | cons a as ih => simp [byteSum, ih, BitVec.add_assoc]

/-- R192: the check byte brings the sum of all bytes to 0. -/
theorem byteSum_checked (body : List Byte) : byteSum (body ++ [- byteSum body]) = 0#8 := by
  rw [byteSum_append]
  simp only [byteSum]
  bv_omega

/-- Spec 11, 11.2: kind and fields give the frame back. -/
theorem fieldsOfKind_fields (f : Frame) : fieldsOfKind f.kind.toNat f.fields = some f := by
  have hhalf (w : Half) (g : Half → Frame) : some (g (half (hiByte w) (loByte w))) = some (g w) := by
    rw [half_hiByte_loByte]
  cases f with
  | strikeLong lane key v => exact hhalf v (.strikeLong lane key)
  | releaseLong lane key value =>
    cases value with
    | none => rfl
    | some v => exact hhalf v fun w => .releaseLong lane key (some w)
  | releaseShort lane key value => cases value <;> rfl
  | control lane number v => exact hhalf v (.control lane number)
  | soundSelect lane bank sound => exact hhalf bank fun w => .soundSelect lane w sound
  | transport action bar beat => exact hhalf bar fun w => .transport action w beat
  | click feed accent bar beat => exact hhalf bar fun w => .click feed accent w beat
  | _ => rfl

/-- R2: a frame that passes the checks has at most 61 bytes of fields, which makes L at most 64. -/
theorem fields_length_le {f : Frame} (hok : f.ok = true) : f.fields.length ≤ 61 := by
  cases f with
  | releaseLong lane key value => cases value <;> simp [Frame.fields]
  | releaseShort lane key value => cases value <;> simp [Frame.fields]
  | request target tag code params =>
    have hlen : params.length ≤ 58 := of_decide_eq_true hok
    simp only [Frame.fields, List.length_cons]
    omega
  | reply unit tag code outcome data =>
    have hlen : data.length ≤ 57 := of_decide_eq_true hok
    simp only [Frame.fields, List.length_cons]
    omega
  | _ => simp [Frame.fields]

/-- The length byte of a frame. -/
def Frame.lengthByte (f : Frame) : Byte := BitVec.ofNat 8 (f.fields.length + 3)

/-- The bytes of a frame after its length byte. -/
def Frame.tail (f : Frame) : List Byte := f.kind :: f.fields ++ [- byteSum (f.lengthByte :: f.kind :: f.fields)]

theorem Frame.bytes_eq (f : Frame) : f.bytes = f.lengthByte :: f.tail := rfl

@[simp] theorem Frame.tail_length (f : Frame) : f.tail.length = f.fields.length + 2 := by simp [Frame.tail]

theorem Frame.lengthByte_toNat {f : Frame} (hok : f.ok = true) : f.lengthByte.toNat = f.fields.length + 3 := by
  have := fields_length_le hok
  rw [Frame.lengthByte, BitVec.toNat_ofNat, Nat.mod_eq_of_lt (by omega)]

/-- R192, R3: the bytes of a frame whose fields pass the checks are read back as that frame. -/
theorem parseFrame_bytes {f : Frame} (hok : f.ok = true) : parseFrame f.bytes = some f := by
  have hlen : f.lengthByte.toNat = f.bytes.length := by simp [Frame.lengthByte_toNat hok, Frame.bytes_eq]
  have hsum : byteSum f.bytes = 0#8 := byteSum_checked (f.lengthByte :: f.kind :: f.fields)
  have hrest : (f.fields ++ [- byteSum (f.lengthByte :: f.kind :: f.fields)]).dropLast = f.fields :=
    List.dropLast_concat
  unfold parseFrame
  change (if f.lengthByte.toNat = f.bytes.length && byteSum f.bytes == 0#8 then
    match fieldsOfKind f.kind.toNat (f.fields ++ [- byteSum (f.lengthByte :: f.kind :: f.fields)]).dropLast with
    | some f => if f.ok then some f else none
    | none => none
    else none) = some f
  rw [hrest, fieldsOfKind_fields, hsum]
  simp [hlen, hok]

/-! ### Packed page numbers (spec 11, 11.3, the note on WRITE SET LIST) -/

@[simp] theorem bitsOfByte_length (b : Byte) : (bitsOfByte b).length = 8 := rfl

@[simp] theorem bitsOfPage_length (p : BitVec 7) : (bitsOfPage p).length = 7 := rfl

/-- Seven bits spell the page number they are of. -/
theorem ofNat_bitsOfPage (p : BitVec 7) : BitVec.ofNat 7 (natOfBits (bitsOfPage p)) = p := by
  revert p
  decide

/-- Eight bits are those of the byte that they spell. -/
theorem bitsOfByte_ofNat {l : List Bool} (h : l.length = 8) : bitsOfByte (BitVec.ofNat 8 (natOfBits l)) = l := by
  obtain ⟨a, b, c, d, e, f, g, i, rfl⟩ : ∃ a b c d e f g i, l = [a, b, c, d, e, f, g, i] := by
    match l, h with
    | [a, b, c, d, e, f, g, i], _ => exact ⟨a, b, c, d, e, f, g, i, rfl⟩
  revert a b c d e f g i
  decide

/-- `n` bytes hold a run of at most 8 n bits at their front, filled out with zero bits. -/
theorem bits_bytesOfBits (n : Nat) (bits : List Bool) (h : bits.length ≤ 8 * n) :
    (bytesOfBits n bits).flatMap bitsOfByte = bits ++ List.replicate (8 * n - bits.length) false := by
  induction n generalizing bits with
  | zero => simp [bytesOfBits, List.length_eq_zero_iff.mp (Nat.le_zero.mp h)]
  | succ n ih =>
    have hdrop : (bits.drop 8).length = bits.length - 8 := List.length_drop ..
    have hlength : (bits.take 8 ++ List.replicate (8 - (bits.take 8).length) false).length = 8 := by
      simp only [List.length_append, List.length_take, List.length_replicate]
      omega
    rw [bytesOfBits, List.flatMap_cons, bitsOfByte_ofNat hlength, ih _ (by omega), hdrop]
    by_cases hlong : 8 ≤ bits.length
    · rw [List.length_take, Nat.min_eq_left hlong, Nat.sub_self, List.replicate_zero, List.append_nil,
        ← List.append_assoc, List.take_append_drop]
      congr 2
      omega
    · rw [List.take_of_length_le (by omega), List.drop_of_length_le (by omega), List.nil_append,
        List.append_assoc, ← List.replicate_add]
      congr 2
      omega

/-- Page numbers are read back from their bits, whatever stands behind them. -/
theorem pagesOfBits_bits (pages : List (BitVec 7)) (fill : List Bool) :
    pagesOfBits pages.length (pages.flatMap bitsOfPage ++ fill) = pages := by
  induction pages with
  | nil => rfl
  | cons p ps ih =>
    rw [List.flatMap_cons, List.append_assoc, List.length_cons, pagesOfBits, List.take_left' (bitsOfPage_length p),
      List.drop_left' (bitsOfPage_length p), ofNat_bitsOfPage, ih]

theorem bytesOfBits_length (n : Nat) (bits : List Bool) : (bytesOfBits n bits).length = n := by
  induction n generalizing bits with
  | zero => rfl
  | succ n ih => simp [bytesOfBits, ih]

/-- Page numbers packed in bytes are read back while one byte can give their count. -/
theorem pagesOfParams_packPages {pages : List (BitVec 7)} (h : pages.length < 256) :
    pagesOfParams (BitVec.ofNat 8 pages.length) (packPages pages) = some pages := by
  have hcount : (BitVec.ofNat 8 pages.length).toNat = pages.length := by simp [Nat.mod_eq_of_lt h]
  have hbits : (pages.flatMap bitsOfPage).length = 7 * pages.length := by
    simp [List.length_flatMap, Nat.mul_comm]
  have hroom : (pages.flatMap bitsOfPage).length ≤ 8 * packedLength pages.length := by
    rw [hbits, packedLength]; omega
  unfold pagesOfParams
  rw [hcount, packPages, if_pos (bytesOfBits_length ..), bits_bytesOfBits _ _ hroom, pagesOfBits_bits]

/-- A longer list of pages than one byte can count fits no form: its bytes are too many for the count they begin with. -/
theorem pagesOfParams_packPages_of_le {pages : List (BitVec 7)} (h : 256 ≤ pages.length) :
    pagesOfParams (BitVec.ofNat 8 pages.length) (packPages pages) = none := by
  unfold pagesOfParams
  rw [packPages, bytesOfBits_length, BitVec.toNat_ofNat, if_neg]
  unfold packedLength
  omega

/-! ### Requests (spec 11, 11.3) -/

/-- The code and parameter bytes of a request are read back as that request, or fit no form where the request does not
either: a page list that one byte cannot count. -/
theorem parseRequest_params (r : Request) :
    parseRequest r.code r.params = some r ∨ (parseRequest r.code r.params = none ∧ r.formOk = false) := by
  have hhalf (w : Half) (g : Half → Request) : some (g (half (hiByte w) (loByte w))) = some (g w) := by
    rw [half_hiByte_loByte]
  have hhalves (ws : List Half) (g : List Half → Request) : (halves (halfBytes ws)).map g = some (g ws) := by
    rw [halves_halfBytes]
    rfl
  cases r with
  | readStatus clear => cases clear <;> exact .inl rfl
  | writeSetting item index start values => exact .inl (hhalves values (.writeSetting item index start))
  | writeCurve partition start points => exact .inl (hhalves points (.writeCurve partition start))
  | writeSetList pages =>
    by_cases h : pages.length < 256
    · exact .inl (congrArg (Option.map Request.writeSetList) (pagesOfParams_packPages h))
    · refine .inr ⟨congrArg (Option.map Request.writeSetList) (pagesOfParams_packPages_of_le (Nat.not_lt.mp h)), ?_⟩
      exact decide_eq_false (by omega)
  | bufferWrite offset bytes => exact .inl (hhalf offset fun w => .bufferWrite w bytes)
  | bufferRead offset count => exact .inl (hhalf offset fun w => .bufferRead w count)
  | pageRead page offset count => exact .inl (hhalf offset fun w => .pageRead page w count)
  | adjust item target value => exact .inl (hhalf value (.adjust item target))
  | _ => exact .inl rfl

end Sys2Proof
end

section
namespace Sys2Proof.Machine

/-! ### The request rows -/

/-- R176: what a request in bytes does is what the request does, checked for its form. -/
theorem performBytes_request (r : Request) : performBytes r.code r.params = checkedForm r (perform r) := by
  unfold performBytes checkedForm
  rcases parseRequest_params r with h | ⟨h, hform⟩
  · rw [h]
  · rw [h, hform]
    rfl

/-- Moments are counted up only, so the moment 0 tells nothing. -/
@[simp] theorem advanceTo_zero (s : State) : advanceTo 0 s = s := by
  simp [advanceTo, State.setNow]

/-- Every request row is its request in bytes, served at the moment that the row carries. -/
theorem exec_requestRow {c : Instr} {h : Head} {code : Byte} {params : List Byte}
    (hc : requestOf c = some (h, code, params)) (s : State) :
    exec c s
      = powered (fun s => serveCode h code params (performBytes code params) (advanceTo (momentOf c) s)) s := by
  have row (r : Request) (op : State → State × Answer) (m : Nat) (hop : perform r = op) :
      powered (fun s => serve h r op (advanceTo m s)) s
        = powered (fun s => serveCode h r.code r.params (performBytes r.code r.params) (advanceTo m s)) s := by
    rw [performBytes_request, hop]
    rfl
  have rowNow (r : Request) (op : State → State × Answer) (hop : perform r = op) :
      powered (serve h r op) s
        = powered (fun s => serveCode h r.code r.params (performBytes r.code r.params) (advanceTo 0 s)) s := by
    rw [← row r op 0 hop]
    simp only [advanceTo_zero]
  cases c with
  | powerUp | character | idleResync | frameCutShort | strike | release | control | sustainControl | soundSelect
  | transport | thruFrame | serviceRequest | serviceReply | serviceTake | serviceTimeEnd | operationSuspended
  | fetchEnd | burstPlace | changeEnd | restartMade | frameStart | frameEnd | pacingGapEnd | settleWindowEnd
  | releaseDrain | bufferLoadEnd | keepLoadEnd | commitEnd | clearEnd | subTick | beatBoundary | pedalContactChange
  | pedalSettled | showlockContactChange | showlockSettled | lossOfPower => cases hc
  | requestMalformed head code' params' =>
    cases hc
    simp only [momentOf, advanceTo_zero]
    rfl
  | readStatus head clear => cases clear <;> (cases hc; exact rowNow _ _ rfl)
  | changeStep head kind number => cases kind <;> (cases hc; exact rowNow _ _ rfl)
  | changeGoto head kind number => cases kind <;> (cases hc; exact rowNow _ _ rfl)
  | writeSettingPedal head index start values moment =>
    cases hc
    exact row (.writeSetting 3#8 index start values) _ _ rfl
  | _ => cases hc; exact rowNow _ _ rfl

end Sys2Proof.Machine
end

section
/-! SUPPORT. The capacities (R12, R15, R17, R18, R61, R106, R116, R189) along every operation of the part. `Within` is the
two invariants as one structure; `Contained` is what holds between the states before and after every operation that the
service unit can carry out. Both are proved once per operation, in the order of the model's files, and composed. -/

namespace Sys2Proof.Machine

/-! ### Tables -/

/-- A fixed-length table with one place changed, read at any place. -/
theorem upd_getElem {α : Type} {n : Nat} (v : Vector α n) (i j : Fin n) (f : α → α) :
    (upd v i f)[j] = if j = i then f v[i] else v[j] := by
  unfold upd
  by_cases h : j = i
  · subst h; simp
  · simp [h, show i.val ≠ j.val from fun e => h (Fin.ext e.symm)]

/-- What holds at every place of a table still does when the changed place has it. -/
theorem upd_forall {α : Type} {n : Nat} {P : α → Prop} {v : Vector α n} {i : Fin n} {f : α → α}
    (hv : ∀ j : Fin n, P v[j]) (hf : P v[i] → P (f v[i])) (j : Fin n) : P (upd v i f)[j] := by
  rw [upd_getElem]
  split
  · exact hf (hv i)
  · exact hv j

/-! ### The two predicates -/

/-- The bounds on one outbound port, with the burst mode of its record (R12, R15, R17, R18). -/
structure OutPort.Within (mode : Nat) (o : OutPort) : Prop where
  timing : o.timing.length ≤ 4
  burst : o.burst.length ≤ 16
  play : o.play.length ≤ 32
  service : o.service.length ≤ 4
  serviceWait : o.serviceWait ≤ 16
  admitted : otherThanReleases o.play ≤ 28
  interleave : o.interleave ≤ 8
  mode : mode ≤ 8

/-- The capacities and the counters in their bounds: `CapacityInv` and `CounterInv` with their parts named. -/
structure Within (s : State) : Prop where
  ports : ∀ p : Port, s.link.outs[p].Within s.settings.outbound[p].burstMode
  queue : s.change.queue.length ≤ 4
  table : s.held.table.length ≤ 128
  taps : s.tempo.taps.length ≤ 4
  counters : CounterInv s

theorem within_iff (s : State) : Within s ↔ CapacityInv s ∧ CounterInv s := by
  constructor
  · intro h
    exact ⟨⟨fun p => ⟨(h.ports p).timing, (h.ports p).burst, (h.ports p).play, (h.ports p).service,
      (h.ports p).serviceWait, (h.ports p).admitted, (h.ports p).interleave, (h.ports p).mode⟩,
      h.queue, h.table, h.taps⟩, h.counters⟩
  · rintro ⟨⟨hports, hqueue, htable, htaps⟩, hcounters⟩
    refine ⟨fun p => ?_, hqueue, htable, htaps, hcounters⟩
    obtain ⟨h1, h2, h3, h4, h5, h6, h7, h8⟩ := hports p
    exact ⟨h1, h2, h3, h4, h5, h6, h7, h8⟩

/-- What every operation does that a request can ask for: the capacities stay kept, a service queue stands as it stood or
is emptied (R16: only the service unit's own taking and passing on place frames there), and the waiting places stand. -/
structure Contained (s t : State) : Prop where
  within : Within s → Within t
  services : ∀ q : Port, t.link.outs[q].service = s.link.outs[q].service ∨ t.link.outs[q].service = []
  places : t.service.places = s.service.places

theorem Contained.refl (s : State) : Contained s s := ⟨id, fun _ => .inl rfl, rfl⟩

theorem Contained.trans {s t u : State} (h1 : Contained s t) (h2 : Contained t u) : Contained s u where
  within h := h2.within (h1.within h)
  services q := (h2.services q).elim (fun e => e ▸ h1.services q) .inr
  places := h2.places.trans h1.places

/-- `Contained.trans` with the last operation first, in the order in which a nested application shows them. -/
theorem Contained.after {s t u : State} (h2 : Contained t u) (h1 : Contained s t) : Contained s u := h1.trans h2

theorem Contained.ite {s t u : State} {c : Prop} [Decidable c] (ht : Contained s t) (hu : Contained s u) :
    Contained s (if c then t else u) := by
  split
  · exact ht
  · exact hu

/-- An operation that leaves the outbound ports alone: each bounded part is as it was, but for what is given. -/
theorem Contained.of_same {s t : State} (houts : t.link.outs = s.link.outs := by rfl)
    (hmodes : t.settings.outbound = s.settings.outbound := by rfl)
    (hqueue : s.change.queue.length ≤ 4 → t.change.queue.length ≤ 4 := by exact fun h => h)
    (htable : t.held.table.length ≤ s.held.table.length := by exact Nat.le_refl _)
    (htaps : s.tempo.taps.length ≤ 4 → t.tempo.taps.length ≤ 4 := by exact fun h => h)
    (hcounters : CounterInv s → CounterInv t := by exact fun h => h)
    (hplaces : t.service.places = s.service.places := by rfl) : Contained s t where
  within h :=
    { ports := by rw [houts, hmodes]; exact h.ports
      queue := hqueue h.queue
      table := htable.trans h.table
      taps := htaps h.taps
      counters := hcounters h.counters }
  services q := .inl (by rw [houts])
  places := hplaces

/-- One outbound port changed within its bounds, its service queue standing or emptied. -/
theorem modifyOut_contained (p : Port) (f : OutPort → OutPort) (s : State)
    (hbounds : ∀ m, s.link.outs[p].Within m → (f s.link.outs[p]).Within m)
    (hservice : (f s.link.outs[p]).service = s.link.outs[p].service ∨ (f s.link.outs[p]).service = []) :
    Contained s (modifyOut p f s) where
  within h :=
    { ports := fun q => by
        rw [modifyOut_outs, modifyOut_settings]
        split
        · next hq => subst hq; exact hbounds _ (h.ports q)
        · exact h.ports q
      queue := h.queue, table := h.table, taps := h.taps, counters := h.counters }
  services q := by
    rw [modifyOut_outs]
    split
    · next hq => subst hq; exact hservice
    · exact .inl rfl
  places := rfl

/-- A fold keeps what each of its steps keeps. -/
theorem foldl_contained {α : Type} {g : State → α → State} (h : ∀ s a, Contained s (g s a)) (l : List α) (s : State) :
    Contained s (l.foldl g s) := by
  induction l generalizing s with
  | nil => exact .refl s
  | cons a l ih => exact (h s a).trans (ih (g s a))

/-! ### Counters and flags -/

theorem bump_le (n : Nat) : bump n ≤ 65535 := Nat.min_le_right _ _

/-- R189: a counter of one port up by one leaves the counters of all ports in their bound. -/
theorem bumpAt_le {v : Vector Nat 8} (p : Port) (h : ∀ q : Port, v[q] ≤ 65535) (q : Port) :
    (upd v p bump)[q] ≤ 65535 := upd_forall (P := (· ≤ 65535)) h (fun _ => bump_le _) q

theorem countRejected_contained (p : Port) (s : State) : Contained s (countRejected p s) :=
  .of_same (hcounters := fun ⟨hports, hrest⟩ =>
    ⟨fun q => ⟨bumpAt_le p (fun q => (hports q).1) q, (hports q).2⟩, hrest⟩)

theorem countPlayDrop_contained (p : Port) (s : State) : Contained s (countPlayDrop p s) :=
  .of_same (hcounters := fun ⟨hports, hrest⟩ =>
    ⟨fun q => ⟨(hports q).1, bumpAt_le p (fun q => (hports q).2.1) q, (hports q).2.2⟩, hrest⟩)

theorem countTimingSlip_contained (p : Port) (s : State) : Contained s (countTimingSlip p s) :=
  .of_same (hcounters := fun ⟨hports, hrest⟩ =>
    ⟨fun q => ⟨(hports q).1, (hports q).2.1, bumpAt_le p (fun q => (hports q).2.2.1) q,
      (hports q).2.2.2⟩, hrest⟩)

theorem countServiceOverrun_contained (p : Port) (s : State) : Contained s (countServiceOverrun p s) :=
  .of_same (hcounters := fun ⟨hports, hrest⟩ =>
    ⟨fun q => ⟨(hports q).1, (hports q).2.1, (hports q).2.2.1,
      bumpAt_le p (fun q => (hports q).2.2.2) q⟩, hrest⟩)

theorem countHeldOverflow_contained (s : State) : Contained s (countHeldOverflow s) :=
  .of_same (hcounters := fun ⟨hports, _, hrest⟩ => ⟨hports, bump_le _, hrest⟩)

theorem countChangeOverflow_contained (s : State) : Contained s (countChangeOverflow s) :=
  .of_same (hcounters := fun ⟨hports, hheld, _, hrepairs⟩ => ⟨hports, hheld, bump_le _, hrepairs⟩)

theorem countRepairs_contained (n : Nat) (s : State) : Contained s (countRepairs n s) :=
  .of_same (hcounters := fun ⟨hports, hheld, hchange, _⟩ => ⟨hports, hheld, hchange, Nat.min_le_right _ _⟩)

theorem flagStore_contained (s : State) : Contained s (flagStore s) := .of_same

theorem flagChange_contained (s : State) : Contained s (flagChange s) := .of_same

/-! ### Blocks that hold nothing bounded -/

theorem modifyStore_contained (f : Store → Store) (s : State) : Contained s (modifyStore f s) := .of_same

theorem modifyContact_contained (i : Pedal) (f : Debouncer → Debouncer) (s : State) :
    Contained s (modifyContact i f s) := .of_same

theorem advanceTo_contained (m : Nat) (s : State) : Contained s (advanceTo m s) := .of_same

/-- The tempo engine changed, its tap history kept. -/
theorem modifyTempo_contained {f : Tempo → Tempo} {s : State} (h : (f s.tempo).taps = s.tempo.taps) :
    Contained s (modifyTempo f s) :=
  .of_same (htaps := fun ht => by rwa [show (modifyTempo f s).tempo.taps = s.tempo.taps from h])

/-- The change controller changed, its queue kept or replaced by one in its bound. -/
theorem modifyChange_contained {f : Change → Change} {s : State}
    (h : s.change.queue.length ≤ 4 → (f s.change).queue.length ≤ 4) : Contained s (modifyChange f s) :=
  .of_same (hqueue := h)

/-- The settings changed, the outbound port records kept. -/
theorem modifySettings_contained {f : Settings → Settings} {s : State}
    (h : (f s.settings).outbound = s.settings.outbound) : Contained s (modifySettings f s) :=
  .of_same (hmodes := h)

/-! ### Offers to the outbound queues (R13–R15) -/

theorem offerTiming_contained (p : Port) (f : Frame) (s : State) : Contained s (offerTiming p f s) := by
  rcases offerTiming_spec s p f with ⟨hroom, he⟩ | ⟨-, he⟩ <;> rw [he]
  · refine modifyOut_contained p _ s (fun m h => ?_) (.inl rfl)
    exact { h with timing := by simpa using hroom }
  · exact countTimingSlip_contained p s

theorem offerTickOut_contained (f : Frame) (s : State) : Contained s (offerTickOut f s) :=
  foldl_contained (fun s p => offerTiming_contained p f s) _ s

/-- A frame at the tail of a play queue of fewer than 28 frames: with it the queue holds at most 28, of any source. -/
theorem pushPlay_contained (p : Port) (q : Queued) (s : State) (hroom : s.link.outs[p].play.length < 28) :
    Contained s (pushPlay p q s) := by
  refine modifyOut_contained p _ s (fun m h => ?_) (.inl rfl)
  have hlen : (s.link.outs[p].play ++ [q]).length ≤ 28 := by simpa using hroom
  exact { h with play := hlen.trans (by decide), admitted := List.countP_le_length.trans hlen }

theorem offerPlay_contained (p : Port) (q : Queued) (s : State) : Contained s (offerPlay p q s) := by
  rcases offerPlay_spec s p q with ⟨hroom, he⟩ | ⟨-, he⟩ <;> rw [he]
  · exact pushPlay_contained p q s hroom
  · exact countPlayDrop_contained p s

/-- R15, R66: a Release or Port Silence at the tail of a play queue of fewer than 32 frames is not counted among the
frames that the limit of 28 is for. -/
theorem pushPlay_exempt_contained (p : Port) (q : Queued) (s : State) (hroom : s.link.outs[p].play.length < 32)
    (hsrc : q.source = .held ∨ q.source = .silence) : Contained s (pushPlay p q s) := by
  refine modifyOut_contained p _ s (fun m h => ?_) (.inl rfl)
  refine { h with play := by simpa using hroom, admitted := ?_ }
  have hexempt : otherThanReleases [q] = 0 := by rcases hsrc with hq | hq <;> simp [otherThanReleases, hq]
  have hsplit : otherThanReleases (s.link.outs[p].play ++ [q])
      = otherThanReleases s.link.outs[p].play + otherThanReleases [q] :=
    List.countP_append
  show otherThanReleases (s.link.outs[p].play ++ [q]) ≤ 28
  rw [hsplit, hexempt]
  exact h.admitted

/-! ### The held-note table (spec 04) -/

theorem makeReleasing_contained (which : Entry → Bool) (value : Entry → Option Nat) (s : State) :
    Contained s (makeReleasing which value s) :=
  .of_same (htable := by rw [makeReleasing_held]; simp)

theorem createEntry_within (id : Ident) (h : Handling) {s : State} (hroom : s.held.table.length < 128) (hs : Within s) :
    Within (createEntry id h s) :=
  { hs with table := by simpa [createEntry] using hroom }

theorem restrikeEntry_contained (id : Ident) (h : Handling) (s : State) : Contained s (restrikeEntry id h s) :=
  .of_same (htable := by simp [restrikeEntry])

theorem playAdmits_iff (p : Port) (s : State) : playAdmits p s = true ↔ s.link.outs[p].play.length < 28 :=
  decide_eq_true_iff

theorem offerLayer_contained (id : Ident) (h : Handling) (f : Frame) (s : State) :
    Contained s (offerLayer id h f s) := by
  rcases offerLayer_spec s id h f with
    ⟨-, -, he⟩ | ⟨-, hroom, hadm, he⟩ | ⟨_, -, hadm, he⟩ | ⟨-, -, he⟩ <;> rw [he]
  · exact countHeldOverflow_contained s
  · have hpush := pushPlay_contained id.dst.port { frame := f, source := .zone } s ((playAdmits_iff _ _).mp hadm)
    exact ⟨fun hs => createEntry_within id h (by simpa using hroom) (hpush.within hs), hpush.services, hpush.places⟩
  · exact (pushPlay_contained _ _ s ((playAdmits_iff _ _).mp hadm)).trans (restrikeEntry_contained ..)
  · exact countPlayDrop_contained _ s

theorem keyUp_contained (src : SourceTriple) (v : Option Nat) (s : State) : Contained s (keyUp src v s) :=
  Contained.trans (.of_same (htable := by simp)) (makeReleasing_contained ..)

theorem releaseAll_contained (s : State) : Contained s (releaseAll s) := makeReleasing_contained ..

theorem dropEntry_contained (id : Ident) (s : State) : Contained s (dropEntry id s) :=
  .of_same (htable := List.length_filter_le ..)

theorem drainOne_contained (p : Port) (s : State) : Contained s (drainOne p s) := by
  rcases drainOne_spec s p with ⟨-, he⟩ | ⟨id, hroom, -, ⟨-, he⟩ | ⟨e, -, ⟨-, he⟩ | ⟨-, he⟩⟩⟩ <;> rw [he]
  · exact .refl s
  · exact dropEntry_contained id s
  · exact dropEntry_contained id s
  · exact (dropEntry_contained id s).trans (pushPlay_exempt_contained _ _ _ hroom (.inl rfl))

theorem drainTimes_contained (p : Port) (n : Nat) (s : State) : Contained s (drainTimes p n s) := by
  induction n generalizing s with
  | zero => exact .refl s
  | succ n ih => exact (drainOne_contained p s).trans (ih _)

/-! ### Sustain (R69–R74, R77, R78) -/

theorem modifySustain_contained (p : Port) (l : Lane) (f : SustainRecord → SustainRecord) (s : State) :
    Contained s (modifySustain p l f s) := .of_same

theorem modifyHold_contained (d : DestLane) (f : Nat → Nat) (s : State) : Contained s (modifyHold d f s) := .of_same

theorem offerSustain_contained (d : DestLane) (v : Half) (s : State) : Contained s (offerSustain d v s) :=
  offerPlay_contained ..

theorem forwardLane_contained (p : Port) (l : Lane) (s : State) (d : DestLane) : Contained s (forwardLane p l s d) := by
  have hcounted := (modifySustain_contained p l (fun r => { r with forwarded := r.forwarded ++ [d] }) s).trans
    (modifyHold_contained d (· + 1) _)
  exact .ite (.refl s)
    (.ite (countHeldOverflow_contained s) (.ite (hcounted.trans (offerSustain_contained ..)) hcounted))

theorem sustainDown_contained (p : Port) (l : Lane) (ds : List DestLane) (s : State) :
    Contained s (sustainDown p l ds s) :=
  .ite (.refl s) ((modifySustain_contained ..).trans (foldl_contained (forwardLane_contained p l) ..))

theorem unforwardLane_contained (s : State) (d : DestLane) : Contained s (unforwardLane s d) :=
  .ite ((modifyHold_contained ..).trans (offerSustain_contained ..)) (modifyHold_contained ..)

theorem sustainUp_contained (p : Port) (l : Lane) (s : State) : Contained s (sustainUp p l s) := by
  unfold sustainUp
  split
  · exact .after (modifySustain_contained ..) (.after (foldl_contained unforwardLane_contained ..)
      (.after (makeReleasing_contained ..) (modifySustain_contained ..)))
  · exact .refl s

theorem doPanic_contained (s : State) : Contained s (doPanic s) := by
  unfold doPanic
  generalize sourceLanes = lanes
  exact (releaseAll_contained s).trans (foldl_contained (fun s pl => sustainUp_contained pl.1 pl.2 s) lanes _)

theorem flushHeld_contained (p : Port) (s : State) : Contained s (flushHeld p s) :=
  .of_same (htable := List.length_filter_le ..)

/-! ### The zone engine (spec 02) -/

theorem playLayer_contained (src : SourceTriple) (s10 : Nat) (s : State) (y : Zone × Dest) :
    Contained s (playLayer src s10 s y) := .ite (.refl s) (offerLayer_contained ..)

theorem zoneStrike_contained (p : Port) (l : Lane) (k : Key) (a : StrikeAmount) (s : State) :
    Contained s (zoneStrike p l k a s) := foldl_contained (playLayer_contained _ _) ..

theorem zoneRelease_contained (p : Port) (l : Lane) (k : Key) (a : ReleaseAmount) (s : State) :
    Contained s (zoneRelease p l k a s) := keyUp_contained ..

theorem playControl_contained (n : Byte) (v : Half) (s : State) (d : DestLane) : Contained s (playControl n v s d) :=
  .ite (.refl s) (offerPlay_contained ..)

theorem zoneControl_contained (p : Port) (l : Lane) (n : Byte) (v : Half) (s : State) :
    Contained s (zoneControl p l n v s) := foldl_contained (playControl_contained _ _) ..

theorem zoneSustain_contained (p : Port) (l : Lane) (v : Half) (s : State) : Contained s (zoneSustain p l v s) :=
  .ite (sustainDown_contained ..) (sustainUp_contained ..)


/-! ### The tempo engine (spec 05)

Of what it holds only the tap history is bounded, and only a tap changes that. -/

@[simp] theorem adjustPosition_taps (t : Tempo) : (adjustPosition t).taps = t.taps := by
  unfold adjustPosition
  split <;> rfl

@[simp] theorem takeEffectStopped_taps (i : Slot) (t : Tempo) : (takeEffectStopped i t).taps = t.taps :=
  adjustPosition_taps _

@[simp] theorem selectSlot_taps (i : Slot) (t : Tempo) : (selectSlot i t).taps = t.taps := by
  unfold selectSlot
  repeat' split
  · rfl
  · exact takeEffectStopped_taps i t
  · rfl
  · rfl

@[simp] theorem afterRewrite_taps (i : Slot) (t : Tempo) : (afterRewrite i t).taps = t.taps := by
  unfold afterRewrite
  repeat' split
  · exact takeEffectStopped_taps i t
  · rfl
  · rfl

@[simp] theorem rewriteSlot_taps (i : Slot) (r : TempoRecord) (t : Tempo) : (rewriteSlot i r t).taps = t.taps :=
  afterRewrite_taps i _

@[simp] theorem nextBeat_taps (c : Nat) (t : Tempo) : (nextBeat c t).taps = t.taps := by
  unfold nextBeat
  repeat' split
  all_goals rfl

@[simp] theorem stepAccumulator_taps (t : Tempo) : (stepAccumulator t).taps = t.taps := by
  unfold stepAccumulator
  dsimp only
  split <;> rfl

@[simp] theorem settleTempo_taps (b : Bool) (t : Tempo) : (settleTempo b t).taps = t.taps := by
  unfold settleTempo
  dsimp only
  repeat' split
  all_goals rfl

@[simp] theorem stopTempo_taps (t : Tempo) : (stopTempo t).taps = t.taps := by
  have hpos : (stopPosition t).taps = t.taps := by
    unfold stopPosition
    split <;> rfl
  unfold stopTempo
  dsimp only
  split
  · rw [takeEffectStopped_taps]; exact hpos
  · rw [adjustPosition_taps]; exact hpos

/-- R106: the tap history holds at most four taps. -/
theorem addTap_length (m : Nat) {taps : List Nat} (h : taps.length ≤ 4) : (addTap m taps).length ≤ 4 := by
  unfold addTap
  split
  · simp
  · split
    · simp
    · simp only [List.length_drop, List.length_append, List.length_cons, List.length_nil]
      omega

theorem samplePedals_contained (s : State) : Contained s (samplePedals s) := by
  unfold samplePedals
  split
  · exact modifyTempo_contained (selectSlot_taps ..)
  · exact .refl s

theorem offerTransport_contained (a : Byte) (bar beat : Nat) (s : State) :
    Contained s (offerTransport a bar beat s) := offerTickOut_contained ..

theorem modifyFeed_contained (i : Port) (f : FeedState → FeedState) (s : State) : Contained s (modifyFeed i f s) :=
  modifyTempo_contained rfl

theorem offerClick_contained (i : Port) (c : ClickPoint) (s : State) : Contained s (offerClick i c s) :=
  offerTiming_contained ..

theorem decideClick_contained (s : State) (i : Port) : Contained s (decideClick s i) := by
  have hmark (f : FeedState → FeedState) (c : ClickPoint) : Contained s (modifyFeed i f (offerClick i c s)) :=
    .after (modifyFeed_contained ..) (offerClick_contained ..)
  exact .ite (.refl s) (.ite (.ite (.refl s) (hmark ..))
    (.ite (.ite (.ite (.refl s) (hmark ..)) (.ite (offerClick_contained ..) (.refl s))) (.refl s)))

theorem decideClicks_contained (s : State) : Contained s (decideClicks s) := foldl_contained decideClick_contained ..

theorem placeBeatClick_contained (s : State) (i : Port) : Contained s (placeBeatClick s i) :=
  .ite (.after (modifyFeed_contained ..) (offerClick_contained ..)) (.refl s)

theorem placeBeatClicks_contained (s : State) : Contained s (placeBeatClicks s) :=
  foldl_contained placeBeatClick_contained ..

theorem offerTick_contained (s : State) : Contained s (offerTick s) := .ite (offerTickOut_contained ..) (.refl s)

theorem beginFirstBeat_contained (s : State) : Contained s (beginFirstBeat s) :=
  .after (placeBeatClicks_contained _) (.after (offerTick_contained _)
    (modifyTempo_contained (stepAccumulator_taps _)))

theorem startClock_contained (s : State) : Contained s (startClock s) := by
  unfold startClock
  refine .after (beginFirstBeat_contained _) ?_
  have hstart (f : Tempo → Tempo) (hf : ∀ t, (f t).taps = t.taps) : Contained s (modifyTempo f (samplePedals s)) :=
    .after (modifyTempo_contained (hf _)) (samplePedals_contained s)
  exact .ite (.after (offerTransport_contained ..) (hstart _ fun _ => rfl)) (hstart _ fun _ => rfl)

theorem doStart_contained (s : State) : Contained s (doStart s) := .ite (startClock_contained s) (.refl s)

theorem doContinue_contained (s : State) : Contained s (doContinue s) :=
  .ite (.after (beginFirstBeat_contained _) (.after (offerTransport_contained ..) (modifyTempo_contained rfl)))
    (.refl s)

theorem resetPosition_contained (s : State) : Contained s (resetPosition s) := by
  unfold resetPosition
  dsimp only
  split
  · exact .refl s
  · exact .after (offerTransport_contained ..) (modifyTempo_contained rfl)
  · exact .ite (.after (offerTransport_contained ..) (modifyTempo_contained rfl)) (modifyTempo_contained rfl)

theorem songReset_contained (m : SwitchMoment) (s : State) : Contained s (songReset m s) := by
  have hsettled (f : Tempo → Tempo) (hf : ∀ t, (f t).taps = t.taps) :
      Contained s (modifyTempo f (samplePedals (resetPosition s))) :=
    .after (modifyTempo_contained (hf _)) (.after (samplePedals_contained _) (resetPosition_contained s))
  unfold songReset
  split
  · exact .refl s
  · exact resetPosition_contained s
  · exact .after (beginFirstBeat_contained _) (hsettled _ (settleTempo_taps true))
  · exact .after (placeBeatClicks_contained _) (hsettled _ fun t => by simp)

theorem rewriteInEffect_contained (t : Nat) (s : State) : Contained s (rewriteInEffect t s) :=
  modifyTempo_contained (rewriteSlot_taps ..)

theorem doTap_contained (m : Nat) (s : State) : Contained s (doTap m s) := by
  have htap : Contained s (modifyTempo (fun t => { t with taps := addTap m s.tempo.taps }) s) :=
    .of_same (htaps := addTap_length m)
  unfold doTap
  dsimp only
  split
  · refine .after (rewriteInEffect_contained ..) (.ite (.after ?_ htap) htap)
    exact .of_same
  · exact htap

theorem loadSongSlots_contained (ts : List TempoRaw) (s : State) : Contained s (loadSongSlots ts s) := by
  refine .after (countRepairs_contained ..) (modifyTempo_contained ?_)
  dsimp only
  split
  · exact afterRewrite_taps ..
  · rfl

/-! ### Scene fetches and the change controller (spec 06) -/

theorem closeFetch_contained (s : State) : Contained s (closeFetch s) := modifyStore_contained ..

theorem setFreeTick_contained (n : Nat) (s : State) : Contained s (s.setFreeTick n) := .of_same

theorem abandonFetch_contained (s : State) : Contained s (abandonFetch s) := by
  unfold abandonFetch
  split
  · exact .refl s
  · exact .ite (.after (closeFetch_contained _) (.after (setFreeTick_contained ..) (countRepairs_contained ..)))
      (closeFetch_contained s)

theorem redecideFetch_contained (s : State) : Contained s (redecideFetch s) := by
  unfold redecideFetch
  split
  · exact .ite (modifyStore_contained ..) (.refl s)
  · exact .refl s

theorem endRequest_contained (o : ChangeOutcome) (x : Origin) (s : State) : Contained s (endRequest o x s) := by
  have hended (f : Change → Change) (hf : ∀ c, (f c).queue = c.queue) : Contained s (modifyChange f s) :=
    modifyChange_contained fun h => by rwa [hf]
  unfold endRequest
  dsimp only
  split
  · exact hended _ fun _ => rfl
  · exact hended _ fun _ => rfl
  · exact hended _ fun _ => rfl
  all_goals exact .after (flagChange_contained _) (hended _ fun _ => rfl)

/-- R118, R120: what the controller takes requests from becomes its queue. -/
theorem takeAll_contained (rs : List ChangeRequest) (s : State) (h : s.change.queue.length ≤ 4 → rs.length ≤ 4) :
    Contained s (takeAll rs s) := by
  induction rs generalizing s with
  | nil => exact modifyChange_contained fun _ => Nat.zero_le 4
  | cons r rs ih =>
    have hrest : s.change.queue.length ≤ 4 → rs.length ≤ 4 := fun hq => Nat.le_of_succ_le (h hq)
    have hended (o : ChangeOutcome) : Contained s (takeAll rs (endRequest o r.origin s)) :=
      (endRequest_contained o r.origin s).trans (ih _ (by rwa [endRequest_change]))
    unfold takeAll
    split
    · exact hended _
    · dsimp only
      split
      · exact hended .noSet
      · split
        · exact hended .empty
        · refine .after (modifyStore_contained ..) (.after (modifyChange_contained id) ?_)
          exact modifyChange_contained hrest

theorem takeNext_contained (s : State) : Contained s (takeNext s) := takeAll_contained _ s id

theorem offerStep_contained (k : StepKind) (n : Nat) (x : Origin) (s : State) : Contained s (offerStep k n x s) := by
  unfold offerStep
  split
  · next hroom =>
    have hlen : s.change.queue.length < 4 := of_decide_eq_true hroom
    have hqueued : Contained s (modifyChange (fun c =>
        { c with queue := c.queue ++ [{ kind := stepKind k, number := n, origin := x }] }) s) :=
      modifyChange_contained fun _ => by simpa using hlen
    exact .ite (.after (takeNext_contained _) hqueued) hqueued
  · exact countChangeOverflow_contained s

theorem abandonChange_contained (s : State) : Contained s (abandonChange s) :=
  .after (modifyChange_contained id) (abandonFetch_contained s)

/-- R117: a GOTO is the only request of the queue. -/
theorem offerGoto_contained (k : GotoKind) (n : Nat) (x : Origin) (s : State) : Contained s (offerGoto k n x s) := by
  have htaken (r : ChangeRequest) (s : State) : Contained s (takeAll [r] s) :=
    takeAll_contained [r] s fun _ => by simp
  unfold offerGoto
  dsimp only
  split
  · exact htaken _ s
  · exact .after (htaken ..) (abandonChange_contained s)
  · exact .after (htaken ..) (abandonChange_contained s)
  · exact modifyChange_contained fun _ => by simp

/-! ### The burst (R14, R128, R129) -/

theorem pushBurst_contained (p : Port) (f : Frame) (s : State) (hroom : burstHasRoom p s = true) :
    Contained s (pushBurst p f s) := by
  have hlen : s.link.outs[p].burst.length < 16 := of_decide_eq_true hroom
  exact modifyOut_contained p _ s (fun m h => { h with burst := by simpa using hlen }) (.inl rfl)

theorem advanceBurst_contained (s : State) : Contained s (advanceBurst s) := modifyChange_contained id

/-- R128: the part with the Sound Select of the entry at the burst cursor placed on its port, if it was not yet. -/
def selectDone (p : Port) (e : BurstEntry) (s : State) : State :=
  if s.change.selectPlaced then s
  else modifyChange (fun c => { c with selectPlaced := true }) (pushBurst p (entrySelect e) s)

/-- R128: what becomes of the entry at the burst cursor: passed over; no room for its Sound Select; done with its Sound
Select, or with its level after that; or left with its level to place. -/
theorem placeEntry_spec (e : BurstEntry) (s : State) :
    (entryPort e s = none ∧ placeEntry e s = (advanceBurst s, true))
      ∨ ∃ p, entryPort e s = some p
        ∧ (placeEntry e s = (s, false)
          ∨ ((s.change.selectPlaced = true ∨ burstHasRoom p s = true)
            ∧ (placeEntry e s = (advanceBurst (selectDone p e s), true)
              ∨ (burstHasRoom p (selectDone p e s) = true
                ∧ placeEntry e s = (advanceBurst (pushBurst p (entryLevel e) (selectDone p e s)), true))
              ∨ placeEntry e s = (selectDone p e s, false)))) := by
  unfold placeEntry
  cases entryPort e s with
  | none => exact .inl ⟨rfl, rfl⟩
  | some p =>
    refine .inr ⟨p, rfl, ?_⟩
    dsimp only
    by_cases hstuck : (!s.change.selectPlaced && !burstHasRoom p s) = true
    · exact .inl (if_pos hstuck)
    · rw [if_neg hstuck]
      refine .inr ⟨by simpa [Classical.or_iff_not_imp_left] using hstuck, ?_⟩
      by_cases hlevel : (!e.hasLevel) = true
      · exact .inl (if_pos hlevel)
      · rw [if_neg hlevel]
        by_cases hroom : burstHasRoom p (selectDone p e s) = true
        · exact .inr (.inl ⟨hroom, if_pos hroom⟩)
        · exact .inr (.inr (if_neg hroom))

theorem placeEntry_contained (e : BurstEntry) (s : State) : Contained s (placeEntry e s).1 := by
  rcases placeEntry_spec e s with ⟨-, he⟩ | ⟨p, -, he | ⟨hselect, hrest⟩⟩
  · rw [he]; exact advanceBurst_contained s
  · rw [he]; exact .refl s
  · have hdone : Contained s (selectDone p e s) := by
      unfold selectDone
      split
      · exact .refl s
      · next hplaced =>
        exact .after (modifyChange_contained id) (pushBurst_contained p _ s (hselect.resolve_left hplaced))
    rcases hrest with he | ⟨hroom, he⟩ | he <;> rw [he]
    · exact .after (advanceBurst_contained _) hdone
    · exact .after (advanceBurst_contained _) (.after (pushBurst_contained _ _ _ hroom) hdone)
    · exact hdone

theorem placeFrom_contained (es : List BurstEntry) (s : State) : Contained s (placeFrom es s) := by
  induction es generalizing s with
  | nil => exact .refl s
  | cons e es ih => exact .ite ((placeEntry_contained e s).trans (ih _)) (placeEntry_contained e s)

theorem placeBursts_contained (s : State) : Contained s (placeBursts s) := .ite (placeFrom_contained ..) (.refl s)

theorem endChange_contained (s : State) : Contained s (endChange s) :=
  .ite (.after (takeNext_contained _) (modifyChange_contained id)) (.refl s)

/-! ### The switch (R125–R127) -/

theorem applyLeave_contained (l : LeavePolicy) (s : State) : Contained s (applyLeave l s) := by
  unfold applyLeave
  split
  · exact releaseAll_contained s
  · exact .refl s

theorem applyTempoSlot_contained (i : Option Slot) (s : State) : Contained s (applyTempoSlot i s) := by
  unfold applyTempoSlot
  split
  · exact modifyTempo_contained (selectSlot_taps ..)
  · exact .refl s

theorem switchTempo_contained (m : SwitchMoment) (c : SceneCopy) (song : Bool) (s : State) :
    Contained s (switchTempo m c song s) := by
  have hslot : Contained s (applyTempoSlot c.block.tempoSlot (if song then loadSongSlots c.header.tempos s else s)) :=
    .after (applyTempoSlot_contained ..) (.ite (loadSongSlots_contained ..) (.refl s))
  exact .ite (.after (songReset_contained ..) hslot) hslot

theorem doSwitch_contained (m : SwitchMoment) (s : State) : Contained s (doSwitch m s) := by
  unfold doSwitch
  split
  · next copy tg _ _ =>
    have hauto (s : State) : Contained s (autoStart copy s) := .ite (doStart_contained s) (.refl s)
    exact .after (endChange_contained _) (.after (placeBursts_contained _) (.after (hauto _)
      (.after (switchTempo_contained ..) (.after (modifyTempo_contained rfl) (.after (modifyChange_contained id)
        (applyLeave_contained ..))))))
  · exact .refl s

theorem doFetchEnd_contained (m : SwitchMoment) (s : State) : Contained s (doFetchEnd m s) := by
  unfold doFetchEnd
  split
  · next f tg _ _ =>
    refine .ite ?_ (.refl s)
    have hclosed (n : Nat) : Contained s (countRepairs n (closeFetch s)) :=
      .after (countRepairs_contained ..) (closeFetch_contained s)
    dsimp only
    split
    · exact .after (takeNext_contained _) (.after (endRequest_contained ..) (hclosed _))
    · exact .ite (.after (doSwitch_contained ..) (.after (modifyChange_contained id) (hclosed _)))
        (.after (modifyChange_contained id) (hclosed _))
  · exact .refl s

theorem giveStop_contained (s : State) : Contained s (giveStop s) := .ite (doSwitch_contained ..) (.refl s)

/-! ### The clock where it meets the change controller (spec 05) -/

theorem doStop_contained (s : State) : Contained s (doStop s) :=
  .ite (.refl s) (.after (giveStop_contained _) (.after (offerTransport_contained ..)
    (modifyTempo_contained (stopTempo_taps _))))

theorem doClickToggle_contained (s : State) : Contained s (doClickToggle s) :=
  .ite (doStart_contained s) (doStop_contained s)

theorem doSubTick_contained (s : State) : Contained s (doSubTick s) :=
  .ite (.after (decideClicks_contained _) (.after (offerTick_contained _)
    (modifyTempo_contained (stepAccumulator_taps _)))) (.refl s)

theorem advancePosition_contained (s : State) : Contained s (advancePosition s) := by
  have hmoved : Contained s (modifyTempo (fun t => carryClicks { nextBeat s.countIn t with subTick := 0 }) s) :=
    modifyTempo_contained (nextBeat_taps ..)
  exact .ite (.after (offerTransport_contained ..) hmoved) hmoved

theorem doBoundary_contained (s : State) : Contained s (doBoundary s) := by
  unfold doBoundary
  refine .ite ?_ (.refl s)
  dsimp only
  have hticked (b reset : Bool) (m : Bool) : Contained s (offerTick (modifyTempo
      (fun t => { stepAccumulator (settleTempo (b || reset) t) with boundaryBegan := true })
      (samplePedals (if m then doSwitch .boundary (advancePosition s) else advancePosition s)))) :=
    .after (offerTick_contained _) (.after (modifyTempo_contained (by simp)) (.after (samplePedals_contained _)
      (.ite (.after (doSwitch_contained ..) (advancePosition_contained s)) (advancePosition_contained s))))
  exact .ite (.after (placeBeatClicks_contained _) (hticked ..)) (.after (decideClicks_contained _) (hticked ..))


/-! ### The rig link (spec 01) -/

theorem setReceiver_contained (p : Port) (r : Receiver) (s : State) : Contained s (setReceiver p r s) := .of_same

theorem reject_contained (p : Port) (r : Receiver) (s : State) : Contained s (reject p r s) :=
  .after (setReceiver_contained ..) (countRejected_contained p s)

theorem playSelect_contained (p : Port) (b : Byte) (s : State) : Contained s (playSelect p b s) := by
  unfold playSelect
  refine .ite ?_ (.refl s)
  split
  · exact offerGoto_contained ..
  · exact .refl s

theorem clockAction_contained {a : Byte} {f : State → State} (h : clockAction? a = some f) (s : State) :
    Contained s (f s) := by
  unfold clockAction? at h
  split at h
  · cases h; exact doStart_contained s
  · cases h; exact doStop_contained s
  · cases h; exact doContinue_contained s
  · cases h

theorem playTransport_contained (p : Port) (a : Byte) (s : State) : Contained s (playTransport p a s) := by
  unfold playTransport
  refine .ite ?_ (.refl s)
  split
  · next f hf => exact clockAction_contained hf s
  · exact .refl s

theorem onLane_contained {f : Lane → State → State} (h : ∀ l s, Contained s (f l s)) (lane : Byte) (s : State) :
    Contained s (onLane lane f s) := by
  unfold onLane
  split
  · exact h ..
  · exact .refl s

theorem onKey_contained {f : Lane → Key → State → State} (h : ∀ l k s, Contained s (f l k s)) (lane key : Byte)
    (s : State) : Contained s (onKey lane key f s) := by
  unfold onKey
  split
  · exact h ..
  · exact .refl s

theorem playFrame_contained (p : Port) (f : Frame) (s : State) : Contained s (playFrame p f s) := by
  cases f with
  | strikeLong lane key v => exact onKey_contained (fun l k s => zoneStrike_contained p l k (.long v) s) lane key s
  | strikeShort lane key v => exact onKey_contained (fun l k s => zoneStrike_contained p l k (.short v) s) lane key s
  | releaseLong lane key v => exact onKey_contained (fun l k s => zoneRelease_contained p l k (.long v) s) lane key s
  | releaseShort lane key v => exact onKey_contained (fun l k s => zoneRelease_contained p l k (.short v) s) lane key s
  | control lane number v =>
    exact onLane_contained (fun l s => .ite (zoneSustain_contained ..) (zoneControl_contained ..)) lane s
  | soundSelect lane bank sound => exact playSelect_contained p sound s
  | transport action bar beat => exact playTransport_contained p action s
  | beatTick | click | portSilence | request | reply => exact .refl s

theorem thruFrame_contained (p : Port) (f : Frame) (s : State) : Contained s (thruFrame p f s) := by
  unfold thruFrame
  split
  · exact offerPlay_contained ..
  · exact .refl s

/-! ### Flush (R25, R26) -/

theorem flushChange_contained (p : Port) (s : State) : Contained s (flushChange p s) := by
  unfold flushChange
  refine .ite (.after (endChange_contained _) (.after (placeBursts_contained _) ?_)) (.refl s)
  exact .ite (.after (advanceBurst_contained _) (modifyChange_contained id)) (modifyChange_contained id)

theorem doFlush_contained (p : Port) (s : State) : Contained s (doFlush p s) := by
  have hflushed : Contained s (modifyOut p OutPort.flushed s) :=
    modifyOut_contained p _ s (fun m h =>
      { timing := Nat.zero_le 4, burst := Nat.zero_le 16, play := Nat.zero_le 32, service := Nat.zero_le 4
        serviceWait := Nat.zero_le 16, admitted := Nat.zero_le 28, interleave := Nat.zero_le 8, mode := h.mode })
      (.inr rfl)
  have hempty : (flushHeld p (modifyOut p OutPort.flushed s)).link.outs[p].play = [] := by
    rw [flushHeld_link, modifyOut_outs, if_pos rfl]
    rfl
  exact .after (flushChange_contained ..) (.after (pushPlay_exempt_contained _ _ _ (by rw [hempty]; decide) (.inr rfl))
    (.after (flushHeld_contained ..) hflushed))

/-! ### Pedals (spec 07) -/

theorem holdFunction_contained (r : PedalRecord) (s : State) : Contained s (holdFunction r s) := by
  unfold holdFunction
  split
  · exact sustainDown_contained ..
  · exact .refl s

theorem letGo_contained (r : PedalRecord) (s : State) : Contained s (letGo r s) := by
  unfold letGo
  split
  · exact sustainUp_contained ..
  · exact .refl s

theorem turnToggle_contained (p : Port) (s : State) : Contained s (turnToggle p s) :=
  modifyOut_contained p _ s (fun _ h => { h with }) (.inl rfl)

theorem pressPedal_contained (r : PedalRecord) (s : State) : Contained s (pressPedal r s) := by
  unfold pressPedal
  split
  · exact offerStep_contained ..
  · exact offerStep_contained ..
  · exact offerStep_contained ..
  · exact offerStep_contained ..
  · exact doPanic_contained s
  · exact doTap_contained ..
  · exact doClickToggle_contained s
  · exact turnToggle_contained ..
  · exact holdFunction_contained ..
  · exact holdFunction_contained ..
  · exact holdFunction_contained ..
  · exact .refl s

theorem settledEdge_contained (r : PedalRecord) (d d' : Debouncer) (s : State) : Contained s (settledEdge r d d' s) :=
  .ite (.ite (holdFunction_contained r s) (.refl s))
    (.ite (pressPedal_contained r s) (.ite (letGo_contained r s) (.refl s)))

theorem settleIfDue_contained (i : Pedal) (s : State) : Contained s (settleIfDue i s) :=
  .ite (.after (settledEdge_contained ..) (modifyContact_contained ..)) (.refl s)

theorem setPedalRecord_contained (i : Pedal) (r : PedalRecord) (s : State) : Contained s (setPedalRecord i r s) :=
  modifySettings_contained rfl

theorem reassignPedal_contained (i : Pedal) (r : PedalRecord) (s : State) : Contained s (reassignPedal i r s) := by
  have hset (old : PedalRecord) (b : Bool) : Contained s (setPedalRecord i r (if b then letGo old s else s)) :=
    .after (setPedalRecord_contained ..) (.ite (letGo_contained ..) (.refl s))
  exact .ite (.after (holdFunction_contained ..) (hset ..)) (hset ..)

theorem writePedal_contained (i : Pedal) (r : PedalRecord) (s : State) : Contained s (writePedal i r s) := by
  have hwritten (b : Bool) : Contained s (if b then reassignPedal i r s else setPedalRecord i r s) :=
    .ite (reassignPedal_contained ..) (setPedalRecord_contained ..)
  exact .ite (.after (settleIfDue_contained ..) (hwritten _)) (hwritten _)

/-! ### Requests over settings, curves and the set list (spec 09) -/

/-- A WRITE SETTING does what its record's writing does, on a record that has passed its checks, or nothing. -/
theorem writeRecord_contained {α : Type} {of? : List Nat → Option α} {fieldsOf : α → List Nat}
    {write : α → State → State} {old : α} {start : Byte} {values : List Half} {s : State}
    (h : ∀ fields new, of? fields = some new → Contained s (write new s)) :
    Contained s (writeRecord of? fieldsOf write old start values s).1 := by
  unfold writeRecord
  split
  · exact .refl s
  · split
    · exact .refl s
    · next new hnew => exact h _ new hnew

theorem within?_le {lo hi n k : Nat} (h : within? lo hi n = some k) : k ≤ hi := by
  unfold within? at h
  split at h
  · next hn => cases h; exact hn.2
  · cases h

/-- R21: a checked outbound port record has a burst mode of 0–8. -/
theorem outboundOfFields?_burstMode {fields : List Nat} {r : OutboundRecord} (h : outboundOfFields? fields = some r) :
    r.burstMode ≤ 8 := by
  unfold outboundOfFields? at h
  split at h
  · simp only [Option.bind_eq_bind, Option.bind_eq_some_iff] at h
    obtain ⟨form, -, pacing, -, settle, -, tick, -, mode, hmode, hr⟩ := h
    cases hr
    exact within?_le hmode
  · cases h

theorem writeOutbound_contained (i : Port) (r : OutboundRecord) (hr : r.burstMode ≤ 8) (s : State) :
    Contained s (writeOutbound i r s) := by
  have hset : Contained s (modifySettings (fun t => { t with outbound := upd t.outbound i fun _ => r }) s) :=
    { within := fun h =>
        { ports := fun p => by
            have hmode : (upd s.settings.outbound i fun _ => r)[p].burstMode ≤ 8 :=
              upd_forall (P := fun r : OutboundRecord => r.burstMode ≤ 8) (fun p => (h.ports p).mode) (fun _ => hr) p
            exact { h.ports p with mode := hmode }
          queue := h.queue, table := h.table, taps := h.taps, counters := h.counters }
      services := fun _ => .inl rfl
      places := rfl }
  exact .ite hset
    (.after (modifyOut_contained i _ _ (fun _ h => { h with interleave := Nat.zero_le 8 }) (.inl rfl)) hset)

theorem opWriteInbound_contained (index start : Byte) (values : List Half) (s : State) :
    Contained s (opWriteInbound index start values s).1 := by
  unfold opWriteInbound
  split
  · exact .refl s
  · exact writeRecord_contained fun _ _ _ => modifySettings_contained rfl

theorem opWriteOutbound_contained (index start : Byte) (values : List Half) (s : State) :
    Contained s (opWriteOutbound index start values s).1 := by
  unfold opWriteOutbound
  split
  · exact .refl s
  · exact writeRecord_contained fun _ r hr => writeOutbound_contained _ r (outboundOfFields?_burstMode hr) s

theorem opWritePedal_contained (index start : Byte) (values : List Half) (s : State) :
    Contained s (opWritePedal index start values s).1 := by
  unfold opWritePedal
  split
  · exact .refl s
  · exact writeRecord_contained fun _ _ _ => writePedal_contained ..

theorem opWriteFeed_contained (index start : Byte) (values : List Half) (s : State) :
    Contained s (opWriteFeed index start values s).1 := by
  unfold opWriteFeed
  split
  · exact .refl s
  · exact writeRecord_contained fun _ _ _ => .after (modifyFeed_contained ..) (modifySettings_contained rfl)

theorem opWriteSlot_contained (index start : Byte) (values : List Half) (s : State) :
    Contained s (opWriteSlot index start values s).1 := by
  unfold opWriteSlot
  split
  · exact .refl s
  · exact writeRecord_contained fun _ _ _ => modifyTempo_contained (rewriteSlot_taps ..)

theorem opWriteUnit_contained (index start : Byte) (values : List Half) (s : State) :
    Contained s (opWriteUnit index start values s).1 := by
  unfold opWriteUnit
  split
  · exact writeRecord_contained fun _ _ _ => modifySettings_contained rfl
  · exact .refl s

theorem opWriteSource_contained (index start : Byte) (values : List Half) (s : State) :
    Contained s (opWriteSource index start values s).1 := by
  unfold opWriteSource
  split
  · exact writeRecord_contained fun _ _ _ => modifySettings_contained rfl
  · exact .refl s

theorem opWriteSetting_contained (item index start : Byte) (values : List Half) (s : State) :
    Contained s (opWriteSetting item index start values s).1 := by
  unfold opWriteSetting
  split
  · exact opWriteInbound_contained ..
  · exact opWriteOutbound_contained ..
  · exact opWritePedal_contained ..
  · exact opWriteFeed_contained ..
  · exact opWriteSlot_contained ..
  · exact opWriteUnit_contained ..
  · exact opWriteSource_contained ..
  · exact .refl s

theorem opReadStatus_contained (c : Option Byte) (s : State) : Contained s (opReadStatus c s).1 := by
  unfold opReadStatus
  dsimp only
  split
  · exact .refl s
  · exact .of_same

/-- R190: cleared counters are in their bound. -/
theorem clearCounters_counterInv (p : Option Port) {s : State} (h : CounterInv s) :
    CounterInv (s.setStatus (clearCounters p s.status)) := by
  obtain ⟨hports, hdevice⟩ := h
  have hzero {v : Vector Nat 8} (p : Port) (hv : ∀ q : Port, v[q] ≤ 65535) (q : Port) :
      (upd v p fun _ => 0)[q] ≤ 65535 := upd_forall (P := (· ≤ 65535)) hv (fun _ => Nat.zero_le _) q
  cases p with
  | none => exact ⟨hports, Nat.zero_le _, Nat.zero_le _, Nat.zero_le _⟩
  | some p =>
    exact ⟨fun q => ⟨hzero p (fun q => (hports q).1) q, hzero p (fun q => (hports q).2.1) q,
      hzero p (fun q => (hports q).2.2.1) q, hzero p (fun q => (hports q).2.2.2) q⟩, hdevice⟩

theorem opReadCounters_contained (sel c : Byte) (s : State) : Contained s (opReadCounters sel c s).1 := by
  unfold opReadCounters
  split
  · next p clear _ _ =>
    exact .ite (by cases p <;> exact .of_same (hcounters := clearCounters_counterInv _)) (.refl s)
  · exact .refl s

theorem opReadSetting_contained (item index start count : Byte) (s : State) :
    Contained s (opReadSetting item index start count s).1 := by
  unfold opReadSetting
  split
  · exact .refl s
  · dsimp only
    split <;> exact .refl s

theorem opReadCurve_contained (part start count : Byte) (s : State) :
    Contained s (opReadCurve part start count s).1 := by
  unfold opReadCurve
  split <;> exact .refl s

theorem opWriteCurve_contained (part start : Byte) (points : List Half) (s : State) :
    Contained s (opWriteCurve part start points s).1 := by
  unfold opWriteCurve
  repeat' split
  · exact .refl s
  · exact .of_same
  · exact .refl s

theorem opReadSetList_contained (start count : Byte) (s : State) : Contained s (opReadSetList start count s).1 := by
  unfold opReadSetList
  split <;> exact .refl s

theorem emptySetList_contained (s : State) : Contained s (emptySetList s) :=
  .after (loadSongSlots_contained ..) (.after (modifyChange_contained fun _ => Nat.zero_le 4) (applyLeave_contained ..))

theorem opWriteSetList_contained (pages : List (BitVec 7)) (s : State) : Contained s (opWriteSetList pages s).1 := by
  unfold opWriteSetList replaceSetList
  repeat' split
  · exact .refl s
  · exact .refl s
  · exact .refl s
  · exact .after (emptySetList_contained _) (modifySettings_contained rfl)
  · exact .after (offerGoto_contained ..) (.after (modifyChange_contained id) (modifySettings_contained rfl))

/-! ### Requests over the set store (spec 08)

Of the part they change the store, and KEEP ADJUSTMENTS a mark of the change controller. -/

theorem opBufferWrite_contained (offset : Half) (bytes : List Byte) (s : State) :
    Contained s (opBufferWrite offset bytes s).1 := by
  unfold opBufferWrite
  repeat' split
  · exact .refl s
  · exact .refl s
  · exact .of_same

theorem opBufferRead_contained (offset : Half) (count : Byte) (s : State) :
    Contained s (opBufferRead offset count s).1 := by
  unfold opBufferRead
  split <;> exact .refl s

theorem opPageRead_contained (page : Byte) (offset : Half) (count : Byte) (s : State) :
    Contained s (opPageRead page offset count s).1 := by
  unfold opPageRead
  repeat' split
  all_goals exact .refl s

theorem beginOperation_contained (k : OperationKind) (s : State) : Contained s (beginOperation k s) :=
  modifyStore_contained ..

theorem opBufferLoad_contained (page : Byte) (s : State) : Contained s (opBufferLoad page s).1 := by
  unfold opBufferLoad
  repeat' split
  · exact .refl s
  · exact .refl s
  · exact beginOperation_contained ..

theorem beginCommit_contained (p : Page) (s : State) : Contained s (beginCommit p s) :=
  .after (beginOperation_contained ..) (modifyStore_contained ..)

theorem opCommit_contained (page : Byte) (s : State) : Contained s (opCommit page s).1 := by
  unfold opCommit
  repeat' split
  · exact .refl s
  · exact .refl s
  · exact .refl s
  · exact beginCommit_contained ..

theorem opClear_contained (page : Byte) (s : State) : Contained s (opClear page s).1 := by
  unfold opClear
  repeat' split
  · exact .refl s
  · exact .refl s
  · exact .refl s
  · exact beginOperation_contained ..

theorem storeBuilt_contained (p : Page) (bytes : List Byte) (s : State) : Contained s (storeBuilt p bytes s).1 := by
  unfold storeBuilt
  repeat' split
  · exact .refl s
  · exact .refl s
  · exact .after (beginCommit_contained ..) (modifyStore_contained ..)

theorem opKeep_contained (s : State) : Contained s (opKeep s).1 := by
  unfold opKeep
  repeat' split
  · exact .refl s
  · exact .refl s
  · exact .after (beginOperation_contained ..) (modifyChange_contained id)
  · exact .refl s

theorem opProtectOne_contained (on : Bool) (page : Byte) (s : State) : Contained s (opProtectOne on page s).1 := by
  unfold opProtectOne
  repeat' split
  · exact .refl s
  · exact .refl s
  · exact .refl s
  · exact .refl s
  · exact .of_same

theorem opProtectAll_contained (on : Bool) (s : State) : Contained s (opProtectAll on s).1 := by
  unfold opProtectAll
  repeat' split
  · exact .refl s
  · exact .refl s
  · exact .refl s
  · exact .of_same

theorem opLock_contained (s : State) : Contained s (opLock s).1 := by
  unfold opLock
  split
  · exact .refl s
  · exact .of_same

theorem opUnlock_contained (s : State) : Contained s (opUnlock s).1 := by
  unfold opUnlock
  repeat' split
  · exact .refl s
  · exact .refl s
  · exact .of_same

/-! ### The performance requests (spec 09, 9.4) -/

theorem opChangeStep_contained (k : StepKind) (n : Byte) (s : State) : Contained s (opChangeStep k n s).1 :=
  offerStep_contained ..

theorem opChangeGoto_contained (k : GotoKind) (n : Byte) (s : State) : Contained s (opChangeGoto k n s).1 :=
  offerGoto_contained ..

theorem opChange_contained (kind number : Byte) (s : State) : Contained s (opChange kind number s).1 := by
  unfold opChange
  split
  · exact opChangeStep_contained ..
  · exact opChangeStep_contained ..
  · exact opChangeStep_contained ..
  · exact opChangeStep_contained ..
  · exact opChangeGoto_contained ..
  · exact opChangeGoto_contained ..
  · exact .refl s

theorem adjusted_contained (s : State) : Contained s (adjusted s) := modifyChange_contained id

theorem modifyBlock_contained (f : SceneBlock → SceneBlock) (s : State) : Contained s (modifyBlock f s) :=
  modifyChange_contained id

theorem adjustZone_contained (pos : Byte) (inRange holds : Zone → Bool) (set : Zone → Zone) (s : State) :
    Contained s (adjustZone pos inRange holds set s).1 := by
  unfold adjustZone
  repeat' split
  · exact .refl s
  · exact .refl s
  · exact .refl s
  · exact .after (adjusted_contained _) (modifyBlock_contained ..)

theorem opAdjustMuteSet_contained (target : Byte) (v : Half) (s : State) :
    Contained s (opAdjustMuteSet target v s).1 := by
  unfold opAdjustMuteSet
  repeat' split
  · exact .refl s
  · exact .refl s
  · exact .after (adjusted_contained _) (modifyBlock_contained ..)

theorem opAdjustOverride_contained (feed : Byte) (v : Half) (s : State) :
    Contained s (opAdjustOverride feed v s).1 := by
  unfold opAdjustOverride
  repeat' split
  · exact .refl s
  · exact .after (adjusted_contained _) (.after (modifyFeed_contained ..) (modifyBlock_contained ..))
  · exact .refl s

theorem opAdjustTempo_contained (target : Byte) (v : Half) (s : State) : Contained s (opAdjustTempo target v s).1 := by
  unfold opAdjustTempo
  dsimp only
  repeat' split
  · exact .refl s
  · exact .refl s
  · exact .refl s
  · exact .after (adjusted_contained _) (rewriteInEffect_contained ..)

theorem opAdjust_contained (item target : Byte) (v : Half) (s : State) : Contained s (opAdjust item target v s).1 := by
  unfold opAdjust
  split
  · exact adjustZone_contained ..
  · exact adjustZone_contained ..
  · exact adjustZone_contained ..
  · exact adjustZone_contained ..
  · exact opAdjustMuteSet_contained ..
  · exact opAdjustOverride_contained ..
  · exact opAdjustTempo_contained ..
  · exact .refl s

theorem opClick_contained (action : Byte) (s : State) : Contained s (opClick action s).1 := by
  unfold opClick opClickStart opClickStop opClickContinue
  repeat' split
  · exact doStart_contained s
  · exact .refl s
  · exact .refl s
  · exact doStop_contained s
  · exact doContinue_contained s
  · exact .refl s
  · exact .refl s

theorem opSelectTempo_contained (slot : Byte) (s : State) : Contained s (opSelectTempo slot s).1 := by
  unfold opSelectTempo
  repeat' split
  · exact .refl s
  · exact .refl s
  · exact .refl s
  · exact modifyTempo_contained (selectSlot_taps ..)

theorem opPanic_contained (s : State) : Contained s (opPanic s).1 := by
  simpa only [opPanic] using doPanic_contained s

theorem opMute_contained (port state : Byte) (s : State) : Contained s (opMute port state s).1 := by
  unfold opMute
  repeat' split
  · exact .refl s
  · exact modifyOut_contained _ _ s (fun _ h => { h with }) (.inl rfl)
  · exact .refl s

theorem opFlush_contained (port : Byte) (s : State) : Contained s (opFlush port s).1 := by
  unfold opFlush
  split
  · exact doFlush_contained ..
  · exact .refl s

theorem opRestart_contained (s : State) : Contained s (opRestart s).1 := by
  unfold opRestart
  split
  · exact .refl s
  · exact .of_same

theorem perform_contained (r : Request) (s : State) : Contained s (perform r s).1 := by
  cases r with
  | identify | readProtection => exact .refl s
  | readStatus => exact opReadStatus_contained ..
  | readCounters => exact opReadCounters_contained ..
  | readSetting => exact opReadSetting_contained ..
  | writeSetting => exact opWriteSetting_contained ..
  | storeSettings | storeCurves => exact storeBuilt_contained ..
  | readCurve => exact opReadCurve_contained ..
  | writeCurve => exact opWriteCurve_contained ..
  | readSetList => exact opReadSetList_contained ..
  | writeSetList => exact opWriteSetList_contained ..
  | bufferWrite => exact opBufferWrite_contained ..
  | bufferRead => exact opBufferRead_contained ..
  | bufferLoad => exact opBufferLoad_contained ..
  | pageRead => exact opPageRead_contained ..
  | commit => exact opCommit_contained ..
  | clear => exact opClear_contained ..
  | protect | unprotect => exact opProtectOne_contained ..
  | protectAll | unprotectAll => exact opProtectAll_contained ..
  | lock => exact opLock_contained s
  | unlock => exact opUnlock_contained s
  | change => exact opChange_contained ..
  | adjust => exact opAdjust_contained ..
  | keepAdjustments => exact opKeep_contained s
  | click => exact opClick_contained ..
  | selectTempo => exact opSelectTempo_contained ..
  | panic => exact opPanic_contained s
  | mute => exact opMute_contained ..
  | flush => exact opFlush_contained ..
  | restart => exact opRestart_contained s

/-- R176: a request in bytes is a request of the catalogue or changes nothing. -/
theorem performBytes_contained (code : Byte) (params : List Byte) (s : State) :
    Contained s (performBytes code params s).1 := by
  unfold performBytes
  cases parseRequest code params with
  | none => exact .refl s
  | some r =>
    dsimp only
    unfold checkedForm
    split
    · exact perform_contained r s
    · exact .refl s


/-! ### The service unit (R16, R173, R174) -/

theorem modifyService_within {f : Service → Service} {s : State} (h : Within s) : Within (modifyService f s) :=
  { ports := h.ports, queue := h.queue, table := h.table, taps := h.taps, counters := h.counters }

/-- R16: a frame is placed in a service queue of fewer than four frames. -/
theorem pushService_within {p : Port} {q : Queued} {s : State} (hroom : s.link.outs[p].service.length < 4)
    (h : Within s) : Within (pushService p q s) := by
  have hport (m : Nat) (ho : s.link.outs[p].Within m) :
      OutPort.Within m
        { s.link.outs[p] with
          service := s.link.outs[p].service ++ [q]
          serviceWait := if s.link.outs[p].service.isEmpty then 0 else s.link.outs[p].serviceWait } :=
    { ho with
      service := by simpa using hroom
      serviceWait := by
        split
        · exact Nat.zero_le 16
        · exact ho.serviceWait }
  exact
    { ports := fun r => by
        rw [pushService, modifyOut_outs, modifyOut_settings]
        split
        · next hr => subst hr; exact hport _ (h.ports r)
        · exact h.ports r
      queue := h.queue, table := h.table, taps := h.taps, counters := h.counters }

theorem passOn_within {p : Port} {f : Frame} {s : State} (h : Within s) : Within (passOn p f s) := by
  rcases passOn_spec s p f with ⟨-, he⟩ | ⟨q, -, ⟨hroom, he⟩ | ⟨-, he⟩⟩ <;> rw [he]
  · exact h
  · exact pushService_within hroom h
  · exact (countServiceOverrun_contained p s).within h

theorem passRequest_within {p : Port} {w : Waiting} {s : State} (h : Within s) : Within (passRequest p w s) := by
  unfold passRequest
  split
  · exact h
  · exact passOn_within h

theorem placeRequest_within {p : Port} {w : Waiting} {s : State} (h : Within s) : Within (placeRequest p w s) := by
  unfold placeRequest
  split
  · exact modifyService_within h
  · exact (countServiceOverrun_contained p s).within h

theorem classifyRequest_within {p : Port} {w : Waiting} {s : State} (h : Within s) :
    Within (classifyRequest p w s) := by
  unfold classifyRequest
  apply passRequest_within
  split
  · exact placeRequest_within h
  · exact h

/-- R16: there is room for the reply when the request is taken, and no request carried out fills it. -/
theorem takeRequest_within {p : Port} {unit tag code : Byte} {op : State → State × Answer} {s : State}
    (hop : ∀ s, Contained s (op s).1) (h : Within s) : Within (takeRequest p unit tag code op s) := by
  unfold takeRequest
  split
  · next hroom =>
    have hlen : s.link.outs[p].service.length < 4 := of_decide_eq_true hroom
    refine modifyService_within (pushService_within ?_ ((hop s).within h))
    rcases (hop s).services p with he | he <;> rw [he]
    · exact hlen
    · decide
  · exact modifyService_within ((countServiceOverrun_contained p s).within h)

theorem serveCode_within {h : Head} {code : Byte} {params : List Byte} {op : State → State × Answer} {s : State}
    (hop : ∀ s, Contained s (op s).1) (hs : Within s) : Within (serveCode h code params op s) := by
  unfold serveCode
  dsimp only
  split
  · exact takeRequest_within hop (passRequest_within hs)
  · exact classifyRequest_within hs

theorem serviceTake_within {s : State} (h : Within s) : Within (serviceTake s) := by
  unfold serviceTake
  repeat' split
  · exact h
  · exact h
  · exact takeRequest_within (performBytes_contained _ _) (modifyService_within h)
  · exact h

/-! ### The rig link's receivers and arbiter (R1–R10, R17–R20) -/

theorem arrive_within {p : Port} {f : Frame} {s : State} (h : Within s) : Within (arrive p f s) := by
  unfold arrive
  split
  · exact classifyRequest_within h
  · exact passOn_within h
  · split
    · exact (playFrame_contained ..).within h
    · exact (thruFrame_contained ..).within h
    · exact h

theorem complete_within {p : Port} {bytes : List Byte} {failed : Bool} {s : State} (h : Within s) :
    Within (complete p bytes failed s) := by
  unfold complete
  repeat' split
  · exact (reject_contained ..).within h
  · exact arrive_within ((setReceiver_contained ..).within h)
  · exact (reject_contained ..).within h

theorem receive_within {p : Port} {c : Byte} {stop : Bool} {s : State} (h : Within s) :
    Within (receive p c stop s) := by
  unfold receive
  split
  · exact h
  · split
    · exact (setReceiver_contained ..).within h
    · exact (reject_contained ..).within h
  · dsimp only
    split
    · exact (setReceiver_contained ..).within h
    · exact complete_within h

theorem resync_contained (p : Port) (s : State) : Contained s (resync p s) := by
  unfold resync
  split
  · exact setReceiver_contained ..
  · exact .refl s

theorem cutShort_contained (p : Port) (s : State) : Contained s (cutShort p s) := by
  unfold cutShort
  split
  · exact reject_contained ..
  · exact .refl s

/-- One outbound port changed within its bounds. -/
theorem modifyOut_within {p : Port} {f : OutPort → OutPort} {s : State}
    (hbounds : ∀ m, m = s.settings.outbound[p].burstMode → s.link.outs[p].Within m → (f s.link.outs[p]).Within m)
    (h : Within s) : Within (modifyOut p f s) :=
  { ports := fun q => by
      rw [modifyOut_outs, modifyOut_settings]
      split
      · next hq => subst hq; exact hbounds _ rfl (h.ports q)
      · exact h.ports q
    queue := h.queue, table := h.table, taps := h.taps, counters := h.counters }

/-- R17, R20: a frame that starts takes a frame out of one queue. -/
theorem OutPort.Within.start {m : Nat} {o : OutPort} (h : o.Within m) (q : QueueName) : (o.start q).Within m := by
  unfold OutPort.start
  split
  · exact h
  · next item rest hq =>
    have hshort : rest.length ≤ (o.queue q).length := by rw [hq]; simp
    have hwait (q : QueueName) : (if q = .service ∧ rest ≠ [] then 0 else o.serviceWait) ≤ 16 := by
      split
      · exact Nat.zero_le 16
      · exact h.serviceWait
    cases q with
    | timing => exact { h with timing := hshort.trans h.timing, serviceWait := hwait .timing }
    | burst => exact { h with burst := hshort.trans h.burst, serviceWait := hwait .burst }
    | play =>
      have hsub : rest.Sublist o.play := by
        rw [show o.play = item :: rest from hq]
        exact List.sublist_cons_self ..
      exact { h with
        play := hshort.trans h.play
        admitted := hsub.countP_le.trans h.admitted
        serviceWait := hwait .play }
    | service => exact { h with service := hshort.trans h.service, serviceWait := hwait .service }

theorem startFrame_within {p : Port} {s : State} (h : Within s) : Within (startFrame p s) := by
  unfold startFrame
  split
  · split
    · exact h
    · next q _ =>
      have hstarted : Within (modifyOut p (fun o => o.start q) s) := modifyOut_within (fun _ _ ho => ho.start q) h
      dsimp only
      split
      · exact ((placeBursts_contained _).trans (endChange_contained _)).within hstarted
      · exact hstarted
  · exact h

/-- R17, R18: the wait count holds at 16, the interleave count is at most the burst mode or what it was. -/
theorem OutPort.Within.ended {r : OutboundRecord} {o : OutPort} (h : o.Within r.burstMode) (x : Sending) :
    (o.ended r x).Within r.burstMode :=
  { h with
    serviceWait := by
      show waitAfter o x.queue ≤ 16
      unfold waitAfter
      split
      · exact Nat.min_le_right ..
      · exact h.serviceWait
    interleave := by
      have hold := h.interleave
      have hmode := h.mode
      show interleaveAfter r.burstMode o x.queue ≤ 8
      unfold interleaveAfter
      split <;> (try split) <;> omega }

theorem endFrame_within {p : Port} {s : State} (h : Within s) : Within (endFrame p s) := by
  unfold endFrame
  split
  · exact h
  · next x _ =>
    have hended : Within (modifyOut p (OutPort.ended s.settings.outbound[p] x) s) :=
      modifyOut_within (fun m hm ho => by subst hm; exact ho.ended x) h
    dsimp only
    split
    · exact modifyService_within hended
    · exact hended

theorem endGap_contained (p : Port) (s : State) : Contained s (endGap p s) :=
  modifyOut_contained p _ s (fun _ h => { h with }) (.inl rfl)

theorem endWindow_contained (p : Port) (s : State) : Contained s (endWindow p s) :=
  modifyOut_contained p _ s (fun _ h => { h with }) (.inl rfl)

/-! ### The ends of store operations (spec 08) -/

theorem suspendOperation_contained (s : State) : Contained s (suspendOperation s) := by
  unfold suspendOperation
  split
  · exact .refl s
  · exact .ite (modifyStore_contained ..) (.refl s)

theorem endOperation_contained (o : StoreOutcome) (s : State) : Contained s (endOperation o s) :=
  modifyStore_contained ..

theorem faultOperation_contained (s : State) : Contained s (faultOperation s) :=
  .after (flagStore_contained _) (endOperation_contained ..)

theorem loadBuffer_contained (p : Page) (s : State) : Contained s (loadBuffer p s) := modifyStore_contained ..

theorem endLoad_contained (s : State) : Contained s (endLoad s) := by
  unfold endLoad
  split
  · exact .after (redecideFetch_contained _) (.ite (.after (faultOperation_contained _) (loadBuffer_contained ..))
      (.after (endOperation_contained ..) (loadBuffer_contained ..)))
  · exact .refl s

theorem endKeepLoad_contained (s : State) : Contained s (endKeepLoad s) := by
  unfold endKeepLoad
  split
  · exact .after (redecideFetch_contained _) (.ite (.after (faultOperation_contained _) (loadBuffer_contained ..))
      (.after (modifyStore_contained ..) (loadBuffer_contained ..)))
  · exact .refl s

theorem setPage_contained (p : Page) (image : Memory) (c : PageClass) (s : State) :
    Contained s (setPage p image c s) := modifyStore_contained ..

theorem finishCommit_contained (p : Page) (deviations : List Host.Cell) (s : State) :
    Contained s (finishCommit p deviations s) :=
  .ite (.after (endOperation_contained ..) (setPage_contained ..))
    (.after (faultOperation_contained _) (setPage_contained ..))

theorem keepEnded_contained (s : State) : Contained s (keepEnded s) := .ite (modifyChange_contained id) (.refl s)

theorem endCommit_contained (deviations : List Host.Cell) (s : State) : Contained s (endCommit deviations s) := by
  unfold endCommit
  split
  · exact finishCommit_contained ..
  · exact .after (keepEnded_contained _) (finishCommit_contained ..)
  · exact .refl s

theorem endClear_contained (deviations : List Host.Cell) (s : State) : Contained s (endClear deviations s) := by
  unfold endClear
  split
  · exact .ite (.after (endOperation_contained ..) (setPage_contained ..))
      (.after (faultOperation_contained _) (setPage_contained ..))
  · exact .refl s

/-! ### Power-up, restart and loss of power (spec 08, 8.6) -/

theorem OutPort.Within.fresh {m : Nat} (h : m ≤ 8) : OutPort.fresh.Within m :=
  { timing := Nat.zero_le 4, burst := Nat.zero_le 16, play := Nat.zero_le 32, service := Nat.zero_le 4
    serviceWait := Nat.zero_le 16, admitted := Nat.zero_le 28, interleave := Nat.zero_le 8, mode := h }

/-- R21: every default record has burst mode 0. -/
theorem default_burstMode (p : Port) : Settings.default.outbound[p].burstMode = 0 := by
  simp [Settings.default, OutboundRecord.default]

/-- R171: a record loaded at power-up has passed its checks or is the default. -/
theorem bootSettings_burstMode (st : Store) (p : Port) : (bootSettings st).outbound[p].burstMode ≤ 8 := by
  unfold bootSettings
  split
  · simp only [settingsOfPage, recordAt, Fin.getElem_fin, Vector.getElem_ofFn]
    cases h : outboundOfFields? (fieldsAt (Memory.read (st.image settingsPage)) (40 + 5 * p.val)) with
    | none => exact Nat.zero_le 8
    | some r => exact outboundOfFields?_burstMode h
  · rw [default_burstMode]; exact Nat.zero_le 8

/-- R189: counters that are those of a fresh part, but for fetch repairs in their bound. -/
theorem fresh_counterInv {s : State} (hrejected : s.status.rejected = Status.fresh.rejected)
    (hdrops : s.status.playDrops = Status.fresh.playDrops)
    (hslips : s.status.timingSlips = Status.fresh.timingSlips)
    (hoverruns : s.status.serviceOverruns = Status.fresh.serviceOverruns) (hheld : s.status.heldOverflows = 0)
    (hchange : s.status.changeOverflows = 0) (hrepairs : s.status.fetchRepairs ≤ 65535) : CounterInv s := by
  unfold CounterInv
  rw [hrejected, hdrops, hslips, hoverruns, hheld, hchange]
  exact ⟨fun p => by simp [Status.fresh], Nat.zero_le _, Nat.zero_le _, hrepairs⟩

theorem boot_within {outs : Vector OutPort 8} (houts : ∀ (p : Port) (m : Nat), m ≤ 8 → outs[p].Within m)
    (flags : Status) (s : State) : Within (boot outs flags s) :=
  { ports := fun p => houts p _ (bootSettings_burstMode s.store p)
    queue := Nat.zero_le 4
    table := Nat.zero_le 128
    taps := Nat.zero_le 4
    counters := fresh_counterInv rfl rfl rfl rfl rfl rfl (Nat.min_le_right ..) }

theorem reset_within : Within State.reset :=
  { ports := fun p => by
      have hmode : State.reset.settings.outbound[p].burstMode ≤ 8 := by
        rw [show State.reset.settings = Settings.default from rfl, default_burstMode]
        exact Nat.zero_le 8
      have hout : State.reset.link.outs[p] = OutPort.fresh := by simp [State.reset]
      rw [hout]
      exact .fresh hmode
    queue := Nat.zero_le 4
    table := Nat.zero_le 128
    taps := Nat.zero_le 4
    counters := fresh_counterInv rfl rfl rfl rfl rfl rfl (Nat.zero_le _) }

theorem losePower_within (torn : List Host.Cell) (s : State) : Within (losePower torn s) :=
  { ports := reset_within.ports, queue := reset_within.queue, table := reset_within.table
    taps := reset_within.taps, counters := reset_within.counters }

theorem doPowerUp_within (s : State) : Within (doPowerUp s) :=
  boot_within (fun p m hm => by simpa using OutPort.Within.fresh hm) _ _

/-- R20, R185: a port at a restart is fresh but for its pacing gap. -/
theorem restartPort_within {m : Nat} (hm : m ≤ 8) (r : OutboundRecord) (o : OutPort) : (restartPort r o).Within m :=
  { OutPort.Within.fresh hm with }

theorem makeRestart_within {s : State} (h : Within s) : Within (makeRestart s) := by
  unfold makeRestart
  split
  · exact boot_within (fun p m hm => by simpa using restartPort_within hm _ _) _ _
  · exact h

/-! ### Every command, and the step -/

theorem powered_within {f : State → State} {s t : State} (hf : Within s → Within (f s)) (hs : Within s)
    (h : powered f s = .next t) : Within t := by
  unfold powered at h
  cases h
  split
  · exact hf hs
  · exact hs

/-- A command that carries its moment tells the part of it first. -/
theorem poweredAt_within (m : Nat) {f : State → State} {s t : State}
    (hf : Within (advanceTo m s) → Within (f (advanceTo m s))) (hs : Within s)
    (h : powered (fun s => f (advanceTo m s)) s = .next t) : Within t :=
  powered_within (f := fun s => f (advanceTo m s)) (fun hs => hf ((advanceTo_contained m s).within hs)) hs h

/-- The request rows: each is its request in bytes. -/
theorem requestRow_within {c : Instr} {x : Head × Byte × List Byte} (hc : requestOf c = some x) {s t : State}
    (hs : Within s) (h : exec c s = .next t) : Within t := by
  rw [exec_requestRow hc] at h
  refine powered_within (fun hs => ?_) hs h
  exact serveCode_within (performBytes_contained _ _) ((advanceTo_contained _ s).within hs)

/-- Every command keeps the capacities. -/
theorem exec_within {c : Instr} {s t : State} (hs : Within s) (h : exec c s = .next t) : Within t := by
  cases c with
  | powerUp => cases h; exact doPowerUp_within s
  | lossOfPower torn => exact powered_within (fun _ => losePower_within torn s) hs h
  | restartMade m => exact poweredAt_within m makeRestart_within hs h
  | character p b stop => exact powered_within receive_within hs h
  | idleResync p => exact powered_within (resync_contained p s).within hs h
  | frameCutShort p => exact powered_within (cutShort_contained p s).within hs h
  | strike | release | control | sustainControl | soundSelect | transport | thruFrame | serviceRequest
  | serviceReply => exact powered_within arrive_within hs h
  | serviceTake m => exact poweredAt_within m serviceTake_within hs h
  | serviceTimeEnd => exact powered_within modifyService_within hs h
  | frameStart p => exact powered_within startFrame_within hs h
  | frameEnd p => exact powered_within endFrame_within hs h
  | pacingGapEnd p => exact powered_within (endGap_contained p s).within hs h
  | settleWindowEnd p => exact powered_within (endWindow_contained p s).within hs h
  | releaseDrain p => exact powered_within (drainTimes_contained ..).within hs h
  | fetchEnd b => exact powered_within (doFetchEnd_contained ..).within hs h
  | burstPlace =>
    refine powered_within (f := fun s => endChange (placeBursts s)) ?_ hs h
    exact (Contained.after (endChange_contained _) (placeBursts_contained s)).within
  | changeEnd => exact powered_within (endChange_contained s).within hs h
  | operationSuspended => exact powered_within (suspendOperation_contained s).within hs h
  | bufferLoadEnd => exact powered_within (endLoad_contained s).within hs h
  | keepLoadEnd => exact powered_within (endKeepLoad_contained s).within hs h
  | commitEnd ds => exact powered_within (endCommit_contained ds s).within hs h
  | clearEnd ds => exact powered_within (endClear_contained ds s).within hs h
  | subTick => exact powered_within (doSubTick_contained s).within hs h
  | beatBoundary => exact powered_within (doBoundary_contained s).within hs h
  | pedalContactChange i l m =>
    cases h
    exact ((advanceTo_contained m s).trans (modifyContact_contained ..)).within hs
  | pedalSettled i m => exact poweredAt_within m (settleIfDue_contained i _).within hs h
  | showlockContactChange l m =>
    cases h
    exact (Contained.of_same : Contained s _).within hs
  | showlockSettled m =>
    have hsettled (s : State) : Contained s (showLockSettle s) := .ite .of_same (.refl s)
    exact poweredAt_within m (hsettled _).within hs h
  | readStatus head clear => cases clear <;> exact requestRow_within rfl hs h
  | changeStep head kind n => cases kind <;> exact requestRow_within rfl hs h
  | changeGoto head kind n => cases kind <;> exact requestRow_within rfl hs h
  | _ => exact requestRow_within rfl hs h

/-- Settles O56: every command keeps the capacities and the counters' bounds, and a step carries out one command on the
part with the queue's rest, or idles. -/
theorem capacitiesKept : Obligations.CapacitiesKept := by
  intro s t hcap hcount hstep
  have hs : Within s := (within_iff s).mpr ⟨hcap, hcount⟩
  refine (within_iff t).mp ?_
  unfold step at hstep
  split at hstep
  · cases hstep
    exact hs
  · exact exec_within ((Contained.of_same : Contained s _).within hs) hstep

end Sys2Proof.Machine
end

section
/-! SUPPORT. The inbound half of the rig link (R1–R10, R173, R117): what a receiver does with each character, how a frame
that has completed is classified, and the statements about them. -/

namespace Sys2Proof.Machine

/-! ### Powered commands -/

theorem powered_of_power {f : State → State} {s : State} (h : s.power = true) : powered f s = .next (f s) := by
  simp [powered, h]

/-! ### Receivers (R1–R4) -/

theorem setReceiver_setReceiver (p : Port) (r r' : Receiver) (s : State) :
    setReceiver p r' (setReceiver p r s) = setReceiver p r' s := by
  simp [setReceiver, State.setLink, upd]

theorem setReceiver_self {p : Port} {r : Receiver} {s : State} (h : s.link.receivers[p] = r) :
    setReceiver p r s = s := by
  subst h
  simp [setReceiver, State.setLink, upd]

@[simp] theorem setReceiver_receiver (p : Port) (r : Receiver) (s : State) :
    (setReceiver p r s).link.receivers[p] = r := by
  simp [setReceiver, upd]

theorem receive_sync {p : Port} {s : State} (h : s.link.receivers[p] = .sync) (c : Byte) (stop : Bool) :
    receive p c stop s = s := by
  unfold receive
  rw [h]

theorem receive_ready {p : Port} {s : State} (h : s.link.receivers[p] = .ready) (c : Byte) (stop : Bool) :
    receive p c stop s
      = if 3 ≤ c.toNat ∧ c.toNat ≤ 64 then setReceiver p (.receiving c.toNat [c] (!stop)) s else reject p .sync s := by
  unfold receive
  rw [h]

section Receiving
variable {p : Port} {s : State} {length : Nat} {held : List Byte} {failed : Bool}

/-- R2: a character that is not the L-th is held. -/
theorem receive_held (h : s.link.receivers[p] = .receiving length held failed) (hmore : held.length + 1 < length)
    (c : Byte) (stop : Bool) :
    receive p c stop s = setReceiver p (.receiving length (held ++ [c]) (failed || !stop)) s := by
  unfold receive
  rw [h]
  exact if_pos (by simpa using hmore)

/-- R2–R4: the L-th character completes the frame. -/
theorem receive_last (h : s.link.receivers[p] = .receiving length held failed) (hlast : length ≤ held.length + 1)
    (c : Byte) (stop : Bool) : receive p c stop s = complete p (held ++ [c]) (failed || !stop) s := by
  unfold receive
  rw [h]
  exact if_neg (by simpa using hlast)

/-- R2, R4: a frame cut short is rejected. -/
theorem cutShort_receiving (h : s.link.receivers[p] = .receiving length held failed) :
    cutShort p s = reject p .ready s := by
  unfold cutShort
  rw [h]

end Receiving

/-- R4: a frame with a character error, or whose bytes do not pass the checks, is rejected. -/
theorem complete_rejected {p : Port} {bytes : List Byte} {failed : Bool} {s : State}
    (h : failed = true ∨ parseFrame bytes = none) : complete p bytes failed s = reject p .sync s := by
  unfold complete
  rcases h with h | h
  · rw [if_pos h]
  · rw [h]
    exact ite_self _

/-- R2, R3: a frame that passes the checks goes on with its receiver READY. -/
theorem complete_parsed {p : Port} {bytes : List Byte} {f : Frame} {s : State} (h : parseFrame bytes = some f) :
    complete p bytes false s = arrive p f (setReceiver p .ready s) := by
  simp [complete, h]

/-- The state of the receiver before the last character plays no part in what completes. -/
theorem complete_setReceiver (p : Port) (bytes : List Byte) (failed : Bool) (r : Receiver) (s : State) :
    complete p bytes failed (setReceiver p r s) = complete p bytes failed s := by
  have hreject : reject p .sync (setReceiver p r s) = reject p .sync s :=
    setReceiver_setReceiver p r .sync (countRejected p s)
  unfold complete
  rw [hreject, setReceiver_setReceiver]

/-- R1, R4: a rejected frame is counted, sets LINK, and leaves its receiver as said. -/
theorem reject_eq (p : Port) (r : Receiver) (s : State) :
    reject p r s
      = { s with
          link := { s.link with receivers := s.link.receivers.set p r }
          status :=
            { s.status with
              rejected := s.status.rejected.set p (min (s.status.rejected[p] + 1) 65535), link := true } } := rfl

/-- R2: the characters that a receiver still waits for, received one after the other, complete the frame. -/
theorem runAll_characters (p : Port) (length : Nat) (bytes : List Byte) (hne : bytes ≠ []) (held : List Byte)
    (s : State) (hpower : s.power = true) (hr : s.link.receivers[p] = .receiving length held false)
    (hlength : held.length + bytes.length = length) :
    runAll (bytes.map fun c => .character p c true) s = .next (complete p (held ++ bytes) false s) := by
  induction bytes generalizing held s with
  | nil => exact absurd rfl hne
  | cons c cs ih =>
    have hexec : exec (.character p c true) s = .next (receive p c true s) := powered_of_power hpower
    rw [List.map_cons, runAll, hexec]
    rw [List.length_cons] at hlength
    cases cs with
    | nil =>
      rw [receive_last hr (by simp at hlength; omega)]
      rfl
    | cons d ds =>
      rw [List.length_cons] at hlength
      have hmore : held.length + 1 < length := by omega
      rw [receive_held hr hmore, Bool.not_true, Bool.or_false]
      dsimp only
      rw [ih (by simp) (held ++ [c]) (setReceiver p (.receiving length (held ++ [c]) false) s) hpower
          (setReceiver_receiver ..)
          (by simp only [List.length_append, List.length_cons, List.length_nil]; omega),
        complete_setReceiver, List.append_assoc]
      rfl

/-- Settles O4: the length byte makes the receiver RECEIVING that many bytes, the others complete the frame, and its
bytes are read back as the frame. -/
theorem charactersSpellFrame : Obligations.CharactersSpellFrame := by
  intro p f s hok hpower hr
  have hlen := fields_length_le hok
  have hbyte := Frame.lengthByte_toNat hok
  have hexec : exec (.character p f.lengthByte true) s = .next (receive p f.lengthByte true s) :=
    powered_of_power hpower
  have hthru : exec (.thruFrame p f) s = .next (arrive p f s) := powered_of_power hpower
  rw [hthru, Frame.bytes_eq, List.map_cons, runAll, hexec, receive_ready hr, if_pos (by omega), Bool.not_true]
  dsimp only
  rw [runAll_characters p f.lengthByte.toNat f.tail (by simp [Frame.tail]) [f.lengthByte]
      (setReceiver p (.receiving f.lengthByte.toNat [f.lengthByte] false) s) hpower (setReceiver_receiver ..)
      (by rw [Frame.tail_length, hbyte, List.length_singleton]; omega),
    complete_setReceiver, List.singleton_append, ← Frame.bytes_eq, complete_parsed (parseFrame_bytes hok),
    setReceiver_self hr]

/-- Settles O5, by the state of the receiver. -/
theorem receiverStates : Obligations.ReceiverStates := by
  intro p c stop s hpower
  have hchar : exec (.character p c stop) s = .next (receive p c stop s) := powered_of_power hpower
  have hidle : exec (.idleResync p) s = .next (resync p s) := powered_of_power hpower
  have hcut : exec (.frameCutShort p) s = .next (cutShort p s) := powered_of_power hpower
  rw [hchar, hidle, hcut]
  refine ⟨fun h => ?_, fun h => ?_, fun length held failed h => ⟨?_, fun hmore => ?_, fun hlast hrejected => ?_⟩⟩
  · refine ⟨by rw [receive_sync h], ?_⟩
    unfold resync
    rw [h]
    rfl
  · refine ⟨?_, ?_, ?_⟩
    · unfold resync
      rw [h]
    · unfold cutShort
      rw [h]
    · rw [receive_ready h]
      rfl
  · rw [cutShort_receiving h]
    rfl
  · rw [receive_held h hmore]
    rfl
  · rw [receive_last h hlast, complete_rejected, reject_eq]
    rcases hrejected with hfailed | hstop | hparse
    · exact .inl (by simp [hfailed])
    · exact .inl (by simp [hstop])
    · exact .inr hparse

/-! ### Classification (R6–R10) -/

/-- R7, R9, R10: a frame other than a service frame goes by the role of its port. -/
theorem arrive_of_not_service {f : Frame} (h : f.isService = false) (p : Port) (s : State) :
    arrive p f s
      = match s.settings.inbound[p].role with
        | .play => playFrame p f s
        | .thru => thruFrame p f s
        | .off => s := by
  cases f with
  | request | reply => cases h
  | _ => rfl

/-- Settles O6: an OFF port does nothing with a frame, a THRU port offers it to the play queue of its pass port. -/
theorem offAndThruPorts : Obligations.OffAndThruPorts := by
  refine ⟨fun p f s hpower hf => ?_, fun p l k n v b vo bo s => ⟨rfl, rfl, rfl, rfl, rfl, rfl, rfl, rfl⟩⟩
  have hexec : exec (.thruFrame p f) s = .next (arrive p f s) := powered_of_power hpower
  rw [hexec, arrive_of_not_service hf]
  refine ⟨fun hrole => ?_, fun hrole hpass => ?_, fun q hrole hpass => ?_⟩
  · rw [hrole]
  · rw [hrole]
    unfold thruFrame
    rw [hpass]
  · have hoffer : thruFrame p f s = offerPlay q { frame := f, source := .thru } s := by
      unfold thruFrame
      rw [hpass]
    rw [hrole]
    dsimp only
    rw [hoffer]
    rcases offerPlay_spec s q { frame := f, source := .thru } with ⟨hroom, he⟩ | ⟨hfull, he⟩ <;> rw [he]
    · rw [if_pos hroom]
      rfl
    · rw [if_neg (Nat.not_lt.mpr hfull)]
      rfl

/-- R6, R16: a service frame passed on, in the statements' terms. -/
theorem passOn_eq (p : Port) (f : Frame) (s : State) : passOn p f s = passedOnTo p f s := by
  unfold passedOnTo
  rcases passOn_spec s p f with ⟨hnone, he⟩ | ⟨q, hq, ⟨hroom, he⟩ | ⟨hfull, he⟩⟩ <;> rw [he]
  · rw [hnone]
  · rw [hq]
    dsimp only
    rw [if_pos hroom]
    simp [pushService, modifyOut, upd, State.setLink]
  · rw [hq]
    dsimp only
    rw [if_neg (Nat.not_lt.mpr hfull)]
    rfl

/-- R173: a request handed to its waiting place, in the statements' terms. -/
theorem placeRequest_eq (p : Port) (w : Waiting) (s : State) : placeRequest p w s = heldWaiting p w s := by
  unfold placeRequest heldWaiting
  cases h : s.service.places[p] with
  | none =>
    rw [if_pos rfl]
    rfl
  | some x =>
    rw [if_neg (by simp)]
    rfl

@[simp] theorem placeRequest_power (p : Port) (w : Waiting) (s : State) : (placeRequest p w s).power = s.power := by
  unfold placeRequest
  split <;> rfl

@[simp] theorem placeRequest_settings (p : Port) (w : Waiting) (s : State) :
    (placeRequest p w s).settings = s.settings := by
  unfold placeRequest
  split <;> rfl

theorem hears_iff (s : State) (target : Byte) :
    s.hears target = true ↔ target.toNat = s.settings.unitNumber ∨ target = 15#8 := by
  simp [State.hears]

/-- R6, R173: a request for this part waits, one for all parts waits and is passed on, any other is passed on. -/
theorem classifyRequest_own {p : Port} {w : Waiting} {s : State} (h : w.unit.toNat = s.settings.unitNumber) :
    classifyRequest p w s = heldWaiting p w s := by
  unfold classifyRequest passRequest
  rw [if_pos ((hears_iff ..).mpr (.inl h)), if_pos (by rw [placeRequest_settings]; exact h), placeRequest_eq]

theorem classifyRequest_all {p : Port} {w : Waiting} {s : State} (hother : w.unit.toNat ≠ s.settings.unitNumber)
    (hall : w.unit = 15#8) :
    classifyRequest p w s = passedOnTo p (.request w.unit w.tag w.code w.params) (heldWaiting p w s) := by
  unfold classifyRequest passRequest
  rw [if_pos ((hears_iff ..).mpr (.inr hall)), if_neg (by rw [placeRequest_settings]; exact hother), placeRequest_eq,
    passOn_eq]

theorem classifyRequest_other {p : Port} {w : Waiting} {s : State} (hother : w.unit.toNat ≠ s.settings.unitNumber)
    (hnot : w.unit ≠ 15#8) :
    classifyRequest p w s = passedOnTo p (.request w.unit w.tag w.code w.params) s := by
  unfold classifyRequest passRequest
  rw [if_neg (c := s.hears w.unit = true) (by rw [hears_iff]; tauto), if_neg hother, passOn_eq]

/-- Settles O7: what a service frame comes to, by its target unit. -/
theorem serviceFramesClassified : Obligations.ServiceFramesClassified := by
  intro p target tag code outcome params s hpower
  have hreply : exec (.serviceReply p target tag code outcome params) s
      = .next (passOn p (.reply target tag code outcome params) s) := powered_of_power hpower
  have hrequest : exec (.serviceRequest p target tag code params) s
      = .next (classifyRequest p { unit := target, tag := tag, code := code, params := params } s) :=
    powered_of_power hpower
  rw [hreply, hrequest, passOn_eq]
  refine ⟨rfl, fun hown => ?_, fun hother hall => ?_, fun hother hnot => ?_⟩
  · rw [classifyRequest_own hown]
  · rw [classifyRequest_all hother hall]
  · rw [classifyRequest_other hother hnot]

/-! ### Sound Select (R8, R117) -/

/-- R117: a GOTO that comes while the part is SWITCHING is the only request of the change queue. -/
theorem offerGoto_switching {s : State} (h : s.change.state = .switching) (k : GotoKind) (n : Nat) (x : Origin) :
    offerGoto k n x s
      = { s with change := { s.change with queue := [{ kind := gotoKind k, number := n, origin := x }] } } := by
  unfold offerGoto
  rw [h]
  rfl

/-- Settles O15: a Sound Select asks for nothing, for a scene or for a song, by its sound and by the port's record. -/
theorem soundSelectAsChange : Obligations.SoundSelectAsChange := by
  intro p l bank sound s hpower hrole
  have hexec : exec (.soundSelect p l bank sound) s = .next (playSelect p sound s) := by
    have harrive : exec (.soundSelect p l bank sound) s = .next (arrive p (.soundSelect (laneByte l) bank sound) s) :=
      powered_of_power hpower
    rw [harrive, arrive_of_not_service rfl, hrole]
    rfl
  have hgoto {k : GotoKind} {n : Nat} (hon : s.settings.inbound[p].selectAsChange = true)
      (hsel : selectChange? sound = some (k, n)) : playSelect p sound s = offerGoto k n .select s := by
    unfold playSelect
    rw [if_pos hon, hsel]
  rw [hexec]
  refine ⟨fun hoff => ?_, fun hrange => ?_, fun hon hscene => ?_, fun hon hlow hhigh => ?_⟩
  · unfold playSelect
    rw [hoff]
    rfl
  · have hnone : selectChange? sound = none := by
      unfold selectChange?
      dsimp only
      rw [if_neg (by omega), if_neg (by omega)]
    unfold playSelect
    rw [hnone]
    exact congrArg Host.Outcome.next (ite_self s)
  · have hsel : selectChange? sound = some (.scene, sound.toNat + 1) := if_pos hscene
    rw [hgoto hon hsel]
    exact ⟨rfl, fun hswitching => by rw [offerGoto_switching hswitching]; rfl⟩
  · have hsel : selectChange? sound = some (.song, sound.toNat - 63) := by
      unfold selectChange?
      dsimp only
      rw [if_neg (by omega), if_pos ⟨hlow, hhigh⟩]
    rw [hgoto hon hsel]
    exact ⟨rfl, fun hswitching => by rw [offerGoto_switching hswitching]; rfl⟩

end Sys2Proof.Machine
end

section
/-! SUPPORT. The request rows (R6, R16, R173–R175): each is its request in bytes, so what a row does is said once for all
of them. -/

namespace Sys2Proof.Machine

/-! ### A request that is served by way of its waiting place (R173, R174) -/

/-- Passing a frame on neither sees nor touches the service unit. -/
theorem passOn_modifyService (p : Port) (x : Frame) (f : Service → Service) (s : State) :
    passOn p x (modifyService f s) = modifyService f (passOn p x s) := by
  have hroom (q : Port) : serviceHasRoom q (modifyService f s) = serviceHasRoom q s := rfl
  unfold passOn
  rw [modifyService_settings]
  cases s.settings.inbound[p].pass with
  | none => rfl
  | some q =>
    dsimp only
    rw [hroom]
    cases serviceHasRoom q s <;> rfl

theorem passRequest_modifyService (p : Port) (w : Waiting) (f : Service → Service) (s : State) :
    passRequest p w (modifyService f s) = modifyService f (passRequest p w s) := by
  unfold passRequest
  rw [modifyService_settings, passOn_modifyService]
  split <;> rfl

/-- Passing a frame on neither sees nor touches the latest moment. -/
theorem passOn_advanceTo (p : Port) (x : Frame) (m : Nat) (s : State) :
    passOn p x (advanceTo m s) = advanceTo m (passOn p x s) := by
  have hroom (q : Port) : serviceHasRoom q (advanceTo m s) = serviceHasRoom q s := rfl
  unfold passOn
  rw [advanceTo_settings]
  cases s.settings.inbound[p].pass with
  | none => rfl
  | some q =>
    dsimp only
    rw [hroom]
    cases serviceHasRoom q s <;> rfl

theorem passRequest_advanceTo (p : Port) (w : Waiting) (m : Nat) (s : State) :
    passRequest p w (advanceTo m s) = advanceTo m (passRequest p w s) := by
  unfold passRequest
  rw [advanceTo_settings, passOn_advanceTo]
  split <;> rfl

@[simp] theorem passRequest_power (p : Port) (w : Waiting) (s : State) : (passRequest p w s).power = s.power := by
  unfold passRequest
  split
  · rfl
  · exact passOn_power ..

@[simp] theorem classifyRequest_power (p : Port) (w : Waiting) (s : State) :
    (classifyRequest p w s).power = s.power := by
  unfold classifyRequest
  rw [passRequest_power]
  split
  · exact placeRequest_power ..
  · rfl

/-- R6, R173: a request that is passed on nowhere waits. -/
theorem classifyRequest_of_stays {h : Head} {s : State} (hs : StaysHere h s) (tag code : Byte) (params : List Byte) :
    classifyRequest h.port { unit := h.unit, tag := tag, code := code, params := params } s
      = heldWaiting h.port { unit := h.unit, tag := tag, code := code, params := params } s := by
  unfold classifyRequest
  rw [if_pos (hears_of_stays hs), passRequest_of_stays (h := h)
    (by rw [StaysHere, placeRequest_settings]; exact hs) _ rfl,
    placeRequest_eq]

@[simp] theorem passRequest_service (p : Port) (w : Waiting) (s : State) :
    (passRequest p w s).service = s.service := by
  unfold passRequest
  split
  · rfl
  · exact passOn_service ..

/-- R174: the ports in the order considered are those of turn 0, 1, and so on. -/
theorem turnOf_portsAfter (pointer : Port) (i : Nat) (h : i < 8) :
    turnOf pointer ⟨(pointer.val + 1 + i) % 8, by omega⟩ = i := by
  unfold turnOf
  have := pointer.isLt
  dsimp only
  omega

theorem turnOf_lt (pointer p : Port) : turnOf pointer p < 8 := Nat.mod_lt _ (by decide)

theorem portOfTurn (pointer p : Port) (h : (pointer.val + 1 + turnOf pointer p) % 8 < 8) :
    (⟨(pointer.val + 1 + turnOf pointer p) % 8, h⟩ : Port) = p := by
  have := pointer.isLt
  have := p.isLt
  refine Fin.ext ?_
  unfold turnOf
  dsimp only
  omega

/-- R174: with no place before it occupied, an occupied place is the next served. -/
theorem nextServed_of_first {u : Service} {p : Port} {w : Waiting} (hp : u.places[p] = some w)
    (hbefore : ∀ q : Port, turnOf u.pointer q < turnOf u.pointer p → u.places[q] = none) :
    nextServed? u = some p := by
  have hport := portOfTurn u.pointer p (by omega)
  unfold nextServed? portsAfter
  rw [List.find?_map, (List.find?_range_eq_some (i := turnOf u.pointer p)).mpr]
  · exact congrArg some hport
  · refine ⟨?_, List.mem_range.mpr (turnOf_lt ..), fun j hj => ?_⟩
    · simp only [Function.comp_apply, hport, hp, Option.isSome_some]
    · have hturn := turnOf_portsAfter u.pointer j (hj.trans (turnOf_lt ..))
      simp only [Function.comp_apply, hbefore _ (hturn.symm ▸ hj), Option.isSome_none, Bool.not_false]

/-- R173, R174: a request placed in its empty waiting place and taken from there by a free unit, none being before it, is
passed on and taken. -/
theorem serviceTake_placed {p : Port} {w : Waiting} {s : State} {m : Nat} (hheard : s.hears w.unit = true)
    (hbusy : s.service.busy = none) (hrestart : s.service.restart = .none) (hturn : NextTaken p s) :
    serviceTake (advanceTo m (classifyRequest p w s))
      = takeRequest p w.unit w.tag w.code (performBytes w.code w.params) (passRequest p w (advanceTo m s)) := by
  have hplace : s.service.places[p] = none := hturn p (Nat.le_refl _)
  have hclassified : classifyRequest p w s
      = modifyService (fun u => { u with places := upd u.places p fun _ => some w }) (passRequest p w s) := by
    unfold classifyRequest placeRequest
    rw [if_pos hheard, hplace]
    exact passRequest_modifyService ..
  have hfree : (advanceTo m (classifyRequest p w s)).serviceFree = true := by
    rw [hclassified, serviceFree_iff]
    simp [modifyService, hbusy, hrestart]
  have hservice : (advanceTo m (classifyRequest p w s)).service
      = { s.service with places := upd s.service.places p fun _ => some w } := by
    rw [hclassified]
    simp [modifyService]
  have hnext : nextServed? (advanceTo m (classifyRequest p w s)).service = some p := by
    rw [hservice]
    refine nextServed_of_first (w := w) (by rw [upd_getElem, if_pos rfl]) fun q hq => ?_
    have hne : q ≠ p := fun e => absurd hq (by rw [e]; exact Nat.lt_irrefl _)
    dsimp only
    rw [upd_getElem, if_neg hne]
    exact hturn q (Nat.le_of_lt hq)
  have hfound : (advanceTo m (classifyRequest p w s)).service.places[p] = some w := by
    rw [hservice, upd_getElem, if_pos rfl]
  have hleft : modifyService (fun u => { u with places := upd u.places p fun _ => none })
      (advanceTo m (classifyRequest p w s)) = passRequest p w (advanceTo m s) := by
    have hrestored : upd (upd s.service.places p fun _ => some w) p (fun _ => none) = s.service.places := by
      unfold upd
      rw [Vector.set_set, ← hplace]
      exact Vector.set_getElem_self ..
    rw [hclassified, passRequest_advanceTo]
    unfold modifyService
    simp only [State.setService_service, advanceTo_service, passRequest_service, hrestored]
    have hsame := passRequest_service p w s
    generalize passRequest p w s = t at hsame ⊢
    rw [← hsame]
    rfl
  unfold serviceTake
  rw [if_pos hfree, hnext]
  dsimp only
  rw [hfound]
  dsimp only
  rw [hleft]

/-! ### What a request row does, by the state it comes in -/

section Row
variable {c : Instr} {h : Head} {code : Byte} {params : List Byte} {s : State}

/-- A row heard by a free unit that takes it next is passed on and taken. -/
theorem exec_row_taken (hc : requestOf c = some (h, code, params)) (hpower : s.power = true)
    (hheard : s.hears h.unit = true) (hbusy : s.service.busy = none) (hrestart : s.service.restart = .none)
    (hturn : NextTaken h.port s) :
    exec c s
      = .next (takeRequest h.port h.unit h.tag code (performBytes code params)
        (passRequest h.port { unit := h.unit, tag := h.tag, code := code, params := params }
          (advanceTo (momentOf c) s))) := by
  rw [exec_requestRow hc, powered_of_power hpower]
  exact congrArg Host.Outcome.next (serveCode_of_next (s := advanceTo (momentOf c) s) hheard hbusy hrestart hturn)

/-- Any other row is classified like a Service Request. -/
theorem exec_row_waiting (hc : requestOf c = some (h, code, params)) (hpower : s.power = true)
    (hw : s.hears h.unit = false ∨ s.service.busy ≠ none ∨ s.service.restart ≠ .none ∨ ¬NextTaken h.port s) :
    exec c s
      = .next (classifyRequest h.port { unit := h.unit, tag := h.tag, code := code, params := params }
        (advanceTo (momentOf c) s)) := by
  rw [exec_requestRow hc, powered_of_power hpower]
  exact congrArg Host.Outcome.next (serveCode_of_waiting (s := advanceTo (momentOf c) s) hw)

/-- A ready row is carried out and answered. -/
theorem exec_row_ready (hc : requestOf c = some (h, code, params)) (hready : Ready h s) :
    exec c s = .next (answered h code (performBytes code params (advanceTo (momentOf c) s))) := by
  rw [exec_requestRow hc, powered_of_power hready.1]
  exact congrArg Host.Outcome.next (serveCode_of_ready (s := advanceTo (momentOf c) s) hready)

end Row

/-- An answer is one reply at the tail of the service queue of its head's port. -/
theorem answered_queue (h : Head) (code : Byte) (r : State × Answer) (q : Port) :
    (answered h code r).link.outs[q].service
      = if q = h.port then r.1.link.outs[h.port].service
          ++ [{ frame := .reply h.unit h.tag code r.2.outcome.code r.2.data
                source := if code = 0x4F#8 ∧ r.2.outcome = .ok then .restartReply else .reply }]
        else r.1.link.outs[q].service := by
  unfold answered
  dsimp only
  by_cases hq : q = h.port
  · subst hq; simp
  · simp [hq, show h.port.val ≠ q.val from fun e => hq (Fin.ext e.symm)]

/-- R175: the reply of a request carried out stands at the tail of its port's service queue, which the request itself has
left alone or emptied. -/
theorem answered_reply {op : State → State × Answer} {s : State} (hop : Contained s (op s).1) (h : Head) (code : Byte) :
    ∃ o data src,
      ((answered h code (op s)).link.outs[h.port].service
          = s.link.outs[h.port].service ++ [{ frame := .reply h.unit h.tag code o data, source := src }]
        ∨ (answered h code (op s)).link.outs[h.port].service
          = [{ frame := .reply h.unit h.tag code o data, source := src }])
      ∧ ∀ q : Port, q ≠ h.port →
        (answered h code (op s)).link.outs[q].service = s.link.outs[q].service
          ∨ (answered h code (op s)).link.outs[q].service = [] := by
  refine ⟨(op s).2.outcome.code, (op s).2.data,
    if code = 0x4F#8 ∧ (op s).2.outcome = .ok then .restartReply else .reply, ?_, fun q hq => ?_⟩
  · rw [answered_queue, if_pos rfl]
    exact (hop.services h.port).imp (fun he => by rw [he]) fun he => by rw [he]; rfl
  · rw [answered_queue, if_neg hq]
    exact hop.services q

/-- Settles O25: a request row is its request in bytes (`exec_requestRow`), so each clause is one of the three things that
the service unit does with a request that completes. -/
theorem requestRows : Obligations.RequestRows := by
  intro c h code params s hc hpower told heard taken
  have htold : told = advanceTo (momentOf c) s := rfl
  have hrequest (s : State) (hpower : s.power = true) : exec (.serviceRequest h.port h.unit h.tag code params) s
      = .next (classifyRequest h.port { unit := h.unit, tag := h.tag, code := code, params := params } s) :=
    powered_of_power hpower
  have hwaits (hn : ¬taken) :
      s.hears h.unit = false ∨ s.service.busy ≠ none ∨ s.service.restart ≠ .none ∨ ¬NextTaken h.port s := by
    by_contra hcon
    obtain ⟨hheard, hbusy, hrestart, hturn⟩ := not_or.mp hcon |>.imp_right fun hrest =>
      (not_or.mp hrest).imp not_not.mp fun hrest => (not_or.mp hrest).imp not_not.mp not_not.mp
    exact hn ⟨(hears_iff ..).mp (by simpa using hheard), hbusy, hrestart, hturn⟩
  refine ⟨fun hready => ?_, ?_, fun hn => ?_, ?_, fun hn hstays => ?_, ?_⟩
  · have hop := performBytes_contained code params told
    obtain ⟨o, data, src, hreply, hothers⟩ := answered_reply hop h code
    exact ⟨_, o, data, src, exec_row_ready hc hready, hreply, hothers, rfl, rfl, hop.places⟩
  · rintro ⟨hheard, hbusy, hrestart, hturn⟩
    have hears := (hears_iff s h.unit).mpr hheard
    have hpowered : (classifyRequest h.port { unit := h.unit, tag := h.tag, code := code, params := params } s).power
        = true := by rwa [classifyRequest_power]
    have htake : exec (.serviceTake (momentOf c))
        (classifyRequest h.port { unit := h.unit, tag := h.tag, code := code, params := params } s)
        = .next (serviceTake (advanceTo (momentOf c)
          (classifyRequest h.port { unit := h.unit, tag := h.tag, code := code, params := params } s))) :=
      powered_of_power (f := fun s => serviceTake (advanceTo (momentOf c) s)) hpowered
    rw [exec_row_taken hc hpower hears hbusy hrestart hturn, runAll, hrequest s hpower]
    dsimp only
    rw [runAll, htake, serviceTake_placed hears hbusy hrestart hturn]
    rfl
  · rw [exec_row_waiting hc hpower (hwaits hn), hrequest told hpower, htold]
  · rintro ⟨hheard, hbusy, hrestart, hturn⟩ hstays hfull
    rw [exec_row_taken hc hpower ((hears_iff s h.unit).mpr hheard) hbusy hrestart hturn,
      passRequest_of_stays (s := advanceTo (momentOf c) s) hstays _ rfl,
      takeRequest_of_full (s := advanceTo (momentOf c) s) hfull]
    rfl
  · rw [exec_row_waiting hc hpower (hwaits hn),
      classifyRequest_of_stays (s := advanceTo (momentOf c) s) hstays, htold]
  · rintro ⟨hheard, hbusy, hrestart, hturn⟩ passed hroom
    have hpassed : passRequest h.port { unit := h.unit, tag := h.tag, code := code, params := params }
        (advanceTo (momentOf c) s) = passed := by
      unfold passRequest
      rw [passOn_eq]
      rfl
    rw [exec_row_taken hc hpower ((hears_iff s h.unit).mpr hheard) hbusy hrestart hturn, hpassed,
      takeRequest_answered hroom]

end Sys2Proof.Machine
end

section
/-! SUPPORT. The strike arithmetic (spec 03): each stage's value in closed form, and the statement made of them. -/

namespace Sys2Proof.Machine

/-! ### The stages -/

theorem widen_le {fill : Fill} {v : Nat} (h : v ≤ 127) : v ≤ widen fill v ∧ widen fill v ≤ 1023 := by
  cases fill <;> simp only [widen] <;> omega

/-- R5, R48: the expanded strike lies in 1–1023. -/
theorem expandStrike_range (fill : Fill) (a : StrikeAmount) : 1 ≤ expandStrike fill a ∧ expandStrike fill a ≤ 1023 := by
  cases a with
  | long v => simp only [expandStrike, rawLong]; omega
  | short v =>
    have hraw : 1 ≤ rawShort v.toNat ∧ rawShort v.toNat ≤ 127 := by unfold rawShort; omega
    have hwide := widen_le (fill := fill) hraw.2
    exact ⟨hraw.1.trans hwide.1, hwide.2⟩

/-- R52: the clamp. -/
theorem clampStage_eq (v : Int) : (clampStage v : Int) = max 1 (min v 1023) := by
  unfold clampStage
  split
  · omega
  · split <;> omega

theorem clampStage_range (v : Int) : 1 ≤ clampStage v ∧ clampStage v ≤ 1023 := by
  have := clampStage_eq v
  omega

/-- R53: the short form. -/
theorem outputStrike_short (v : Nat) : outputStrike .short v = if v < 8 then 1 else v / 8 := by
  dsimp only [outputStrike]
  split <;> omega

/-! ### Interpolation (R49, R50) -/

/-- R50: between two points the value rises by less than their distance. -/
theorem step_le (a r : Nat) (hr : r < 8) : a * r / 8 ≤ a := by
  refine (Nat.div_le_div_right (Nat.mul_le_mul_left a (Nat.le_of_lt hr))).trans ?_
  rw [Nat.mul_div_cancel _ (by decide)]

/-- R50: towards a point that is not below, the value rises by whole eighths, rounded down. -/
theorem step_rising (p a r : Nat) :
    (p : Int) + ((((p + a : Nat) : Int) - p) * r).tdiv 8 = ((p + a * r / 8 : Nat) : Int) := by
  have hstep : (((p + a : Nat) : Int) - p) * r = ((a * r : Nat) : Int) := by push_cast; ring
  have hdiv : ((a * r / 8 : Nat) : Int) = ((a * r : Nat) : Int).tdiv 8 := Int.ofNat_tdiv ..
  rw [hstep, ← hdiv]
  omega

/-- R50: towards a point below, the value falls by whole eighths, rounded toward the first point. -/
theorem step_falling (q a r : Nat) (hr : r < 8) :
    ((q + a : Nat) : Int) + (((q : Int) - (q + a : Nat)) * r).tdiv 8 = ((q + a - a * r / 8 : Nat) : Int) := by
  have hstep : ((q : Int) - (q + a : Nat)) * r = -((a * r : Nat) : Int) := by push_cast; ring
  have hdiv : ((a * r / 8 : Nat) : Int) = ((a * r : Nat) : Int).tdiv 8 := Int.ofNat_tdiv ..
  have hle := step_le a r hr
  rw [hstep, Int.neg_tdiv, ← hdiv]
  omega

/-- R49, R50: a value between two neighbouring points: by truncation toward zero, rounded toward the first point, and
between the two. -/
theorem between_points (p q r : Nat) (hr : r < 8) (c : Nat)
    (hc : c = ((p : Int) + (((q : Int) - p) * r).tdiv 8).toNat) :
    (c : Int) = p + (((q : Int) - p) * r).tdiv 8
      ∧ (p ≤ q → c = p + (q - p) * r / 8) ∧ (q < p → c = p - (p - q) * r / 8) ∧ min p q ≤ c ∧ c ≤ max p q := by
  rcases Nat.le_total p q with hpq | hqp
  · obtain ⟨a, rfl⟩ := Nat.exists_eq_add_of_le hpq
    have hle := step_le a r hr
    rw [step_rising] at hc ⊢
    rw [show p + a - p = a by omega]
    omega
  · obtain ⟨a, rfl⟩ := Nat.exists_eq_add_of_le hqp
    have hle := step_le a r hr
    rw [step_falling q a r hr] at hc ⊢
    rw [show q + a - q = a by omega]
    refine ⟨by omega, fun h => ?_, by omega, by omega, by omega⟩
    obtain rfl : a = 0 := by omega
    simpa using hc

/-- R49: the curve stage of partition n + 1 at 8 i + r stands between points i and i + 1. -/
theorem curveStage_at (curves : Vector (Vector Nat 129) 15) (n : Fin 15) (i : Fin 128) (r : Fin 8) :
    curveStage curves (n.val + 1) (8 * i.val + r.val)
      = ((curves[n][i.castSucc] : Int)
          + (((curves[n][i.succ] : Int) - curves[n][i.castSucc]) * r.val).tdiv 8).toNat := by
  have hdiv : (8 * i.val + r.val) / 8 = i.val := by omega
  have hmod : (8 * i.val + r.val) % 8 = r.val := by omega
  have hcurve : curveStage curves (n.val + 1) (8 * i.val + r.val) = interpolate curves[n] (8 * i.val + r.val) := by
    simp [curveStage]
  rw [hcurve]
  unfold interpolate
  dsimp only
  rw [hdiv, hmod, Vector.getElem?_eq_getElem (by omega : i.val < 129),
    Vector.getElem?_eq_getElem (by omega : i.val + 1 < 129)]
  rfl

/-- R55: the points of the straight line. -/
theorem straightCurves_point (n : Fin 15) (i : Fin 129) : straightCurves[n][i] = min (8 * i.val) 1023 := by
  simp [straightCurves, straightPoint]

/-- R57: on the straight line the curve stage gives 1–1015 back. -/
theorem curveStage_straight {partition s10 : Nat} (hlow : 1 ≤ partition) (hhigh : partition ≤ 15) (hs : s10 ≤ 1015) :
    curveStage straightCurves partition s10 = s10 := by
  have h := curveStage_at straightCurves ⟨partition - 1, by omega⟩ ⟨s10 / 8, by omega⟩
    ⟨s10 % 8, Nat.mod_lt _ (by decide)⟩
  rw [straightCurves_point, straightCurves_point] at h
  simp only [Fin.val_succ, Fin.val_castSucc, Nat.sub_add_cancel hlow, Nat.div_add_mod] at h
  have hp : min (8 * (s10 / 8)) 1023 = 8 * (s10 / 8) := by omega
  have hq : min (8 * (s10 / 8 + 1)) 1023 = 8 * (s10 / 8) + 8 := by omega
  rw [h, hp, hq, step_rising]
  omega

/-! ### Release values (R54) -/

/-- R54, R192: a Release without value has no value in either form, and L = 5. -/
theorem releaseFrame_none (form : Form) (lane : Lane) (key : Key) :
    (releaseFrame form lane key none = .releaseLong (laneByte lane) (keyByte key) none
        ∨ releaseFrame form lane key none = .releaseShort (laneByte lane) (keyByte key) none)
      ∧ (releaseFrame form lane key none).bytes.length = 5 := by
  cases form
  · exact ⟨.inl rfl, rfl⟩
  · exact ⟨.inr rfl, rfl⟩

/-- Settles O9: the stages' closed forms, one after the other. -/
theorem strikeValues : Obligations.StrikeValues := by
  refine ⟨fun curves z s10 => ?_, expandStrike_range,
    fun partition s10 hlow hhigh _ hs => curveStage_straight hlow hhigh hs,
    fun _ _ => rfl, fun _ _ _ => ⟨rfl, rfl, rfl⟩, fun curves n i r => ?_, fun curves z s10 => clampStage_eq _,
    fun v => ⟨rfl, outputStrike_short v⟩, fun _ _ _ => ⟨rfl, rfl, rfl, rfl, rfl⟩, fun form lane key v => ?_⟩
  · have hshape := clampStage_range (gainStage (curveStage curves z.curve.toNat s10) z.gain.toNat z.offset.toInt)
    refine ⟨hshape.1, hshape.2, ?_⟩
    rw [outputStrike_short]
    change 1 ≤ _ ∧ shapeStrike curves z s10 ≤ 1023 at hshape
    split <;> omega
  · exact between_points _ _ r.val r.isLt _ (curveStage_at curves n i r)
  · exact ⟨rfl, rfl, releaseFrame_none form lane key⟩

end Sys2Proof.Machine
end

section
/-! SUPPORT. The outbound half of the rig link (R17–R26, R77, R128, R129): the arbiter, the ends of a frame, MUTE and
FLUSH, and the invariants at reset. -/

namespace Sys2Proof.Machine

/-! ### The arbiter's choice (R17, R18) -/

/-- R17, R19: the eligible heads are those that may start. -/
theorem headEligible_iff (w : Option Nat) (l : List Queued) : headEligible w l = true ↔ mayStart w l := by
  cases l with
  | nil => simp [headEligible, mayStart]
  | cons x rest =>
    obtain ⟨f, source⟩ := x
    cases w with
    | none => simp [headEligible, mayStart]
    | some n => cases f <;> simp [headEligible, mayStart, heldByWindow]

theorem headEligible_eq_false {w : Option Nat} {l : List Queued} (h : ¬mayStart w l) : headEligible w l = false :=
  Bool.eq_false_iff.mpr fun he => h ((headEligible_iff w l).mp he)

section Choice
variable {mode : Nat} {o : OutPort}

theorem chooseQueue_timing (h : mayStart o.window o.timing) : chooseQueue mode o = some .timing :=
  if_pos ((headEligible_iff ..).mpr h)

theorem chooseQueue_urgent (htiming : ¬mayStart o.window o.timing) (h : mayStart o.window o.service)
    (hwait : o.serviceWait = 16) : chooseQueue mode o = some .service := by
  unfold chooseQueue
  rw [headEligible_eq_false htiming, (headEligible_iff ..).mpr h, hwait]
  rfl

/-- R17: past the timing queue and an urgent service head, the music is chosen, or the service queue. -/
theorem chooseQueue_music (htiming : ¬mayStart o.window o.timing)
    (hurgent : ¬(mayStart o.window o.service ∧ o.serviceWait = 16)) :
    chooseQueue mode o
      = (chooseMusic mode o).or (if headEligible o.window o.service then some .service else none) := by
  have hwaits : ¬(headEligible o.window o.service && o.serviceWait == Config.serviceWaitLimit) = true := by
    rw [Bool.and_eq_true, headEligible_iff, beq_iff_eq]
    exact hurgent
  unfold chooseQueue
  rw [headEligible_eq_false htiming, if_neg (by decide), if_neg hwaits]
  cases chooseMusic mode o <;> rfl

/-- R18: the play head goes first under INTERLEAVE with a count above 0, and where no burst head may start. -/
theorem chooseMusic_play (h : (mode ≠ 0 ∧ 0 < o.interleave ∧ mayStart o.window o.play)
      ∨ (¬mayStart o.window o.burst ∧ mayStart o.window o.play)) : chooseMusic mode o = some .play := by
  unfold chooseMusic
  rcases h with ⟨hmode, hcount, hplay⟩ | ⟨hburst, hplay⟩
  · exact if_pos ⟨hmode, hcount, (headEligible_iff ..).mpr hplay⟩
  · rw [headEligible_eq_false hburst, (headEligible_iff ..).mpr hplay]
    simp

theorem chooseMusic_burst (hfirst : ¬(mode ≠ 0 ∧ 0 < o.interleave ∧ mayStart o.window o.play))
    (h : mayStart o.window o.burst) : chooseMusic mode o = some .burst := by
  rw [← headEligible_iff o.window o.play] at hfirst
  unfold chooseMusic
  dsimp only
  rw [if_neg hfirst, if_pos ((headEligible_iff ..).mpr h)]

theorem chooseMusic_none (hburst : ¬mayStart o.window o.burst) (hplay : ¬mayStart o.window o.play) :
    chooseMusic mode o = none := by
  unfold chooseMusic
  rw [headEligible_eq_false hburst, headEligible_eq_false hplay]
  simp

end Choice

/-! ### The start of a frame (R17, R20, R128) -/

section Start
variable {p : Port} {s : State}

theorem startFrame_busy (h : s.link.outs[p].line ≠ none ∨ s.link.outs[p].gap ≠ none) : startFrame p s = s := by
  have hbusy : s.link.outs[p].ready = false := by
    unfold OutPort.ready
    rcases h with h | h
    · rw [Option.isNone_eq_false_iff.mpr (Option.isSome_iff_ne_none.mpr h), Bool.false_and]
    · rw [Option.isNone_eq_false_iff.mpr (Option.isSome_iff_ne_none.mpr h), Bool.and_false]
  unfold startFrame
  rw [hbusy]
  rfl

theorem startFrame_ready (hline : s.link.outs[p].line = none) (hgap : s.link.outs[p].gap = none) :
    startFrame p s = match chooseQueue s.settings.outbound[p].burstMode s.link.outs[p] with
      | none => s
      | some q =>
        if q = .burst then endChange (placeBursts (modifyOut p (fun o => o.start q) s))
        else modifyOut p (fun o => o.start q) s := by
  unfold startFrame OutPort.ready
  rw [hline, hgap]
  rfl

/-- R20: the head of a queue leaves it for the line. -/
theorem modifyOut_start {q : QueueName} {x : Queued} {rest : List Queued}
    (hq : s.link.outs[p].queue q = x :: rest) :
    modifyOut p (fun o => o.start q) s
      = { s with
          link :=
            { s.link with
              outs := s.link.outs.set p
                { s.link.outs[p].setQueue q rest with
                  line := some { item := x, queue := q }
                  serviceWait := if q = .service ∧ rest ≠ [] then 0 else s.link.outs[p].serviceWait } } } := by
  have hstart : s.link.outs[p].start q
      = { s.link.outs[p].setQueue q rest with
          line := some { item := x, queue := q }
          serviceWait := if q = .service ∧ rest ≠ [] then 0 else s.link.outs[p].serviceWait } := by
    unfold OutPort.start
    rw [hq]
  rw [← hstart]
  rfl

end Start

/-! ### Placing a burst (R14, R128) -/

/-- What placing a burst does to a port: frames are added at the tail of its burst queue, and no more. -/
def BurstAdded (o o' : OutPort) : Prop := ∃ added : List Queued, o' = { o with burst := o.burst ++ added }

theorem BurstAdded.refl (o : OutPort) : BurstAdded o o := ⟨[], by simp⟩

theorem BurstAdded.trans {o o' o'' : OutPort} (h : BurstAdded o o') (h' : BurstAdded o' o'') : BurstAdded o o'' := by
  obtain ⟨xs, rfl⟩ := h
  obtain ⟨ys, rfl⟩ := h'
  exact ⟨xs ++ ys, by simp⟩

theorem pushBurst_added (p q : Port) (f : Frame) (s : State) :
    BurstAdded s.link.outs[q] (pushBurst p f s).link.outs[q] := by
  rw [pushBurst, modifyOut_outs]
  split
  · next hq => subst hq; exact ⟨_, rfl⟩
  · exact .refl _

theorem selectDone_added (p q : Port) (e : BurstEntry) (s : State) :
    BurstAdded s.link.outs[q] (selectDone p e s).link.outs[q] := by
  unfold selectDone
  split
  · exact .refl _
  · exact pushBurst_added ..

theorem placeEntry_added (e : BurstEntry) (q : Port) (s : State) :
    BurstAdded s.link.outs[q] (placeEntry e s).1.link.outs[q] := by
  rcases placeEntry_spec e s with ⟨-, he⟩ | ⟨p, -, he | ⟨-, he | ⟨-, he⟩ | he⟩⟩ <;> rw [he]
  · exact .refl _
  · exact .refl _
  · exact selectDone_added ..
  · exact (selectDone_added p q e s).trans (pushBurst_added ..)
  · exact selectDone_added ..

theorem placeFrom_added (es : List BurstEntry) (q : Port) (s : State) :
    BurstAdded s.link.outs[q] (placeFrom es s).link.outs[q] := by
  induction es generalizing s with
  | nil => exact .refl _
  | cons e es ih =>
    unfold placeFrom
    dsimp only
    split
    · exact (placeEntry_added e q s).trans (ih _)
    · exact placeEntry_added e q s

theorem placeBursts_added (q : Port) (s : State) : BurstAdded s.link.outs[q] (placeBursts s).link.outs[q] := by
  unfold placeBursts
  split
  · exact placeFrom_added ..
  · exact .refl _

@[simp] theorem endChange_link (s : State) : (endChange s).link = s.link := by
  unfold endChange
  split
  · exact takeNext_link _
  · rfl

/-- Outside SWITCHING there is nothing to place and nothing to end (R128, R129). -/
theorem burstPlaced_of_not_switching {s : State} (h : s.change.state ≠ .switching) : endChange (placeBursts s) = s := by
  have hplace : placeBursts s = s := if_neg h
  rw [hplace]
  unfold endChange
  rw [if_neg]
  simp [h]

theorem exec_burstPlace {s : State} (h : s.power = true) : exec .burstPlace s = .next (endChange (placeBursts s)) :=
  powered_of_power (f := fun s => endChange (placeBursts s)) h

/-- Settles O52: the arbiter's choice queue by queue, and the burst that goes on where a burst head has left. -/
theorem frameStart : Obligations.FrameStart := by
  intro p s hpower o sent timing urgent playFirst burst play
  have hexec : exec (.frameStart p) s = .next (startFrame p s) := powered_of_power hpower
  rw [hexec]
  refine ⟨fun hbusy => by rw [startFrame_busy hbusy], fun hline hgap => ?_⟩
  rw [startFrame_ready hline hgap]
  have hmusic (htiming : ¬timing) (hurgent : ¬urgent) := chooseQueue_music (mode := s.settings.outbound[p].burstMode)
    (o := s.link.outs[p]) htiming hurgent
  refine ⟨fun x rest hq hstart => ?_, fun x rest htiming hq hstart => ?_, fun x rest htiming hurgent hq hstart => ?_,
    fun x rest htiming hurgent hfirst hq hstart => ?_, fun htiming hplay hburst hservice => ?_⟩
  · rw [chooseQueue_timing hstart]
    dsimp only
    rw [if_neg (by decide), modifyOut_start (q := .timing) (x := x) (rest := rest) (p := p) (s := s) hq]
    rfl
  · have hchoice : chooseQueue s.settings.outbound[p].burstMode s.link.outs[p] = some .service := by
      by_cases hurgent : urgent
      · exact chooseQueue_urgent htiming hurgent.1 hurgent.2
      · obtain ⟨-, hburst, hplay, hservice⟩ := hstart.resolve_left hurgent
        rw [hmusic htiming hurgent, chooseMusic_none hburst hplay, Option.none_or]
        exact if_pos ((headEligible_iff ..).mpr hservice)
    rw [hchoice]
    dsimp only
    rw [if_neg (by decide), modifyOut_start (q := .service) (x := x) (rest := rest) (p := p) (s := s) hq]
    by_cases hrest : rest = []
    · simp [hrest, sent, o, OutPort.setQueue]
    · simp [hrest, sent, o, OutPort.setQueue]
  · rw [hmusic htiming hurgent, chooseMusic_play hstart, Option.some_or]
    dsimp only
    rw [if_neg (by decide), modifyOut_start (q := .play) (x := x) (rest := rest) (p := p) (s := s) hq]
    rfl
  · intro started
    have hstarted : modifyOut p (fun o => o.start .burst) s = started := by
      rw [modifyOut_start (q := .burst) (x := x) (rest := rest) (p := p) (s := s) hq]
      rfl
    have hout : started.link.outs[p] = { o with burst := rest, line := some { item := x, queue := .burst } } := by
      simp [started, sent]
    obtain ⟨added, hadded⟩ := placeBursts_added p started
    rw [hmusic htiming hurgent, chooseMusic_burst hfirst hstart, Option.some_or]
    dsimp only
    rw [if_pos rfl, hstarted]
    refine ⟨_, rfl, exec_burstPlace hpower, ?_, ?_, fun hstate => burstPlaced_of_not_switching hstate⟩
    · rw [endChange_link, hadded, hout]
    · rw [endChange_link, hadded, hout]
      exact List.prefix_append ..
  · rw [hmusic htiming fun h => hservice h.1, chooseMusic_none hburst hplay, Option.none_or,
      headEligible_eq_false hservice, if_neg (by decide)]

/-! ### The end of a frame (R17–R20, R184) -/

theorem isSoundSelect_iff (f : Frame) : isSoundSelect f = true ↔ ∃ l b n, f = .soundSelect l b n := by
  cases f <;> simp [isSoundSelect]

/-- R18: the interleave count, in the statements' terms. -/
theorem interleaveAfter_eq (mode : Nat) (o : OutPort) (q : QueueName) :
    interleaveAfter mode o q
      = if mode = 0 then o.interleave
        else if q = .burst then mode
        else if q = .play then o.interleave - 1
        else o.interleave := by
  cases q <;> simp [interleaveAfter]

/-- Settles O53: the line's port after the last character, field by field, and the two timers. -/
theorem frameEnd : Obligations.FrameEnd := by
  intro p s hpower o r
  have hexec : exec (.frameEnd p) s = .next (endFrame p s) := powered_of_power hpower
  refine ⟨fun hline => ?_, fun x hline => ?_, powered_of_power hpower, powered_of_power hpower⟩
  · rw [hexec]
    unfold endFrame
    change s.link.outs[p].line = none at hline
    rw [hline]
  · have hended : o.ended r x
        = { o with
            line := none
            gap := if r.pacing = 0 then none else some r.pacing
            window := if (∃ l b n, x.item.frame = .soundSelect l b n) ∧ r.settle ≠ 0 then some r.settle else o.window
            serviceWait := if x.queue ≠ .service ∧ o.service ≠ [] then min (o.serviceWait + 1) 16 else o.serviceWait
            interleave :=
              if r.burstMode = 0 then o.interleave
              else if x.queue = .burst then r.burstMode
              else if x.queue = .play then o.interleave - 1
              else o.interleave } := by
      have hwindow : (isSoundSelect x.item.frame && r.settle != 0) = true
          ↔ (∃ l b n, x.item.frame = .soundSelect l b n) ∧ r.settle ≠ 0 := by
        rw [Bool.and_eq_true, isSoundSelect_iff, bne_iff_ne]
      unfold OutPort.ended
      rw [interleaveAfter_eq, if_congr hwindow rfl rfl]
      rfl
    rw [hexec, ← hended]
    unfold endFrame
    change s.link.outs[p].line = some x at hline
    rw [hline]
    by_cases hreply : x.item.source = .restartReply
    · rw [if_pos hreply]
      dsimp only
      rw [if_pos hreply]
      rfl
    · rw [if_neg hreply]
      dsimp only
      rw [if_neg hreply]
      rfl

/-! ### MUTE (R22, R24) -/

theorem portOfNat?_of_out {n : Nat} (h : n = 0 ∨ 8 < n) : portOfNat? n = none :=
  dif_neg (by omega)

theorem portOfNat?_of_eq {n : Nat} {p : Port} (h : n = p.val + 1) : portOfNat? n = some p := by
  subst h
  unfold portOfNat?
  rw [dif_pos (by omega)]
  rfl

theorem portOfNat?_eq_some {n : Nat} {p : Port} : portOfNat? n = some p ↔ n = p.val + 1 := by
  refine ⟨fun h => ?_, portOfNat?_of_eq⟩
  unfold portOfNat? at h
  split at h
  · cases h
    dsimp only
    omega
  · cases h

theorem natBool?_of_byte {b : Byte} (h : b.toNat ≤ 1) : natBool? b.toNat = some (b == 1#8) := by
  rcases Nat.le_one_iff_eq_zero_or_eq_one.mp h with h | h
  · obtain rfl : b = 0#8 := BitVec.eq_of_toNat_eq h
    rfl
  · obtain rfl : b = 1#8 := BitVec.eq_of_toNat_eq h
    rfl

theorem natBool?_of_above {n : Nat} (h : 1 < n) : natBool? n = none := by
  unfold natBool?
  split
  · omega
  · omega
  · rfl

theorem muteHeld_iff (s : State) (p : Port) :
    s.muteHeld p = true ↔ ∃ i : Pedal, s.settings.pedals[i].function = .muteHold ∧ s.settings.pedals[i].argPort = p
      ∧ s.pressed i = true := by
  simp only [State.muteHeld, List.any_eq_true, List.mem_finRange, true_and, Bool.and_eq_true, beq_iff_eq, and_assoc]

/-- Settles O48: MUTE by its two parameters and the flag as it stands; the mute itself follows R22's four sources. -/
theorem mute : Obligations.Mute := by
  intro h port state s hready
  have hexec : exec (.mute h port state) s
      = .next (replied h 0x46#8 (opMute port state s).2.outcome (opMute port state s).2.data (opMute port state s).1) :=
    serve_of_ready (r := .mute port state) hready rfl (.inl (show (0x46#8 : Byte) ≠ restartCode by decide))
  rw [hexec]
  refine ⟨fun hout => ?_, fun p hport hstate => ?_⟩
  · have hrefused : opMute port state s = refuse .range s := by
      unfold opMute
      rcases hout with hout | hout | hout
      · rw [portOfNat?_of_out (.inl hout)]
      · rw [portOfNat?_of_out (.inr hout)]
      · rw [natBool?_of_above hout]
        cases portOfNat? port.toNat <;> rfl
    rw [hrefused]
    rfl
  · have hop : opMute port state s
        = if s.link.outs[p].serviceMute = (state == 1#8) then refuse .noChange s
          else (modifyOut p (fun o => { o with serviceMute := state == 1#8 }) s, bare .ok) := by
      unfold opMute
      rw [portOfNat?_of_eq hport, natBool?_of_byte hstate]
    rw [hop]
    refine ⟨fun hsame => by rw [if_pos hsame]; rfl, fun hother => ?_⟩
    rw [if_neg hother]
    refine ⟨_, rfl, rfl, ?_, fun q hq => ?_⟩
    · have hout := modifyOut_outs s p p fun o => { o with serviceMute := state == 1#8 }
      rw [if_pos rfl] at hout
      unfold State.muted
      rw [hout]
      simp only [Bool.or_eq_true, muteHeld_iff, beq_iff_eq]
      change ((s.change.active.block.muteSet.getLsbD p.val = true ∨ ∃ i : Pedal,
        s.settings.pedals[i].function = .muteHold
        ∧ s.settings.pedals[i].argPort = p ∧ s.pressed i = true) ∨ s.link.outs[p].muteToggle = true) ∨ state = 1#8 ↔ _
      rw [or_comm, or_assoc, or_comm (a := ∃ _, _)]
    · have hout := modifyOut_outs s p q fun o => { o with serviceMute := state == 1#8 }
      rw [if_neg hq] at hout
      unfold State.muted
      rw [hout]
      rfl

/-! ### FLUSH (R25, R26, R77) -/

/-- R77: what a flush leaves of the held-note table and the sustain logic. -/
theorem flushHeld_flushed (p : Port) (s : State) : FlushedHeld p s.held (flushHeld p s).held := by
  refine ⟨rfl, rfl, fun q l => ?_, fun q l => ?_⟩
  · change (upd s.held.holds p fun lanes => lanes.map fun _ => 0)[q][l] = _
    rw [upd_getElem]
    by_cases hq : q = p
    · subst hq; simp
    · simp [hq]
  · simp [flushHeld]

/-- R25: the part after the flush of a port, before the change controller is told of it. -/
theorem flushedTo_eq (p : Port) (s : State) :
    pushPlay p { frame := .portSilence, source := .silence } (flushHeld p (modifyOut p OutPort.flushed s))
      = flushedTo p (flushHeld p s).held s := by
  simp [pushPlay, modifyOut, flushHeld, flushedTo, upd, OutPort.flushed, State.setLink, State.setHeld]

/-- R26: the port of the entry at the burst cursor. -/
theorem cursorPort?_eq_some {s : State} {p : Port} :
    cursorPort? s = some p
      ↔ (s.change.active.block.bursts[s.change.burstCursor]?).map (·.port.toNat) = some (p.val + 1) := by
  unfold cursorPort?
  cases s.change.active.block.bursts[s.change.burstCursor]? with
  | none => simp
  | some e => simp [portOfNat?_eq_some]

/-- R26: entries for a flushed port are passed over. -/
theorem placeFrom_flushed {p : Port} (es : List BurstEntry) (s : State) (hflushed : s.change.flushed[p] = true)
    (hes : ∀ e ∈ es, e.port.toNat = p.val + 1) :
    ∃ b, placeFrom es s
      = s.setChange { s.change with burstCursor := s.change.burstCursor + es.length, selectPlaced := b } := by
  induction es generalizing s with
  | nil => exact ⟨s.change.selectPlaced, rfl⟩
  | cons e es ih =>
    have hport : entryPort e s = none := by
      unfold entryPort
      rw [portOfNat?_of_eq (hes e (by simp))]
      simp [hflushed]
    have hpassed : placeEntry e s = (advanceBurst s, true) := by
      unfold placeEntry
      rw [hport]
    obtain ⟨b, hb⟩ := ih (advanceBurst s) hflushed fun x hx => hes x (by simp [hx])
    refine ⟨b, ?_⟩
    unfold placeFrom
    rw [hpassed]
    dsimp only
    rw [if_pos rfl, hb]
    simp [advanceBurst, modifyChange, State.setChange, Nat.add_assoc, Nat.add_comm 1]

/-- R129: with the burst past its last entry, the burst queues empty and no request waiting, the change ends. -/
theorem endChange_idle {s : State} (hstate : s.change.state = .switching) (hdone : burstDone s = true)
    (hqueue : s.change.queue = []) :
    endChange s = s.setChange { s.change with state := .idle, target := none, queue := [] } := by
  unfold endChange
  rw [if_pos (by simp [hstate, hdone])]
  unfold takeNext
  rw [show (modifyChange (fun c => { c with state := .idle, target := none }) s).change.queue = [] from hqueue]
  rfl

/-- R26: the change controller after a flush while SWITCHING, before it goes on placing. -/
def flushedChange (p : Port) (c : Change) : Change :=
  let here := (c.active.block.bursts[c.burstCursor]?).map (·.port.toNat) = some (p.val + 1)
  { c with
    flushed := c.flushed.set p true
    burstCursor := if here then c.burstCursor + 1 else c.burstCursor
    selectPlaced := if here then false else c.selectPlaced }

theorem flushChange_switching {p : Port} {s : State} (h : s.change.state = .switching) :
    flushChange p s = endChange (placeBursts (s.setChange (flushedChange p s.change))) := by
  let marked := modifyChange (fun c => { c with flushed := upd c.flushed p fun _ => true }) s
  have hpassed : (if cursorPort? marked = some p then advanceBurst marked else marked)
      = s.setChange (flushedChange p s.change) := by
    unfold flushedChange
    dsimp only
    rw [if_congr (cursorPort?_eq_some (s := marked)) rfl rfl]
    by_cases hhere : (s.change.active.block.bursts[s.change.burstCursor]?).map (·.port.toNat) = some (p.val + 1)
    · rw [if_pos hhere, if_pos hhere]
      exact if_pos hhere
    · rw [if_neg hhere, if_neg hhere]
      exact if_neg hhere
  rw [← hpassed]
  exact if_pos h

/-- R26, R129: a flush of the port that everything left of the burst is for ends the change. -/
theorem flushChange_ends {p : Port} {s : State} (hstate : s.change.state = .switching) (hqueue : s.change.queue = [])
    (hleft : ∀ e ∈ s.change.active.block.bursts.drop s.change.burstCursor, e.port.toNat = p.val + 1)
    (hempty : ∀ q : Port, s.link.outs[q].burst = []) :
    (flushChange p s).change.state = .idle ∧ (flushChange p s).change.active = s.change.active
      ∧ (flushChange p s).link = s.link := by
  let x := s.setChange (flushedChange p s.change)
  have hcursor : s.change.burstCursor ≤ x.change.burstCursor := by
    dsimp only [x, flushedChange, State.setChange_change]
    split
    · exact Nat.le_succ _
    · exact Nat.le_refl _
  have hflushed : x.change.flushed[p] = true := by
    show (s.change.flushed.set p true)[p] = true
    simp
  obtain ⟨b, hplaced⟩ := placeFrom_flushed (x.change.active.block.bursts.drop x.change.burstCursor) x hflushed
    fun e he => hleft e (List.drop_subset_drop_left _ hcursor he)
  have hbursts : placeBursts x = placeFrom (x.change.active.block.bursts.drop x.change.burstCursor) x := if_pos hstate
  have hdone : burstDone (placeBursts x) = true := by
    rw [hbursts, hplaced]
    unfold burstDone
    rw [Bool.and_eq_true, List.all_eq_true]
    refine ⟨decide_eq_true ?_, fun q _ => ?_⟩
    · simp only [State.setChange_change, List.length_drop]
      omega
    · show s.link.outs[q].burst.isEmpty = true
      rw [hempty q]
      rfl
  rw [flushChange_switching hstate]
  have hend : endChange (placeBursts x) = (placeBursts x).setChange
      { (placeBursts x).change with state := .idle, target := none, queue := [] } :=
    endChange_idle (by rw [hbursts, hplaced]; exact hstate) hdone (by rw [hbursts, hplaced]; exact hqueue)
  rw [hend, hbursts, hplaced]
  exact ⟨rfl, rfl, rfl⟩

/-- Settles O49: the port's queues, the held notes and the sustain logic first, then what the change controller does. -/
theorem flush : Obligations.Flush := by
  intro h port s hready
  have hexec : exec (.flush h port) s
      = .next (replied h 0x47#8 (opFlush port s).2.outcome (opFlush port s).2.data (opFlush port s).1) :=
    serve_of_ready (r := .flush port) hready rfl (.inl (show (0x47#8 : Byte) ≠ restartCode by decide))
  refine ⟨fun hout => ?_, fun p hport => ⟨(flushHeld p s).held, flushHeld_flushed p s, ?_⟩⟩
  · have hrefused : opFlush port s = refuse .range s := by
      unfold opFlush
      rw [portOfNat?_of_out hout]
    rw [hexec, hrefused]
    rfl
  · have hflush : exec (.flush h port) s
        = .next (replied h 0x47#8 .ok [] (flushChange p (flushedTo p (flushHeld p s).held s))) := by
      have hop : opFlush port s = (doFlush p s, bare .ok) := by
        unfold opFlush
        rw [portOfNat?_of_eq hport]
      rw [hexec, hop, ← flushedTo_eq]
      rfl
    rw [hflush]
    refine ⟨fun hstate => ?_, fun hstate => ?_, fun hstate hqueue hleft hothers => ?_⟩
    · have hchange : flushChange p (flushedTo p (flushHeld p s).held s) = flushedTo p (flushHeld p s).held s :=
        if_neg hstate
      rw [hchange]
    · intro here
      rw [flushChange_switching (s := flushedTo p (flushHeld p s).held s) hstate]
      exact ⟨_, rfl, exec_burstPlace hready.1⟩
    · have houts (q : Port) : (flushedTo p (flushHeld p s).held s).link.outs[q].burst = [] := by
        by_cases hq : q = p
        · subst hq; simp [flushedTo]
        · simpa [flushedTo, show p.val ≠ q.val from fun e => hq (Fin.ext e.symm)] using hothers q hq
      obtain ⟨hidle, hactive, hlink⟩ :=
        flushChange_ends (s := flushedTo p (flushHeld p s).held s) hstate hqueue hleft houts
      refine ⟨_, rfl, hidle, hactive, ?_, ?_⟩
      · rw [hlink]
        exact houts p
      · rw [hlink]
        simp [flushedTo]

/-! ### The invariants at reset -/

theorem reset_sustain (p : Port) (l : Lane) : State.reset.held.sustain[p][l] = { down := false, forwarded := [] } := by
  simp [State.reset, Held.empty]

theorem reset_sustainInv : SustainInv State.reset := by
  have hlisting (d : DestLane) : listingLanes d State.reset = 0 := by
    unfold listingLanes
    rw [List.countP_eq_zero]
    intro pl _
    rw [reset_sustain]
    simp
  have hholds (d : DestLane) : State.reset.held.holds[d.port][d.lane] = 0 := by
    simp [State.reset, Held.empty]
  refine ⟨fun d => ?_, fun p l => ?_, ?_, Nat.zero_le 16, ?_⟩
  · rw [hlisting, hholds]
    exact ⟨rfl, Nat.zero_le 16⟩
  · rw [reset_sustain]
    simp
  · intro e he
    cases he
  · intro c hc
    cases hc

theorem reset_clockInv : ClockInv State.reset := by
  have hslot (i : Slot) : State.reset.tempo.slots[i] = TempoRecord.default := by
    simp [State.reset, Tempo.fresh]
  refine ⟨fun i => ?_, by decide, by decide, by decide, by decide, by decide, by decide, by decide, by decide,
    by decide, by decide, fun _ => rfl, by decide, ?_⟩
  · rw [hslot]
    unfold TempoRecord.inRange
    decide
  · intro c hc
    cases hc

/-- Settles O55: at reset every queue, table and memory is empty, every counter 0, every setting its default. -/
theorem invariantsAtReset : Obligations.InvariantsAtReset := by
  obtain ⟨hcapacity, hcounter⟩ := (within_iff _).mp reset_within
  refine ⟨hcapacity, hcounter, ?_, reset_sustainInv, reset_clockInv, ⟨Memory.wf_nil, Memory.wf_nil⟩, ?_⟩
  · exact ⟨List.nodup_nil, List.nodup_nil, fun i => by simp [State.reset, Held.empty], fun e he => by cases he⟩
  · intro p hp
    cases hp

end Sys2Proof.Machine
end

section
/-! SUPPORT. Offers to the outbound queues that count what they refuse (R13, R15): frames offered one after the other come
to what the statements write out for all of them at once. -/

namespace Sys2Proof.Machine

/-! ### Tables and counts -/

/-- A table read at every place is that table. -/
theorem ofFn_getElem {α : Type} {n : Nat} (v : Vector α n) : (Vector.ofFn fun i : Fin n => v[i]) = v := by
  ext i hi
  simp

/-- A table made place by place, read at a place. -/
theorem getElem_ofFn {α : Type} {n : Nat} (f : Fin n → α) (i : Fin n) : (Vector.ofFn f)[i] = f i := by simp

/-- A table made place by place, with one place changed. -/
theorem upd_ofFn {α : Type} {n : Nat} (f : Fin n → α) (i : Fin n) (g : α → α) :
    upd (Vector.ofFn f) i g = Vector.ofFn fun j => if j = i then g (f i) else f j := by
  ext j hj : 1
  refine (upd_getElem (Vector.ofFn f) i ⟨j, hj⟩ g).trans ?_
  simp

/-- A table with one place changed, made place by place. -/
theorem upd_eq_ofFn {α : Type} {n : Nat} (v : Vector α n) (i : Fin n) (g : α → α) :
    upd v i g = Vector.ofFn fun j => if j = i then g v[i] else v[j] := by
  ext j hj : 1
  refine (upd_getElem v i ⟨j, hj⟩ g).trans ?_
  simp

@[simp] theorem countedUp_zero (old : Nat) : countedUp old 0 = old := if_pos rfl

theorem countedUp_one (old : Nat) : countedUp old 1 = bump old := rfl

/-- R189: events counted in two runs. -/
@[simp] theorem countedUp_countedUp (old m n : Nat) : countedUp (countedUp old m) n = countedUp old (m + n) := by
  unfold countedUp
  split <;> split <;> split <;> omega

/-- R189: one event more. -/
theorem bump_countedUp (old n : Nat) : bump (countedUp old n) = countedUp old (n + 1) := by
  rw [← countedUp_one, countedUp_countedUp]

/-! ### The part with its ports replaced -/

/-- The part with its outbound ports and its flags and counters replaced. -/
def withPorts (outs : Port → OutPort) (x : Status) (s : State) : State :=
  { s with link := { s.link with outs := Vector.ofFn outs }, status := x }

@[simp] theorem withPorts_outs (outs : Port → OutPort) (x : Status) (s : State) (q : Port) :
    (withPorts outs x s).link.outs[q] = outs q := by simp [withPorts]


@[simp] theorem withPorts_withPorts (outs outs' : Port → OutPort) (x x' : Status) (s : State) :
    withPorts outs x (withPorts outs' x' s) = withPorts outs x s := rfl

theorem withPorts_self (s : State) : withPorts (fun q => s.link.outs[q]) s.status s = s := by
  unfold withPorts
  rw [ofFn_getElem]

theorem modifyOut_eq (p : Port) (f : OutPort → OutPort) (s : State) :
    modifyOut p f s = withPorts (fun q => if q = p then f s.link.outs[p] else s.link.outs[q]) s.status s := by
  unfold modifyOut withPorts
  rw [upd_eq_ofFn]
  rfl

theorem setStatus_eq (x : Status) (s : State) : s.setStatus x = withPorts (fun q => s.link.outs[q]) x s := by
  unfold withPorts
  rw [ofFn_getElem]
  rfl

/-! ### Queues that count what they refuse -/

/-- A queue that every outbound port has, with its capacity, and the counts, port by port, of what it refuses. -/
structure CountedQueue where
  queue : OutPort → List Queued
  withQueue : OutPort → List Queued → OutPort
  capacity : Nat
  counts : Status → Vector Nat 8
  withCounts : Status → Vector Nat 8 → Bool → Status
  withQueue_self : ∀ o, withQueue o (queue o) = o
  queue_withQueue : ∀ o l, queue (withQueue o l) = l
  withQueue_withQueue : ∀ o l l', withQueue (withQueue o l) l' = withQueue o l'
  withCounts_self : ∀ x, withCounts x (counts x) x.overrun = x
  counts_withCounts : ∀ x v b, counts (withCounts x v b) = v
  overrun_withCounts : ∀ x v b, (withCounts x v b).overrun = b
  withCounts_withCounts : ∀ x v b v' b', withCounts (withCounts x v b) v' b' = withCounts x v' b'

/-- R15: the play queues, as they take frames other than Releases and Port Silence. -/
def playQueue : CountedQueue where
  queue o := o.play
  withQueue o l := { o with play := l }
  capacity := 28
  counts x := x.playDrops
  withCounts x v b := { x with playDrops := v, overrun := b }
  withQueue_self _ := rfl
  queue_withQueue _ _ := rfl
  withQueue_withQueue _ _ _ := rfl
  withCounts_self _ := rfl
  counts_withCounts _ _ _ := rfl
  overrun_withCounts _ _ _ := rfl
  withCounts_withCounts _ _ _ _ _ := rfl

/-- R13: the timing queues. -/
def timingQueue : CountedQueue where
  queue o := o.timing
  withQueue o l := { o with timing := l }
  capacity := 4
  counts x := x.timingSlips
  withCounts x v b := { x with timingSlips := v, overrun := b }
  withQueue_self _ := rfl
  queue_withQueue _ _ := rfl
  withQueue_withQueue _ _ _ := rfl
  withCounts_self _ := rfl
  counts_withCounts _ _ _ := rfl
  overrun_withCounts _ _ _ := rfl
  withCounts_withCounts _ _ _ _ _ := rfl

section Offered
variable (k : CountedQueue)

/-- The room that a port's queue has. -/
def CountedQueue.room (s : State) (q : Port) : Nat := k.capacity - (k.queue s.link.outs[q]).length

/-- A port's queue once frames have been offered to it: what finds room stands at the tail. -/
def CountedQueue.filled (frames : Port → List Queued) (s : State) (q : Port) : OutPort :=
  k.withQueue s.link.outs[q] (k.queue s.link.outs[q] ++ (frames q).take (k.room s q))

/-- The counts and the flag once frames have been offered: what finds no room is counted and sets OVERRUN. -/
def CountedQueue.refusals (frames : Port → List Queued) (s : State) : Status :=
  k.withCounts s.status
    (Vector.ofFn fun q => countedUp (k.counts s.status)[q] ((frames q).length - k.room s q))
    (s.status.overrun || (List.finRange 8).any fun q => k.room s q < (frames q).length)

/-- The part with frames offered to the queues of its ports, those of one port one after the other. -/
def CountedQueue.offered (frames : Port → List Queued) (s : State) : State :=
  withPorts (k.filled frames s) (k.refusals frames s) s

/-- Nothing offered leaves the part as it is. -/
theorem CountedQueue.offered_none (s : State) : k.offered (fun _ => []) s = s := by
  have hfilled : k.filled (fun _ => []) s = fun q => s.link.outs[q] := by
    funext q
    rw [filled, List.take_nil, List.append_nil, k.withQueue_self]
  have hrefusals : k.refusals (fun _ => []) s = s.status := by
    have hnone : ((List.finRange 8).any fun q => decide (k.room s q < ([] : List Queued).length)) = false :=
      List.any_eq_false.mpr fun _ _ h => absurd (of_decide_eq_true h) (Nat.not_lt_zero _)
    unfold refusals
    rw [hnone, Bool.or_false]
    simp only [List.length_nil, Nat.zero_sub, countedUp_zero, ofFn_getElem, k.withCounts_self]
  rw [offered, hfilled, hrefusals, withPorts_self]

/-- Frames offered, and then others behind them. -/
theorem CountedQueue.offered_offered (frames frames' : Port → List Queued) (s : State) :
    k.offered frames' (k.offered frames s) = k.offered (fun q => frames q ++ frames' q) s := by
  let t := k.offered frames s
  have hroom (q : Port) : k.room t q = k.room s q - (frames q).length := by
    unfold room
    rw [show t.link.outs[q] = k.filled frames s q from withPorts_outs .., filled, k.queue_withQueue, List.length_append,
      List.length_take]
    unfold room
    omega
  have hcounts : k.counts t.status
      = Vector.ofFn fun q => countedUp (k.counts s.status)[q] ((frames q).length - k.room s q) := k.counts_withCounts ..
  have hoverrun : t.status.overrun
      = (s.status.overrun || (List.finRange 8).any fun q => k.room s q < (frames q).length) := k.overrun_withCounts ..
  have hfilled : k.filled frames' t = k.filled (fun q => frames q ++ frames' q) s := by
    funext q
    unfold filled
    rw [hroom, show t.link.outs[q] = k.filled frames s q from withPorts_outs .., filled, k.queue_withQueue,
      k.withQueue_withQueue, List.append_assoc, List.take_append]
  have hrefusals : k.refusals frames' t = k.refusals (fun q => frames q ++ frames' q) s := by
    unfold refusals
    have hover : ((s.status.overrun || (List.finRange 8).any fun q => decide (k.room s q < (frames q).length))
          || (List.finRange 8).any fun q => decide (k.room t q < (frames' q).length))
        = (s.status.overrun || (List.finRange 8).any fun q => decide (k.room s q < (frames q ++ frames' q).length)) := by
      rw [Bool.or_assoc, Bool.eq_iff_iff]
      simp only [Bool.or_eq_true, List.any_eq_true, List.mem_finRange, true_and, decide_eq_true_iff, ← exists_or, hroom,
        List.length_append]
      refine or_congr Iff.rfl (exists_congr fun q => ?_)
      omega
    rw [hoverrun, hover, hcounts, show t.status = k.refusals frames s from rfl, refusals, k.withCounts_withCounts]
    congr 1
    congr 1
    funext q
    rw [hroom, List.length_append]
    rw [getElem_ofFn, countedUp_countedUp]
    congr 1
    omega
  show withPorts _ _ (withPorts _ _ s) = _
  rw [withPorts_withPorts, hfilled, hrefusals]
  rfl

/-- One frame offered to the queue of a port. -/
def single (p : Port) (x : Queued) (q : Port) : List Queued := if q = p then [x] else []

/-- A frame that finds room stands at the tail. -/
theorem CountedQueue.offered_single_room {p : Port} {s : State} (h : (k.queue s.link.outs[p]).length < k.capacity)
    (x : Queued) :
    k.offered (single p x) s
      = withPorts (fun q => if q = p then k.withQueue s.link.outs[p] (k.queue s.link.outs[p] ++ [x]) else s.link.outs[q])
          s.status s := by
  have hroom : 1 ≤ k.room s p := Nat.sub_pos_of_lt h
  have hfits (q : Port) : (single p x q).length ≤ k.room s q := by
    unfold single
    split
    · next hq => exact hq ▸ hroom
    · exact Nat.zero_le _
  have hfilled : k.filled (single p x) s
      = fun q => if q = p then k.withQueue s.link.outs[p] (k.queue s.link.outs[p] ++ [x]) else s.link.outs[q] := by
    funext q
    unfold filled
    rw [List.take_of_length_le (hfits q), single]
    split
    · next hq => rw [hq]
    · rw [List.append_nil, k.withQueue_self]
  have hrefusals : k.refusals (single p x) s = s.status := by
    have hnone : ((List.finRange 8).any fun q => decide (k.room s q < (single p x q).length)) = false :=
      List.any_eq_false.mpr fun q _ h => absurd (of_decide_eq_true h) (Nat.not_lt.mpr (hfits q))
    unfold refusals
    rw [hnone, Bool.or_false]
    simp only [Nat.sub_eq_zero_of_le (hfits _), countedUp_zero, ofFn_getElem, k.withCounts_self]
  rw [offered, hfilled, hrefusals]

/-- A frame that finds no room is counted and sets OVERRUN. -/
theorem CountedQueue.offered_single_full {p : Port} {s : State} (h : k.capacity ≤ (k.queue s.link.outs[p]).length)
    (x : Queued) :
    k.offered (single p x) s = s.setStatus (k.withCounts s.status (upd (k.counts s.status) p bump) true) := by
  have hroom : k.room s p = 0 := Nat.sub_eq_zero_of_le h
  have hfilled : k.filled (single p x) s = fun q => s.link.outs[q] := by
    funext q
    unfold filled single
    split
    · next hq => rw [hq, hroom, List.take_zero, List.append_nil, k.withQueue_self]
    · rw [List.take_nil, List.append_nil, k.withQueue_self]
  have hrefusals : k.refusals (single p x) s = k.withCounts s.status (upd (k.counts s.status) p bump) true := by
    have hover : ((List.finRange 8).any fun q => decide (k.room s q < (single p x q).length)) = true :=
      List.any_eq_true.mpr ⟨p, List.mem_finRange p, by simp [hroom, single]⟩
    unfold refusals
    rw [hover, Bool.or_true, upd_eq_ofFn]
    congr 2
    funext q
    unfold single
    split
    · next hq => rw [hq, hroom]; rfl
    · rw [List.length_nil, Nat.zero_sub, countedUp_zero]
  rw [offered, hfilled, hrefusals, setStatus_eq]

end Offered

/-! ### The play queues (R15) -/

theorem offeredPlay_eq (frames : Port → List Queued) (s : State) : offeredPlay frames s = playQueue.offered frames s := rfl

theorem offerPlay_eq (p : Port) (x : Queued) (s : State) : offerPlay p x s = playQueue.offered (single p x) s := by
  rcases offerPlay_spec s p x with ⟨hroom, he⟩ | ⟨hfull, he⟩ <;> rw [he]
  · rw [playQueue.offered_single_room hroom, pushPlay, modifyOut_eq]
    rfl
  · rw [playQueue.offered_single_full hfull]
    rfl

/-- R15: frames offered to the play queues one after the other. -/
theorem foldl_offerPlay {α : Type} (port : α → Port) (frame : α → Queued) (xs : List α) (s : State) :
    xs.foldl (fun s x => offerPlay (port x) (frame x) s) s
      = offeredPlay (fun q => (xs.filter fun x => port x == q).map frame) s := by
  induction xs generalizing s with
  | nil => exact (playQueue.offered_none s).symm
  | cons x xs ih =>
    rw [List.foldl_cons, ih, offeredPlay_eq, offeredPlay_eq, offerPlay_eq, playQueue.offered_offered]
    congr 1
    funext q
    unfold single
    split
    · next hq => rw [List.filter_cons_of_pos (by simp [hq])]; rfl
    · next hq => rw [List.filter_cons_of_neg (by simpa using fun h => hq h.symm), List.nil_append]

/-! ### What is muted (R22) -/

/-- R22: what a port's mute depends on. -/
theorem muted_of_same {s t : State} {q : Port} (hchange : t.change = s.change) (hsettings : t.settings = s.settings)
    (hpedals : t.pedals = s.pedals) (htoggle : t.link.outs[q].muteToggle = s.link.outs[q].muteToggle)
    (hservice : t.link.outs[q].serviceMute = s.link.outs[q].serviceMute) : t.muted q = s.muted q := by
  simp only [State.muted, State.muteHeld, State.pressed, hchange, hsettings, hpedals, htoggle, hservice]

@[simp] theorem pushPlay_muted (p q : Port) (x : Queued) (s : State) : (pushPlay p x s).muted q = s.muted q := by
  have hout : (pushPlay p x s).link.outs[q].muteToggle = s.link.outs[q].muteToggle
      ∧ (pushPlay p x s).link.outs[q].serviceMute = s.link.outs[q].serviceMute := by
    rw [pushPlay, modifyOut_outs]
    split
    · next hq => exact hq ▸ ⟨rfl, rfl⟩
    · exact ⟨rfl, rfl⟩
  exact muted_of_same rfl rfl rfl hout.1 hout.2

@[simp] theorem offerPlay_muted (p q : Port) (x : Queued) (s : State) : (offerPlay p x s).muted q = s.muted q := by
  rcases offerPlay_spec s p x with ⟨-, he⟩ | ⟨-, he⟩ <;> rw [he]
  · exact pushPlay_muted ..
  · rfl

/-! ### The timing queues (R13, R100) -/

theorem offeredTiming_eq (frames : Port → List Frame) (s : State) :
    offeredTiming frames s = timingQueue.offered (fun q => tempoFrames (frames q)) s := by
  unfold offeredTiming CountedQueue.offered CountedQueue.filled CountedQueue.refusals tempoFrames
  simp only [List.map_take, List.length_map]
  rfl

theorem offeredTiming_none (s : State) : offeredTiming (fun _ => []) s = s := by
  rw [offeredTiming_eq]
  exact timingQueue.offered_none s

theorem offeredTiming_offeredTiming (frames frames' : Port → List Frame) (s : State) :
    offeredTiming frames' (offeredTiming frames s) = offeredTiming (fun q => frames q ++ frames' q) s := by
  rw [offeredTiming_eq, offeredTiming_eq, offeredTiming_eq, timingQueue.offered_offered]
  simp only [tempoFrames, List.map_append]

theorem offerTiming_eq (p : Port) (f : Frame) (s : State) :
    offerTiming p f s = offeredTiming (fun q => if q = p then [f] else []) s := by
  have hsingle : (fun q => tempoFrames (if q = p then [f] else [])) = single p { frame := f, source := .tempo } := by
    funext q
    unfold single
    split <;> rfl
  rw [offeredTiming_eq, hsingle]
  rcases offerTiming_spec s p f with ⟨hroom, he⟩ | ⟨hfull, he⟩ <;> rw [he]
  · rw [timingQueue.offered_single_room hroom, modifyOut_eq]
    rfl
  · rw [timingQueue.offered_single_full hfull]
    rfl

/-- R100: a frame for every port whose tick out is on. -/
theorem offerTickOut_eq (f : Frame) (s : State) :
    offerTickOut f s = offeredTiming (fun q => if s.settings.outbound[q].tickOut = true then [f] else []) s := by
  have hfold (ports : List Port) (s : State) : ports.foldl (fun s p => offerTiming p f s) s
      = offeredTiming (fun q => (ports.filter fun p => p == q).map fun _ => f) s := by
    induction ports generalizing s with
    | nil => exact (offeredTiming_none s).symm
    | cons p ports ih =>
      rw [List.foldl_cons, ih, offerTiming_eq, offeredTiming_offeredTiming]
      congr 1
      funext q
      split
      · next hq => rw [List.filter_cons_of_pos (by simp [hq])]; rfl
      · next hq => rw [List.filter_cons_of_neg (by simpa using fun h => hq h.symm), List.nil_append]
  unfold offerTickOut tickOutPorts
  rw [hfold]
  congr 1
  funext q
  rw [List.filter_beq]
  let on : Port → Bool := fun p => s.settings.outbound[p].tickOut
  show ((List.replicate (((List.finRange 8).filter on).count q) q).map fun _ => f) = if on q = true then [f] else []
  by_cases htick : on q = true
  · rw [List.count_filter htick, List.count_finRange, if_pos htick]
    rfl
  · rw [List.count_eq_zero.mpr fun hq => htick (List.mem_filter.mp hq).2, if_neg htick]
    rfl

end Sys2Proof.Machine
end

section
/-! SUPPORT. The zone engine (spec 02): the layers of a strike and the destinations of a control as the first of each
destination in list order, the key stage, and what offers to the play queues and the held-note table leave. -/

namespace Sys2Proof.Machine

/-! ### Numbers on the link -/

/-- A byte names a port exactly when it holds the port's number. -/
theorem eq_portByte_iff (b : Byte) (p : Port) : b = portByte p ↔ b.toNat = p.val + 1 := by
  have hp : (portByte p).toNat = p.val + 1 := by
    rw [portByte, BitVec.toNat_ofNat]
    omega
  rw [← BitVec.toNat_inj, hp]

/-- A byte names a lane exactly when it holds the lane's number. -/
theorem eq_laneByte_iff (b : Byte) (l : Lane) : b = laneByte l ↔ b.toNat = l.val + 1 := by
  have hl : (laneByte l).toNat = l.val + 1 := by
    rw [laneByte, BitVec.toNat_ofNat]
    omega
  rw [← BitVec.toNat_inj, hl]

theorem laneOfNat?_eq_some {n : Nat} {l : Lane} : laneOfNat? n = some l ↔ n = l.val + 1 := by
  unfold laneOfNat?
  split
  · next h =>
    rw [Option.some.injEq, Fin.ext_iff]
    show n - 1 = l.val ↔ _
    omega
  · next h => exact ⟨nofun, fun hn => absurd (by omega) h⟩

theorem keyOfNat?_of_le {n : Nat} (h : n ≤ 127) : keyOfNat? n = some ⟨n, by omega⟩ := dif_pos h

/-! ### The first of each value in a list -/

section First
variable {α β : Type} [DecidableEq β] (f : α → Option β)

/-- The elements of a list that have a value under `f`, less those whose value an earlier one has. -/
def firstOf (xs : List α) : List (α × β) :=
  xs.foldl
    (fun ys x =>
      match f x with
      | none => ys
      | some b => if ys.any fun y => y.2 == b then ys else ys ++ [(x, b)])
    []

/-- An element that comes last is new, or its value is none or is there already. -/
theorem firstOf_concat (xs : List α) (x : α) :
    (∃ b, f x = some b ∧ (∀ y ∈ firstOf f xs, y.2 ≠ b) ∧ firstOf f (xs ++ [x]) = firstOf f xs ++ [(x, b)])
      ∨ ((∀ b, f x = some b → ∃ y ∈ firstOf f xs, y.2 = b) ∧ firstOf f (xs ++ [x]) = firstOf f xs) := by
  have hstep : firstOf f (xs ++ [x])
      = match f x with
        | none => firstOf f xs
        | some b => if (firstOf f xs).any fun y => y.2 == b then firstOf f xs else firstOf f xs ++ [(x, b)] := by
    unfold firstOf
    rw [List.foldl_append]
    rfl
  rw [hstep]
  cases hx : f x with
  | none => exact .inr ⟨nofun, rfl⟩
  | some b =>
    by_cases hany : ((firstOf f xs).any fun y => y.2 == b) = true
    · obtain ⟨y, hy, hyb⟩ := List.any_eq_true.mp hany
      exact .inr ⟨fun c hc => ⟨y, hy, Option.some.inj hc ▸ eq_of_beq hyb⟩, if_pos hany⟩
    · exact .inl ⟨b, rfl, fun y hy hyb => hany (List.any_eq_true.mpr ⟨y, hy, beq_iff_eq.mpr hyb⟩), if_neg hany⟩

/-- Every value in the list is that of some element kept. -/
theorem firstOf_covers {xs : List α} {x : α} {b : β} (hx : x ∈ xs) (hb : f x = some b) :
    ∃ y ∈ firstOf f xs, y.2 = b := by
  induction xs using List.reverseRecOn with
  | nil => cases hx
  | append_singleton xs z ih =>
    rcases firstOf_concat f xs z with ⟨c, hc, -, heq⟩ | ⟨hold, heq⟩ <;> rw [heq]
    · rcases List.mem_append.mp hx with hx | hx
      · obtain ⟨y, hy, hyb⟩ := ih hx
        exact ⟨y, List.mem_append_left _ hy, hyb⟩
      · obtain rfl := List.mem_singleton.mp hx
        exact ⟨(x, c), by simp, Option.some.inj (hc.symm.trans hb)⟩
    · rcases List.mem_append.mp hx with hx | hx
      · exact ih hx
      · cases List.mem_singleton.mp hx
        exact hold b hb

/-- An element kept stands in the list behind none of its value. -/
theorem firstOf_first {xs : List α} {y : α × β} (hy : y ∈ firstOf f xs) :
    f y.1 = some y.2 ∧ ∃ before after, xs = before ++ y.1 :: after ∧ ∀ x ∈ before, f x ≠ some y.2 := by
  induction xs using List.reverseRecOn with
  | nil => cases hy
  | append_singleton xs z ih =>
    have hearlier (h : y ∈ firstOf f xs) : f y.1 = some y.2
        ∧ ∃ before after, xs ++ [z] = before ++ y.1 :: after ∧ ∀ x ∈ before, f x ≠ some y.2 := by
      obtain ⟨hval, before, after, hxs, hbefore⟩ := ih h
      exact ⟨hval, before, after ++ [z], by simp [hxs], hbefore⟩
    rcases firstOf_concat f xs z with ⟨b, hb, hnew, heq⟩ | ⟨-, heq⟩ <;> rw [heq] at hy
    · rcases List.mem_append.mp hy with hy | hy
      · exact hearlier hy
      · cases List.mem_singleton.mp hy
        refine ⟨hb, xs, [], rfl, fun x hx hxb => ?_⟩
        obtain ⟨w, hw, hwb⟩ := firstOf_covers f hx hxb
        exact hnew w hw hwb
    · exact hearlier hy

/-- The values kept differ. -/
theorem firstOf_nodup (xs : List α) : ((firstOf f xs).map Prod.snd).Nodup := by
  induction xs using List.reverseRecOn with
  | nil => exact List.nodup_nil
  | append_singleton xs z ih =>
    rcases firstOf_concat f xs z with ⟨b, -, hnew, heq⟩ | ⟨-, heq⟩ <;> rw [heq]
    · rw [List.map_append, List.map_singleton, ← List.concat_eq_append, List.nodup_concat]
      refine ⟨fun hmem => ?_, ih⟩
      obtain ⟨y, hy, hyb⟩ := List.mem_map.mp hmem
      exact hnew y hy hyb
    · exact ih

/-- The elements kept stand in list order. -/
theorem firstOf_sublist (xs : List α) : ((firstOf f xs).map Prod.fst).Sublist xs := by
  induction xs using List.reverseRecOn with
  | nil => exact .slnil
  | append_singleton xs z ih =>
    rcases firstOf_concat f xs z with ⟨b, -, -, heq⟩ | ⟨-, heq⟩ <;> rw [heq]
    · rw [List.map_append]
      exact ih.append (.refl _)
    · exact ih.trans (List.sublist_append_left ..)

/-- The values kept, two of them in order: the first comes from an element behind none of the second. -/
theorem firstOf_order {xs : List α} {b c : β}
    (h : List.Sublist [b, c] ((firstOf f xs).map Prod.snd)) :
    ∃ before x after, xs = before ++ x :: after ∧ f x = some b ∧ ∀ y ∈ before, f y ≠ some c := by
  induction xs using List.reverseRecOn with
  | nil => cases h
  | append_singleton xs z ih =>
    have hearlier (h : List.Sublist [b, c] ((firstOf f xs).map Prod.snd)) :
        ∃ before x after, xs ++ [z] = before ++ x :: after ∧ f x = some b ∧ ∀ y ∈ before, f y ≠ some c := by
      obtain ⟨before, x, after, hxs, hx, hbefore⟩ := ih h
      exact ⟨before, x, after ++ [z], by simp [hxs], hx, hbefore⟩
    rcases firstOf_concat f xs z with ⟨e, -, hnew, heq⟩ | ⟨-, heq⟩ <;> rw [heq] at h
    · rw [List.map_append, List.map_singleton, List.sublist_append_iff] at h
      obtain ⟨l₁, l₂, hsplit, h₁, h₂⟩ := h
      rcases List.sublist_singleton.mp h₂ with rfl | rfl
      · rw [List.append_nil] at hsplit
        exact hearlier (hsplit ▸ h₁)
      · obtain ⟨rfl, hce⟩ : [b] = l₁ ∧ c = e := by
          simpa using List.append_inj' (show [b] ++ [c] = l₁ ++ [e] from hsplit) rfl
        obtain ⟨y, hy, hyb⟩ := List.mem_map.mp (List.singleton_sublist.mp h₁)
        obtain ⟨hval, before, after, hxs, -⟩ := firstOf_first f hy
        refine ⟨before, y.1, after ++ [z], by simp [hxs], hyb ▸ hval, fun w hw hwc => ?_⟩
        obtain ⟨v, hv, hvc⟩ := firstOf_covers f (show w ∈ xs by simp [hxs, hw]) hwc
        exact hnew v hv (hvc.trans hce)
    · exact hearlier h

end First

/-! ### Matching and the layers of a strike (R28–R31) -/

theorem zoneTakes_iff (p : Port) (l : Lane) (z : Zone) :
    zoneTakes p l z = true ↔ z.enabled = true ∧ z.sourcePort.toNat = p.val + 1
      ∧ (z.sourceLane.toNat = 0 ∨ z.sourceLane.toNat = l.val + 1) := by
  have hall : z.sourceLane = 0#8 ↔ z.sourceLane.toNat = 0 := BitVec.toNat_inj.symm
  simp only [zoneTakes, Bool.and_eq_true, Bool.or_eq_true, beq_iff_eq, eq_portByte_iff, eq_laneByte_iff, hall, and_assoc]

theorem zoneMatches_iff (src : SourceTriple) (s10 : Nat) (z : Zone) :
    zoneMatches src s10 z = true ↔
      z.enabled = true ∧ z.sourcePort.toNat = src.port.val + 1
        ∧ (z.sourceLane.toNat = 0 ∨ z.sourceLane.toNat = src.lane.val + 1)
        ∧ z.keyLow.toNat ≤ src.key.val ∧ src.key.val ≤ z.keyHigh.toNat
        ∧ z.strikeLow.toNat ≤ s10 ∧ s10 ≤ z.strikeHigh.toNat := by
  simp only [zoneMatches, Bool.and_eq_true, decide_eq_true_iff, zoneTakes_iff, and_assoc]

/-- The destination of the layer that a zone gives a strike, where it matches. -/
def matchedDest (src : SourceTriple) (s10 : Nat) (z : Zone) : Option Dest :=
  if zoneMatches src s10 z then layerDest z src.key else none

theorem matchedDest_eq_some {src : SourceTriple} {s10 : Nat} {z : Zone} {d : Dest} :
    matchedDest src s10 z = some d ↔ zoneMatches src s10 z = true ∧ layerDest z src.key = some d := by
  unfold matchedDest
  split
  · next h => simp [h]
  · next h => simp [h]

/-- R30, R31: the layers are the first of each destination among the zones that match. -/
theorem layersOf_eq (zones : List Zone) (src : SourceTriple) (s10 : Nat) :
    layersOf zones src s10 = firstOf (matchedDest src s10) zones := by
  unfold layersOf firstOf
  rw [List.foldl_filter]
  congr
  funext layers z
  unfold matchedDest
  split
  · cases layerDest z src.key <;> rfl
  · rfl

/-! ### The key stage (R32, R33) -/

/-- R33: a key within reach is brought into 0–127 by whole octaves, and stays in the octave at the end it came in by. -/
theorem foldKey_spec (n : Nat) (t : Int) (hlow : -12 * n ≤ t) (hhigh : t ≤ 127 + 12 * n) :
    0 ≤ foldKey n t ∧ foldKey n t ≤ 127 ∧ (12 : Int) ∣ foldKey n t - t ∧ (t < 0 → foldKey n t ≤ 11)
      ∧ (127 < t → 116 ≤ foldKey n t) := by
  induction n generalizing t with
  | zero =>
    unfold foldKey
    refine ⟨?_, ?_, ?_, ?_, ?_⟩ <;> omega
  | succ n ih =>
    unfold foldKey
    split
    · obtain ⟨hpos, hle, hdvd, -, hup⟩ := ih (t - 12) (by omega) (by omega)
      refine ⟨hpos, hle, by omega, by omega, fun _ => ?_⟩
      by_cases hmore : 127 < t - 12
      · exact hup hmore
      · have hstay : foldKey n (t - 12) = t - 12 := by
          cases n with
          | zero => rfl
          | succ n => rw [foldKey, if_neg hmore, if_neg (by omega)]
        omega
    · split
      · obtain ⟨hpos, hle, hdvd, hdown, -⟩ := ih (t + 12) (by omega) (by omega)
        refine ⟨hpos, hle, by omega, fun _ => ?_, by omega⟩
        by_cases hmore : t + 12 < 0
        · exact hdown hmore
        · have hstay : foldKey n (t + 12) = t + 12 := by
            cases n with
            | zero => rfl
            | succ n => rw [foldKey, if_neg (by omega), if_neg hmore]
          omega
      · refine ⟨?_, ?_, ?_, ?_, ?_⟩ <;> omega

/-- R32: inside the key range the transposed key stands. -/
theorem keyStage_inside {z : Zone} {key : Key} {t : Int} (ht : t = (key.val : Int) + z.transpose.toInt) (hlow : 0 ≤ t)
    (hhigh : t ≤ 127) : ∃ k, keyStage z key = some k ∧ (k.val : Int) = t := by
  unfold keyStage
  dsimp only
  rw [← ht, if_pos ⟨hlow, hhigh⟩, keyOfNat?_of_le (by omega)]
  exact ⟨_, rfl, Int.toNat_of_nonneg hlow⟩

/-- R33: outside it, under the edge rule FOLD, the key is folded. -/
theorem keyStage_folded {z : Zone} {key : Key} {t : Int} (ht : t = (key.val : Int) + z.transpose.toInt)
    (hout : t < 0 ∨ 127 < t) (hedge : z.edge ≠ 0#8) (hlow : -48 ≤ t) (hhigh : t ≤ 175) :
    ∃ k, keyStage z key = some k ∧ (k.val : Int) = foldKey 12 t := by
  obtain ⟨hpos, hle, -⟩ := foldKey_spec 12 t (by omega) (by omega)
  unfold keyStage
  dsimp only
  rw [← ht, if_neg (by omega), if_neg (by simpa using hedge), keyOfNat?_of_le (by omega)]
  exact ⟨_, rfl, Int.toNat_of_nonneg hpos⟩

/-- Settles O8: the layers as the first of each destination, the tests of R29 one by one, and the folding octave by
octave. -/
theorem layersOfAStrike : Obligations.LayersOfAStrike := by
  refine ⟨fun zones src s10 => ?_, zoneMatches_iff, fun z key t ht hlow hhigh => ?_⟩
  · rw [layersOf_eq]
    refine ⟨fun y hy => ?_, firstOf_nodup _ _, firstOf_sublist _ _, fun z hz hm d hd => ?_⟩
    · obtain ⟨hdest, before, after, hzones, hbefore⟩ := firstOf_first _ hy
      obtain ⟨hmatch, hlayer⟩ := matchedDest_eq_some.mp hdest
      refine ⟨by simp [hzones], hmatch, hlayer, before, after, hzones, fun z hz hm hd => ?_⟩
      exact hbefore z hz (matchedDest_eq_some.mpr ⟨hm, hd⟩)
    · exact firstOf_covers _ hz (matchedDest_eq_some.mpr ⟨hm, hd⟩)
  · refine ⟨fun h => keyStage_inside ht h.1 h.2, fun hout hedge => ?_, fun hneg hedge => ?_, fun habove hedge => ?_⟩
    · unfold keyStage
      dsimp only
      rw [← ht, if_neg (by omega), if_pos (by simpa using hedge)]
    · obtain ⟨k, hk, hval⟩ := keyStage_folded ht (.inl hneg) hedge hlow hhigh
      obtain ⟨-, -, hdvd, hdown, -⟩ := foldKey_spec 12 t (by omega) (by omega)
      have := hdown hneg
      exact ⟨k, hk, by omega, hval ▸ hdvd⟩
    · obtain ⟨k, hk, hval⟩ := keyStage_folded ht (.inr habove) hedge hlow hhigh
      obtain ⟨-, -, hdvd, -, hup⟩ := foldKey_spec 12 t (by omega) (by omega)
      have := hup habove
      exact ⟨k, hk, by omega, hval ▸ hdvd⟩


/-! ### Destinations of controls (R37, R38, R40) -/

/-- R38, R40: the first of each destination lane, in list order. -/
theorem listedInOrder_firstOf {leads : DestLane → Zone → Prop} {f : Zone → Option DestLane}
    (h : ∀ d z, leads d z ↔ f z = some d) (zones : List Zone) :
    ListedInOrder leads zones ((firstOf f zones).map Prod.snd) := by
  refine ⟨firstOf_nodup f zones, fun d => ⟨fun hd => ?_, fun hz => ?_⟩, fun d e hde => ?_⟩
  · obtain ⟨y, hy, rfl⟩ := List.mem_map.mp hd
    obtain ⟨hval, before, after, hzones, -⟩ := firstOf_first f hy
    exact ⟨y.1, by simp [hzones], (h _ _).mpr hval⟩
  · obtain ⟨z, hz, hlead⟩ := hz
    obtain ⟨y, hy, hyd⟩ := firstOf_covers f hz ((h _ _).mp hlead)
    exact List.mem_map.mpr ⟨y, hy, hyd⟩
  · obtain ⟨before, z, after, hzones, hz, hbefore⟩ := firstOf_order f hde
    exact ⟨before, z, after, hzones, (h _ _).mpr hz, fun y hy hlead => hbefore y hy ((h _ _).mp hlead)⟩

theorem zoneDest?_eq_some {z : Zone} {d : DestLane} :
    zoneDest? z = some d ↔ z.destPort.toNat = d.port.val + 1 ∧ z.destLane.toNat = d.lane.val + 1 := by
  simp only [zoneDest?, Option.bind_eq_bind, Option.bind_eq_some_iff, Option.pure_def, Option.some.injEq,
    portOfNat?_eq_some, laneOfNat?_eq_some]
  exact ⟨fun ⟨p, hp, l, hl, hd⟩ => hd ▸ ⟨hp, hl⟩, fun ⟨hp, hl⟩ => ⟨d.port, hp, d.lane, hl, rfl⟩⟩

/-- The destination lanes of the zones of a list that satisfy a test are the first of each. -/
theorem destLanes_filter (which : Zone → Bool) (zones : List Zone) :
    destLanes (zones.filter which)
      = (firstOf (fun z => if which z then zoneDest? z else none) zones).map Prod.snd := by
  unfold destLanes firstOf
  rw [List.foldl_filter]
  induction zones using List.reverseRecOn with
  | nil => rfl
  | append_singleton zones z ih =>
    rw [List.foldl_append, List.foldl_append, ih]
    generalize List.foldl _ ([] : List (Zone × DestLane)) zones = ys
    by_cases hz : which z = true
    · simp only [List.foldl_cons, List.foldl_nil, if_pos hz]
      cases zoneDest? z with
      | none => rfl
      | some d =>
        have hany : (ys.map Prod.snd).contains d = ys.any fun y => y.2 == d := by
          rw [List.contains_eq_any_beq, List.any_map]
          congr 1
          funext y
          exact BEq.comm
        simp only [hany]
        split <;> simp
    · simp only [List.foldl_cons, List.foldl_nil, if_neg hz]

/-- R37, R38: the destinations of a control, as the statement lists them. -/
theorem controlDests_listed (zones : List Zone) (p : Port) (l : Lane) :
    ListedInOrder (fun d z => leadsTo p l d z ∧ z.controls = 1#8) zones (controlDests zones p l) := by
  unfold controlDests
  rw [destLanes_filter]
  refine listedInOrder_firstOf (fun d z => ?_) zones
  have hwhich : (zoneTakes p l z && z.controls == 1#8) = true ↔ zoneTakes p l z = true ∧ z.controls = 1#8 := by
    rw [Bool.and_eq_true, beq_iff_eq]
  rw [Option.ite_none_right_eq_some, hwhich, zoneTakes_iff, zoneDest?_eq_some]
  unfold leadsTo
  tauto

/-! ### A Control on a PLAY port (R37–R39) -/

/-- R5: the value is clamped to 14 bits. -/
theorem clampControl_eq (value : Half) : clampControl value = BitVec.ofNat 16 (min value.toNat 16383) := by
  unfold clampControl
  split
  · next h => rw [Nat.min_eq_right (by omega)]
  · next h => rw [Nat.min_eq_left (by omega), BitVec.ofNat_toNat, BitVec.setWidth_eq]

/-- R22, R39: handing a Control on does not change what is muted, so the muted destinations can be left out beforehand. -/
theorem foldl_playControl (number : Byte) (value : Half) (ds : List DestLane) (s : State) :
    ds.foldl (playControl number value) s
      = (ds.filter fun d => !s.muted d.port).foldl
          (fun s d => offerPlay d.port { frame := .control (laneByte d.lane) number value, source := .zone } s) s := by
  induction ds generalizing s with
  | nil => rfl
  | cons d ds ih =>
    rw [List.foldl_cons, ih]
    cases hmuted : s.muted d.port
    · have hoffer : playControl number value s d
          = offerPlay d.port { frame := .control (laneByte d.lane) number value, source := .zone } s :=
        if_neg (by simp [hmuted])
      rw [hoffer, List.filter_cons_of_pos (by simp [hmuted]), List.foldl_cons]
      simp only [offerPlay_muted]
    · have hoffer : playControl number value s d = s := if_pos hmuted
      rw [hoffer, List.filter_cons_of_neg (by simp [hmuted])]

theorem exec_control {p : Port} {l : Lane} {number : Byte} {value : Half} {s : State} (hpower : s.power = true)
    (hrole : s.settings.inbound[p].role = .play) (hnumber : number ≠ 8#8) :
    exec (.control p l number value) s = .next (zoneControl p l number value s) := by
  have hlane : laneOfNat? (laneByte l).toNat = some l := laneOfNat?_eq_some.mpr ((eq_laneByte_iff _ l).mp rfl)
  have harrive : arrive p (.control (laneByte l) number value) s = zoneControl p l number value s := by
    rw [arrive_of_not_service rfl, hrole]
    simp [playFrame, onLane, hlane, playFrameControl, hnumber]
  exact (powered_of_power hpower).trans (congrArg _ harrive)

/-- Settles O13: the Controls as offers to the play queues in list order, and their destinations as the first of each. -/
theorem controlRouted : Obligations.ControlRouted := by
  refine ⟨fun p l number value s hpower hrole hnumber => ?_, controlDests_listed⟩
  rw [exec_control hpower hrole hnumber, zoneControl, foldl_playControl, foldl_offerPlay, clampControl_eq]
  congr 2
  funext q
  unfold controlDestsOn
  rw [List.filter_filter]
  congr 2
  funext d
  by_cases hd : d.port = q
  · rw [hd]
  · rw [beq_eq_false_iff_ne.mpr hd, Bool.false_and, Bool.false_and]

end Sys2Proof.Machine
end

section
/-! SUPPORT. A Strike of any layers (R30–R35, R62, R63): what each layer comes to, by what the ones before it have left, and
the part after all of them. -/

namespace Sys2Proof.Machine

/-! ### What becomes of a layer -/

/-- What becomes of a layer that is heard (R35, R62, R63). -/
inductive Verdict where
  | sent
  | refused
  | overflowed
  deriving DecidableEq

/-- Whether a layer has no entry in the table. -/
def freshLayer (src : SourceTriple) (s : State) (y : Zone × Dest) : Bool :=
  s.held.table.all fun e => e.ident != (layerEntry src y).ident

/-- What becomes of a layer once `earlier` ones have been sent: a full table overflows before its play queue is asked. -/
def judge (src : SourceTriple) (s : State) (earlier : List (Zone × Dest)) (y : Zone × Dest) : Verdict :=
  if freshLayer src s y = true ∧ 128 ≤ s.held.table.length + earlier.countP (freshLayer src s) then .overflowed
  else if 28 ≤ s.link.outs[y.2.port].play.length + earlier.countP (fun x => x.2.port == y.2.port) then .refused
  else .sent

/-- The layers of a list that have a verdict. -/
def judged (verdict : Dest → Verdict) (v : Verdict) (layers : List (Zone × Dest)) : List (Zone × Dest) :=
  layers.filter fun y => verdict y.2 = v

/-! ### The part after a strike -/

/-- R62, R63: the held notes once these layers have been sent. -/
def struckHeld (src : SourceTriple) (sent : List (Zone × Dest)) (h : Held) : Held :=
  let entries := sent.map (layerEntry src)
  { h with
    table := (h.table.map fun e => (entries.find? fun x => x.ident == e.ident).getD e)
      ++ entries.filter fun x => h.table.all fun e => e.ident != x.ident
    releaseOrder := h.releaseOrder.filter fun i => entries.all fun x => x.ident != i }

/-- R15, R62: the counts and the flag once these layers have been dropped. -/
def struckStatus (refused overflowed : List (Zone × Dest)) (x : Status) : Status :=
  { x with
    playDrops := Vector.ofFn fun q => countedUp x.playDrops[q] (refused.countP fun y => y.2.port == q)
    heldOverflows := countedUp x.heldOverflows overflowed.length
    overrun := x.overrun || !refused.isEmpty || !overflowed.isEmpty }

/-- R34: an outbound port once these layers have been sent. -/
def struckPort (s10 : Nat) (s : State) (sent : List (Zone × Dest)) (q : Port) : OutPort :=
  { s.link.outs[q] with
    play := s.link.outs[q].play ++ (sent.filter fun y => y.2.port == q).map (layerFrame s s10) }

/-- The part once the layers of a strike have come to this. -/
def struck (src : SourceTriple) (s10 : Nat) (sent refused overflowed : List (Zone × Dest)) (s : State) : State :=
  withPorts (struckPort s10 s sent) (struckStatus refused overflowed s.status) (s.setHeld (struckHeld src sent s.held))

theorem struck_none (src : SourceTriple) (s10 : Nat) (s : State) : struck src s10 [] [] [] s = s := by
  have hheld : struckHeld src [] s.held = s.held := by simp [struckHeld]
  have hstatus : struckStatus [] [] s.status = s.status := by simp [struckStatus]
  have hport : struckPort s10 s [] = fun q => s.link.outs[q] := by
    funext q
    simp [struckPort]
  unfold struck
  rw [hheld, hstatus, hport]
  exact withPorts_self s

theorem struckStatus_refused (refused overflowed : List (Zone × Dest)) (y : Zone × Dest) (x : Status) :
    struckStatus (refused ++ [y]) overflowed x
      = { struckStatus refused overflowed x with
          playDrops := upd (struckStatus refused overflowed x).playDrops y.2.port bump, overrun := true } := by
  unfold struckStatus
  dsimp only
  rw [upd_ofFn]
  congr 1
  · simp
  · congr 1
    funext q
    rw [bump_countedUp, List.countP_append, List.countP_singleton]
    by_cases hq : q = y.2.port
    · rw [if_pos hq, if_pos (beq_iff_eq.mpr hq.symm), hq]
    · rw [if_neg hq, if_neg (by simpa using fun h => hq h.symm), Nat.add_zero]

theorem struckStatus_overflowed (refused overflowed : List (Zone × Dest)) (y : Zone × Dest) (x : Status) :
    struckStatus refused (overflowed ++ [y]) x
      = { struckStatus refused overflowed x with
          heldOverflows := bump (struckStatus refused overflowed x).heldOverflows, overrun := true } := by
  unfold struckStatus
  dsimp only
  rw [bump_countedUp, List.length_append, List.length_singleton]
  congr 1
  simp

theorem struckPort_concat (s10 : Nat) (s : State) (sent : List (Zone × Dest)) (y : Zone × Dest) :
    struckPort s10 s (sent ++ [y])
      = fun q => if q = y.2.port then
          { struckPort s10 s sent y.2.port with
            play := (struckPort s10 s sent y.2.port).play ++ [layerFrame s s10 y] }
        else struckPort s10 s sent q := by
  funext q
  unfold struckPort
  by_cases hq : q = y.2.port
  · subst hq
    simp
  · rw [if_neg hq, List.filter_append, List.filter_cons_of_neg (by simpa using fun h => hq h.symm)]
    simp

/-- The entries of sent layers that the table did not have. -/
theorem filter_fresh (src : SourceTriple) (s : State) (sent : List (Zone × Dest)) :
    (sent.map (layerEntry src)).filter (fun x => s.held.table.all fun e => e.ident != x.ident)
      = (sent.filter (freshLayer src s)).map (layerEntry src) := by
  rw [List.filter_map]
  rfl

/-- R62: a layer with no entry, and none sent with its destination, gets a new entry at the end of table order. -/
theorem struckHeld_fresh {src : SourceTriple} {s : State} {y : Zone × Dest} (sent : List (Zone × Dest))
    (hfresh : freshLayer src s y = true) (horder : ∀ i ∈ s.held.releaseOrder, ∃ e ∈ s.held.table, e.ident = i) :
    struckHeld src (sent ++ [y]) s.held
      = { struckHeld src sent s.held with
          table := (struckHeld src sent s.held).table ++ [layerEntry src y] } := by
  have hnew : ∀ e ∈ s.held.table, e.ident ≠ (layerEntry src y).ident := by
    simpa [freshLayer] using hfresh
  unfold struckHeld
  dsimp only
  congr 1
  · rw [filter_fresh, filter_fresh, List.filter_append, List.filter_cons_of_pos hfresh, List.filter_nil, List.map_append,
      List.map_append, ← List.append_assoc]
    congr 2
    refine List.map_congr_left fun e he => ?_
    rw [List.find?_append, List.map_singleton, List.find?_cons_of_neg (by simpa using (hnew e he).symm), List.find?_nil,
      Option.or_none]
  · refine List.filter_congr fun i hi => ?_
    obtain ⟨e, he, rfl⟩ := horder i hi
    have hlast : ((layerEntry src y).ident != e.ident) = true := bne_iff_ne.mpr (hnew e he).symm
    rw [List.map_append, List.map_singleton, List.all_append, List.all_cons, List.all_nil, hlast]
    rw [Bool.and_true, Bool.and_true]

/-- Layers of one strike with other destinations leave entries of other identities. -/
theorem layerEntry_ident_ne {src : SourceTriple} {sent : List (Zone × Dest)} {y : Zone × Dest}
    (hdest : ∀ x ∈ sent, x.2 ≠ y.2) : ∀ x ∈ sent.map (layerEntry src), x.ident ≠ (layerEntry src y).ident := by
  intro x hx
  obtain ⟨z, hz, rfl⟩ := List.mem_map.mp hx
  exact fun h => hdest z hz (congrArg Ident.dst h)

/-- An entry replaced by one of its identity keeps its identity. -/
theorem getD_find?_ident (entries : List Entry) (e : Entry) :
    ((entries.find? fun x => x.ident == e.ident).getD e).ident = e.ident := by
  cases hfind : entries.find? fun x => x.ident == e.ident with
  | none => rfl
  | some x => exact eq_of_beq (List.find?_some (p := fun x : Entry => x.ident == e.ident) hfind)

/-- R63: what a re-strike makes of an entry. -/
def restruck (src : SourceTriple) (y : Zone × Dest) (e : Entry) : Entry :=
  if e.ident == (layerEntry src y).ident then { e with handling := zoneHandling y.1, state := .held, release := none }
  else e

theorem restruck_same {src : SourceTriple} {y : Zone × Dest} {e : Entry} (h : e.ident = (layerEntry src y).ident) :
    restruck src y e = layerEntry src y := by
  unfold restruck
  rw [if_pos (beq_iff_eq.mpr h), h]
  simp [layerEntry, zoneHandling]

theorem restruck_other {src : SourceTriple} {y : Zone × Dest} {e : Entry} (h : e.ident ≠ (layerEntry src y).ident) :
    restruck src y e = e := if_neg (by simpa using h)

/-- R63: a layer with an entry, and none sent with its destination, returns it to HELD in its place. -/
theorem struckHeld_struck {src : SourceTriple} {s : State} {y : Zone × Dest} {sent : List (Zone × Dest)}
    (hthere : freshLayer src s y = false) (hdest : ∀ x ∈ sent, x.2 ≠ y.2) :
    struckHeld src (sent ++ [y]) s.held
      = { struckHeld src sent s.held with
          table := (struckHeld src sent s.held).table.map (restruck src y)
          releaseOrder := (struckHeld src sent s.held).releaseOrder.filter fun i => i != (layerEntry src y).ident } := by
  have hothers := layerEntry_ident_ne (src := src) hdest
  unfold struckHeld
  dsimp only
  congr 1
  · rw [filter_fresh, filter_fresh, List.filter_append, List.filter_cons_of_neg (by simp [hthere]), List.filter_nil,
      List.append_nil, List.map_append, List.map_append, List.map_singleton, List.map_map]
    congr 1
    · refine List.map_congr_left fun e _ => ?_
      rw [List.find?_append, Function.comp_apply]
      by_cases he : e.ident = (layerEntry src y).ident
      · have hnone : (sent.map (layerEntry src)).find? (fun x => x.ident == e.ident) = none :=
          List.find?_eq_none.mpr fun x hx => by simpa [he] using hothers x hx
        rw [hnone, Option.none_or, List.find?_cons_of_pos (by simp [he])]
        exact (restruck_same he).symm
      · rw [List.find?_cons_of_neg (by simpa using fun h => he (Eq.symm h)), List.find?_nil, Option.or_none,
          restruck_other (by rw [getD_find?_ident]; exact he)]
    · refine (List.map_id _).symm.trans (List.map_congr_left fun x hx => ?_)
      exact (restruck_other (hothers x ((List.filter_sublist.map _).subset hx))).symm
  · rw [List.filter_filter]
    refine List.filter_congr fun i _ => ?_
    rw [List.map_append, List.map_singleton, List.all_append, List.all_cons, List.all_nil, Bool.and_true, Bool.and_comm,
      bne_comm]

/-! ### Offering the layers one after the other -/

section Struck
variable (src : SourceTriple) (s10 : Nat) (sent refused overflowed : List (Zone × Dest)) (s : State)

@[simp] theorem struck_held : (struck src s10 sent refused overflowed s).held = struckHeld src sent s.held := rfl

@[simp] theorem struck_outs (q : Port) : (struck src s10 sent refused overflowed s).link.outs[q] = struckPort s10 s sent q :=
  withPorts_outs ..

@[simp] theorem struck_muted (q : Port) : (struck src s10 sent refused overflowed s).muted q = s.muted q := by
  refine muted_of_same rfl rfl rfl ?_ ?_ <;> rw [struck_outs] <;> rfl

/-- R34: the play queue of a port holds one frame more for each layer sent there. -/
theorem struckPort_play_length (q : Port) :
    (struckPort s10 s sent q).play.length = s.link.outs[q].play.length + sent.countP fun y => y.2.port == q := by
  simp [struckPort, List.countP_eq_length_filter]

/-- R62: the table holds one entry more for each layer sent that had none. -/
theorem struckHeld_table_length :
    (struckHeld src sent s.held).table.length = s.held.table.length + sent.countP (freshLayer src s) := by
  unfold struckHeld
  dsimp only
  rw [filter_fresh]
  simp [List.countP_eq_length_filter]

end Struck

/-- A layer whose destination no layer sent has finds an entry exactly where it did before the strike. -/
theorem findEntry_struck {src : SourceTriple} {s10 : Nat} {sent refused overflowed : List (Zone × Dest)} {s : State}
    {y : Zone × Dest} (hdest : ∀ x ∈ sent, x.2 ≠ y.2) :
    findEntry (layerEntry src y).ident (struck src s10 sent refused overflowed s) = none
      ↔ freshLayer src s y = true := by
  have hothers := layerEntry_ident_ne (src := src) hdest
  unfold findEntry
  rw [struck_held, List.find?_eq_none]
  unfold struckHeld freshLayer
  simp only [List.mem_append, List.mem_map, List.all_eq_true, bne_iff_ne, beq_iff_eq]
  constructor
  · intro h e he heq
    exact h _ (.inl ⟨e, he, rfl⟩) ((getD_find?_ident _ e).trans heq)
  · rintro h x (⟨e, he, rfl⟩ | hx)
    · rw [getD_find?_ident]
      exact h e he
    · exact hothers x ((List.filter_sublist).subset hx)

theorem zoneHandling_eq (z : Zone) : zoneHandling z = if z.sustain = 1#8 then .forward else .hold := by
  simp [zoneHandling]

theorem createEntry_layer (src : SourceTriple) (y : Zone × Dest) (s : State) :
    createEntry (layerEntry src y).ident (zoneHandling y.1) s
      = s.setHeld { s.held with table := s.held.table ++ [layerEntry src y] } := by
  rw [zoneHandling_eq]
  rfl

/-- R35, R62, R63: one more layer offered, after `sent`, `refused` and `overflowed`. -/
theorem playLayer_struck {src : SourceTriple} {s10 : Nat} {sent refused overflowed : List (Zone × Dest)} {s : State}
    {y : Zone × Dest} (hheard : s.muted y.2.port = false) (hdest : ∀ x ∈ sent, x.2 ≠ y.2)
    (horder : ∀ i ∈ s.held.releaseOrder, ∃ e ∈ s.held.table, e.ident = i) :
    playLayer src s10 (struck src s10 sent refused overflowed s) y
      = match judge src s sent y with
        | .sent => struck src s10 (sent ++ [y]) refused overflowed s
        | .refused => struck src s10 sent (refused ++ [y]) overflowed s
        | .overflowed => struck src s10 sent refused (overflowed ++ [y]) s := by
  let u := struck src s10 sent refused overflowed s
  have hplay : playLayer src s10 u y
      = offerLayer (layerEntry src y).ident (zoneHandling y.1) (layerFrame s s10 y).frame u := by
    refine if_neg ?_
    rw [struck_muted, hheard]
    exact Bool.false_ne_true
  have hfind : findEntry (layerEntry src y).ident u = none ↔ freshLayer src s y = true := findEntry_struck hdest
  have hlength : u.held.table.length = s.held.table.length + sent.countP (freshLayer src s) :=
    struckHeld_table_length ..
  have hroom : playAdmits y.2.port u = true
      ↔ s.link.outs[y.2.port].play.length + sent.countP (fun x => x.2.port == y.2.port) < 28 := by
    rw [playAdmits_iff, struck_outs, struckPort_play_length]
  have hpush : pushPlay y.2.port { frame := (layerFrame s s10 y).frame, source := .zone } u
      = withPorts (struckPort s10 s (sent ++ [y])) (struckStatus refused overflowed s.status)
          (s.setHeld (struckHeld src sent s.held)) := by
    rw [pushPlay, modifyOut_eq, struckPort_concat]
    simp only [u, struck_outs]
    rfl
  show playLayer src s10 u y = _
  rw [hplay]
  unfold judge
  rcases offerLayer_spec u (layerEntry src y).ident (zoneHandling y.1) (layerFrame s s10 y).frame with
    ⟨hnone, hfull, he⟩ | ⟨hnone, hplace, hadmits, he⟩ | ⟨e, hsome, hadmits, he⟩ | ⟨hadmits, hplace, he⟩ <;> rw [he]
  · rw [if_pos ⟨hfind.mp hnone, by omega⟩]
    show _ = withPorts _ _ _
    rw [struckStatus_overflowed]
    rfl
  · have := hroom.mp hadmits
    rw [if_neg (by omega), if_neg (by omega), createEntry_layer]
    show _ = withPorts _ _ _
    rw [struckHeld_fresh sent (hfind.mp hnone) horder]
    exact congrArg (State.setHeld · _) hpush
  · have := hroom.mp hadmits
    have hthere : freshLayer src s y = false := Bool.eq_false_iff.mpr fun h => by rw [hfind.mpr h] at hsome; cases hsome
    rw [if_neg (by simp [hthere]), if_neg (by omega)]
    show _ = withPorts _ _ _
    rw [struckHeld_struck hthere hdest]
    exact congrArg (State.setHeld · _) hpush
  · have : ¬_ < 28 := fun h => Bool.false_ne_true (hadmits.symm.trans (hroom.mpr h))
    rw [if_neg fun h => by have := hplace (hfind.mpr h.1); omega, if_pos (by omega)]
    show _ = withPorts _ _ _
    rw [struckStatus_refused]
    rfl

@[simp] theorem offerLayer_muted (id : Ident) (h : Handling) (f : Frame) (q : Port) (s : State) :
    (offerLayer id h f s).muted q = s.muted q := by
  rcases offerLayer_spec s id h f with ⟨-, -, he⟩ | ⟨-, -, -, he⟩ | ⟨_, -, -, he⟩ | ⟨-, -, he⟩ <;> rw [he]
  · rfl
  · exact pushPlay_muted id.dst.port q { frame := f, source := .zone } s
  · exact pushPlay_muted id.dst.port q { frame := f, source := .zone } s
  · rfl

/-- R35: handing a layer on does not change what is muted, so the muted layers can be left out beforehand. -/
theorem foldl_playLayer_heard (src : SourceTriple) (s10 : Nat) (layers : List (Zone × Dest)) (s : State) :
    layers.foldl (playLayer src s10) s
      = (layers.filter fun y => !s.muted y.2.port).foldl (playLayer src s10) s := by
  induction layers generalizing s with
  | nil => rfl
  | cons y layers ih =>
    rw [List.foldl_cons, ih]
    cases hmuted : s.muted y.2.port
    · rw [List.filter_cons_of_pos (by simp [hmuted]), List.foldl_cons]
      have hkept (q : Port) : (playLayer src s10 s y).muted q = s.muted q := by
        unfold playLayer
        dsimp only
        split
        · rfl
        · exact offerLayer_muted ..
      simp only [hkept]
    · have hnone : playLayer src s10 s y = s := if_pos hmuted
      rw [hnone, List.filter_cons_of_neg (by simp [hmuted])]

/-- What offering layers of different destinations one after the other comes to: a verdict for each, by the layers sent
before it, the part after them, and queues and a table that those sent have not overfilled. -/
structure Offered (src : SourceTriple) (s10 : Nat) (layers : List (Zone × Dest)) (verdict : Dest → Verdict) (s t : State) :
    Prop where
  state : t = struck src s10 (judged verdict .sent layers) (judged verdict .refused layers)
    (judged verdict .overflowed layers) s
  verdicts : ∀ before y after, layers = before ++ y :: after → verdict y.2 = judge src s (judged verdict .sent before) y
  queues : ∀ y ∈ judged verdict .sent layers,
    s.link.outs[y.2.port].play.length + (judged verdict .sent layers).countP (fun x => x.2.port == y.2.port) ≤ 28
  table : ∀ y ∈ judged verdict .sent layers, freshLayer src s y = true →
    s.held.table.length + (judged verdict .sent layers).countP (freshLayer src s) ≤ 128

/-- The verdicts of other destinations stand when one is added. -/
theorem judged_update {verdict : Dest → Verdict} {layers : List (Zone × Dest)} {d : Dest} (v w : Verdict)
    (hd : ∀ x ∈ layers, x.2 ≠ d) : judged (Function.update verdict d w) v layers = judged verdict v layers :=
  List.filter_congr fun x hx => by rw [Function.update_of_ne (hd x hx)]

theorem judged_concat (verdict : Dest → Verdict) (v : Verdict) (layers : List (Zone × Dest)) (y : Zone × Dest) :
    judged verdict v (layers ++ [y])
      = if verdict y.2 = v then judged verdict v layers ++ [y] else judged verdict v layers := by
  unfold judged
  rw [List.filter_append]
  split <;> simp [*]

section Judge
variable {src : SourceTriple} {s : State} {earlier : List (Zone × Dest)} {y : Zone × Dest}

theorem judge_eq_sent : judge src s earlier y = .sent
    ↔ ¬(freshLayer src s y = true ∧ 128 ≤ s.held.table.length + earlier.countP (freshLayer src s))
      ∧ ¬28 ≤ s.link.outs[y.2.port].play.length + earlier.countP (fun x => x.2.port == y.2.port) := by
  unfold judge
  split_ifs <;> simp_all

theorem judge_eq_refused : judge src s earlier y = .refused
    ↔ ¬(freshLayer src s y = true ∧ 128 ≤ s.held.table.length + earlier.countP (freshLayer src s))
      ∧ 28 ≤ s.link.outs[y.2.port].play.length + earlier.countP (fun x => x.2.port == y.2.port) := by
  unfold judge
  split_ifs <;> simp_all

theorem judge_eq_overflowed : judge src s earlier y = .overflowed
    ↔ freshLayer src s y = true ∧ 128 ≤ s.held.table.length + earlier.countP (freshLayer src s) := by
  unfold judge
  split_ifs <;> simp_all

end Judge

/-- A count that one more element can raise only below its limit stays within it. -/
theorem countP_concat_le {α : Type} {P : α → Bool} {n limit : Nat} {xs : List α} {y : α}
    (hy : P y = true → n + xs.countP P < limit) (hxs : P y = false → n + xs.countP P ≤ limit) :
    n + (xs ++ [y]).countP P ≤ limit := by
  rw [List.countP_append, List.countP_singleton]
  cases h : P y
  · exact hxs h
  · exact hy h

/-- R30, R31, R35, R62, R63: the layers of a strike, all of them heard and no two of one destination, offered in order. -/
theorem foldl_playLayer {src : SourceTriple} {s10 : Nat} {layers : List (Zone × Dest)} {s : State}
    (hheard : ∀ y ∈ layers, s.muted y.2.port = false) (hdests : (layers.map Prod.snd).Nodup)
    (horder : ∀ i ∈ s.held.releaseOrder, ∃ e ∈ s.held.table, e.ident = i) :
    ∃ verdict, Offered src s10 layers verdict s (layers.foldl (playLayer src s10) s) := by
  induction layers using List.reverseRecOn with
  | nil =>
    exact ⟨fun _ => .sent, (struck_none src s10 s).symm, fun before y after h => by simp at h, nofun, nofun⟩
  | append_singleton layers y ih =>
    rw [List.map_append, List.map_singleton, ← List.concat_eq_append, List.nodup_concat] at hdests
    obtain ⟨hnew, hdests⟩ := hdests
    have hd : ∀ x ∈ layers, x.2 ≠ y.2 := fun x hx h => hnew (List.mem_map.mpr ⟨x, hx, h⟩)
    obtain ⟨verdict, hstate, hverdicts, hqueues, htable⟩ := ih (fun x hx => hheard x (by simp [hx])) hdests
    let sent := judged verdict .sent layers
    let here := judge src s sent y
    have hkept (v : Verdict) : judged (Function.update verdict y.2 here) v (layers ++ [y])
        = if here = v then judged verdict v layers ++ [y] else judged verdict v layers := by
      rw [judged_concat, Function.update_self, judged_update v here hd]
    refine ⟨Function.update verdict y.2 here, ?_, fun before x after h => ?_, fun x hx => ?_, fun x hx hfresh => ?_⟩
    · have hsent : ∀ x ∈ sent, x.2 ≠ y.2 := fun x hx => hd x (List.mem_of_mem_filter hx)
      rw [List.foldl_append, List.foldl_cons, List.foldl_nil, hstate, playLayer_struck (hheard y (by simp)) hsent horder,
        hkept, hkept, hkept]
      show (match here with | .sent => _ | .refused => _ | .overflowed => _) = _
      cases here <;> rfl
    · rcases List.eq_nil_or_concat after with rfl | ⟨after, z, rfl⟩
      · obtain ⟨rfl, hxy⟩ := List.append_inj' h rfl
        obtain rfl : y = x := by simpa using hxy
        rw [Function.update_self, judged_update _ _ hd]
      · obtain ⟨hlayers, -⟩ := List.append_inj' (show layers ++ [y] = (before ++ x :: after) ++ [z] by simpa using h) rfl
        have hbefore : ∀ w ∈ before, w.2 ≠ y.2 := fun w hw => hd w (by simp [hlayers, hw])
        rw [Function.update_of_ne (hd x (by simp [hlayers])), judged_update _ _ hbefore]
        exact hverdicts before x after hlayers
    · rw [hkept] at hx ⊢
      by_cases hsent : here = .sent
      · rw [if_pos hsent] at hx ⊢
        obtain ⟨-, hroom⟩ := judge_eq_sent.mp hsent
        refine countP_concat_le (fun hp => ?_) fun hp => ?_
        · have hport : y.2.port = x.2.port := eq_of_beq hp
          simp only [hport] at hroom
          exact Nat.lt_of_not_le hroom
        · rcases List.mem_append.mp hx with hx | hx
          · exact hqueues x hx
          · rw [List.mem_singleton.mp hx, beq_self_eq_true] at hp
            cases hp
      · rw [if_neg hsent] at hx ⊢
        exact hqueues x hx
    · rw [hkept] at hx ⊢
      by_cases hsent : here = .sent
      · rw [if_pos hsent] at hx ⊢
        obtain ⟨hplace, -⟩ := judge_eq_sent.mp hsent
        refine countP_concat_le (fun hp => ?_) fun hp => ?_
        · exact Nat.lt_of_not_le fun h => hplace ⟨hp, h⟩
        · rcases List.mem_append.mp hx with hx | hx
          · exact htable x hx hfresh
          · rw [List.mem_singleton.mp hx, hp] at hfresh
            cases hfresh
      · rw [if_neg hsent] at hx ⊢
        exact htable x hx hfresh

theorem exec_strike {p : Port} {l : Lane} {k : Key} {amount : StrikeAmount} {s : State} (hpower : s.power = true)
    (hrole : s.settings.inbound[p].role = .play) :
    exec (.strike p l k amount) s = .next (zoneStrike p l k amount s) := by
  have hlane : laneOfNat? (laneByte l).toNat = some l := laneOfNat?_eq_some.mpr ((eq_laneByte_iff _ l).mp rfl)
  have hkey : keyOfNat? (keyByte k).toNat = some k := by
    have hk : (keyByte k).toNat = k.val := by
      rw [keyByte, BitVec.toNat_ofNat]
      omega
    rw [keyOfNat?_of_le (by omega), Option.some.injEq, Fin.ext_iff]
    exact hk
  have harrive : arrive p (strikeRow l k amount) s = zoneStrike p l k amount s := by
    cases amount <;> rw [strikeRow, arrive_of_not_service rfl, hrole] <;> simp [playFrame, onKey, hlane, hkey]
  exact (powered_of_power hpower).trans (congrArg _ harrive)

theorem filter_refused (verdict : Dest → Verdict) (layers : List (Zone × Dest)) :
    layers.filter (fun y => !decide (verdict y.2 = .sent) && decide (verdict y.2 = .refused))
      = judged verdict .refused layers :=
  List.filter_congr fun y _ => by generalize verdict y.2 = v; cases v <;> rfl

theorem filter_overflowed (verdict : Dest → Verdict) (layers : List (Zone × Dest)) :
    layers.filter (fun y => !decide (verdict y.2 = .sent) && !decide (verdict y.2 = .refused))
      = judged verdict .overflowed layers :=
  List.filter_congr fun y _ => by generalize verdict y.2 = v; cases v <;> rfl

/-- The layers of a strike before one of them have been judged among all. -/
theorem countP_judged_le {P : Zone × Dest → Bool} (verdict : Dest → Verdict) (v : Verdict)
    (before after : List (Zone × Dest)) :
    (judged verdict v before).countP P ≤ (judged verdict v (before ++ after)).countP P := by
  unfold judged
  rw [List.filter_append, List.countP_append]
  exact Nat.le_add_right ..

end Sys2Proof.Machine

namespace Sys2Proof
open Machine

/-- Settles O11: each layer's verdict by what the ones before it have left, and the part after all of them. -/
theorem strikeFrame : Obligations.StrikeFrame := by
  intro p l k amount s hpower hrole hheld src s10 heard
  obtain ⟨-, -, hrelease, -⟩ := hheld
  have hheard : ∀ y ∈ heard, s.muted y.2.port = false := fun y hy => by simpa using (List.mem_filter.mp hy).2
  have hdests : (heard.map Prod.snd).Nodup := by
    refine List.Nodup.sublist (List.filter_sublist.map _) ?_
    rw [layersOf_eq]
    exact firstOf_nodup _ _
  obtain ⟨verdict, hstate, hverdicts, hqueues, htable⟩ := foldl_playLayer (src := src) (s10 := s10) hheard hdests
    fun i hi => (hrelease i).mp hi |>.imp fun e he => ⟨he.1, he.2.1⟩
  let t := struck src s10 (judged verdict .sent heard) (judged verdict .refused heard) (judged verdict .overflowed heard) s
  have hplay (q : Port) : t.link.outs[q].play.length
      = s.link.outs[q].play.length + (judged verdict .sent heard).countP fun x => x.2.port == q := by
    rw [struck_outs, struckPort_play_length]
  have hlength : t.held.table.length
      = s.held.table.length + (judged verdict .sent heard).countP (freshLayer src s) := struckHeld_table_length ..
  have hfresh (y : Zone × Dest) : freshLayer src s y = true ↔ ∀ e ∈ s.held.table, e.ident ≠ (layerEntry src y).ident := by
    simp [freshLayer]
  have hsplit {v : Verdict} {y : Zone × Dest} (hy : y ∈ judged verdict v heard) :
      ∃ before after, heard = before ++ y :: after ∧ judge src s (judged verdict .sent before) y = v := by
    obtain ⟨hmem, hv⟩ := List.mem_filter.mp hy
    obtain ⟨before, after, hsplit⟩ := List.append_of_mem hmem
    exact ⟨before, after, hsplit, (hverdicts before y after hsplit).symm.trans (of_decide_eq_true hv)⟩
  refine ⟨fun d => verdict d = .sent, fun d => verdict d = .refused, t, ?_, ?_⟩
  · rw [exec_strike hpower hrole, zoneStrike, foldl_playLayer_heard]
    exact congrArg _ hstate
  · intro sent entries refused overflowed
    have hrefused : refused = judged verdict .refused heard := filter_refused verdict heard
    have hoverflowed : overflowed = judged verdict .overflowed heard := filter_overflowed verdict heard
    rw [hrefused, hoverflowed]
    refine ⟨rfl, fun y hy => ?_, fun y hy hnew => ?_, fun y hy => ?_, fun y hy => ?_, fun before y after hbefore => ?_⟩
    · rw [hplay]
      exact hqueues y hy
    · rw [hlength]
      exact htable y hy ((hfresh y).mpr hnew)
    · obtain ⟨before, after, hbefore, hverdict⟩ := hsplit hy
      have hroom := (judge_eq_refused.mp hverdict).2
      rw [hplay, hbefore]
      exact hroom.trans (Nat.add_le_add_left (countP_judged_le ..) _)
    · obtain ⟨before, after, hbefore, hverdict⟩ := hsplit hy
      obtain ⟨hnew, hplace⟩ := judge_eq_overflowed.mp hverdict
      refine ⟨?_, (hfresh y).mp hnew⟩
      rw [hlength, hbefore]
      exact hplace.trans (Nat.add_le_add_left (countP_judged_le ..) _)
    · rw [decide_eq_true_iff, decide_eq_true_iff, hverdicts before y after hbefore]
      exact ⟨judge_eq_sent, judge_eq_refused⟩

end Sys2Proof
end

section
/-! SUPPORT. The tempo engine's points (R86–R89, R91, R96, R99, R100, R103, R105): what a START, a song-change reset and the
beat they begin leave, with the frames offered for one point as they stand together in the statements. -/

namespace Sys2Proof.Machine

/-! ### Selections and samples (R86, R87) -/

/-- R86: the tempo engine once the pedals have been sampled. -/
def sampledTempo (s : State) : Tempo :=
  match s.settings.tempoSource with
  | .pedal => slotSelected (pedalSlot s) s.tempo
  | .scene => s.tempo

theorem samplePedals_eq (s : State) : samplePedals s = s.setTempo (sampledTempo s) := by
  unfold samplePedals sampledTempo
  cases s.settings.tempoSource <;> rfl

/-- R86, R87: a sample of a clock that runs changes the pending slot alone. -/
theorem sampledTempo_running {s : State} (h : s.tempo.clock ≠ .stopped) :
    sampledTempo s = { s.tempo with pendingSlot := sampledPending s } := by
  unfold sampledTempo sampledPending slotSelected
  cases s.settings.tempoSource with
  | scene => rfl
  | pedal =>
    dsimp only
    rw [if_neg h]
    split_ifs <;> rfl

/-- R86, R87: a sample of a STOPPED clock that names another slot takes effect. -/
theorem sampledTempo_taken {s : State} (h : s.tempo.clock = .stopped) (hsource : s.settings.tempoSource = .pedal)
    (hslot : s.tempo.pendingSlot.getD s.tempo.inEffect ≠ pedalSlot s) :
    sampledTempo s = tookEffect (pedalSlot s) s.tempo := by
  unfold sampledTempo slotSelected
  rw [hsource]
  dsimp only
  rw [if_neg hslot, if_pos h]

/-- R86: a sample that names the slot that stands, or is not taken, changes nothing. -/
theorem sampledTempo_same {s : State}
    (h : ¬(s.settings.tempoSource = .pedal ∧ s.tempo.pendingSlot.getD s.tempo.inEffect ≠ pedalSlot s)) :
    sampledTempo s = s.tempo := by
  unfold sampledTempo slotSelected
  cases hsource : s.settings.tempoSource with
  | scene => rfl
  | pedal =>
    dsimp only
    rw [if_pos]
    by_contra hslot
    exact h ⟨hsource, hslot⟩

/-- R87: what a slot that takes effect leaves alone. -/
theorem tookEffect_spec (i : Slot) (t : Tempo) :
    (tookEffect i t).inEffect = i ∧ (tookEffect i t).pendingSlot = none ∧ (tookEffect i t).meter = t.slots[i].meter
      ∧ (tookEffect i t).slots = t.slots ∧ (tookEffect i t).clock = t.clock ∧ (tookEffect i t).taps = t.taps
      ∧ (tookEffect i t).feeds = t.feeds := by
  unfold tookEffect
  dsimp only
  split <;> exact ⟨rfl, rfl, rfl, rfl, rfl, rfl, rfl⟩

theorem slotSelected_spec (i : Slot) (t : Tempo) :
    (slotSelected i t).slots = t.slots ∧ (slotSelected i t).clock = t.clock ∧ (slotSelected i t).taps = t.taps
      ∧ (slotSelected i t).feeds = t.feeds := by
  obtain ⟨-, -, -, hslots, hclock, htaps, hfeeds⟩ := tookEffect_spec i t
  unfold slotSelected
  split_ifs
  · exact ⟨rfl, rfl, rfl, rfl⟩
  · exact ⟨hslots, hclock, htaps, hfeeds⟩
  · exact ⟨rfl, rfl, rfl, rfl⟩
  · exact ⟨rfl, rfl, rfl, rfl⟩

theorem sampledTempo_spec (s : State) :
    (sampledTempo s).slots = s.tempo.slots ∧ (sampledTempo s).clock = s.tempo.clock
      ∧ (sampledTempo s).taps = s.tempo.taps ∧ (sampledTempo s).feeds = s.tempo.feeds := by
  unfold sampledTempo
  split
  · exact slotSelected_spec _ _
  · exact ⟨rfl, rfl, rfl, rfl⟩

/-! ### The length of a sub-tick (R81) -/

/-- R81: the accumulator and the length of a sub-tick that begins at an accumulator under a tempo. -/
def subTickOf (accumulator tempo : Nat) : Nat × Nat :=
  if tempo ≤ accumulator + 100000000 % tempo then
    (accumulator + 100000000 % tempo - tempo, 100000000 / tempo + 1)
  else (accumulator + 100000000 % tempo, 100000000 / tempo)

theorem stepAccumulator_eq (t : Tempo) :
    stepAccumulator t
      = { t with
          accumulator := (subTickOf t.accumulator t.tempo).1, units := (subTickOf t.accumulator t.tempo).2 } := by
  unfold stepAccumulator subTickOf
  dsimp only
  split <;> rfl

theorem subTickOf_zero {tempo : Nat} (h : 0 < tempo) :
    (subTickOf 0 tempo).1 = 100000000 % tempo ∧ (subTickOf 0 tempo).2 = 100000000 / tempo := by
  unfold subTickOf
  rw [Nat.zero_add, if_neg (Nat.not_le.mpr (Nat.mod_lt _ h))]
  exact ⟨rfl, rfl⟩

/-! ### The clicks of a point (R103–R105) -/

@[simp] theorem offeredTiming_tempo (frames : Port → List Frame) (s : State) :
    (offeredTiming frames s).tempo = s.tempo := rfl

theorem offeredTiming_setTempo (frames : Port → List Frame) (x : Tempo) (s : State) :
    (offeredTiming frames s).setTempo x = offeredTiming frames (s.setTempo x) := rfl

/-- R104: the Click of sub-tick 0 of the present beat. -/
theorem click_pointHere (f : Port) (t : Tempo) :
    Frame.click (portByte f) (pointHere t).accent (BitVec.ofNat 16 (pointHere t).bar) (BitVec.ofNat 8 (pointHere t).beat)
      = beatClick f (t.clock = .countIn) t.bar t.beat := by
  unfold beatClick pointHere portByte
  cases t.clock
  · dsimp only
    split
    · next h => simp [h]
    · simp [*]
  · rfl
  · dsimp only
    split
    · next h => simp [h]
    · simp [*]

/-- The Clicks of sub-tick 0 of the present beat that feeds of a list give OUTq, those that `placed` names apart. -/
def clicksOf (placed : Port → Bool) (s : State) (feeds : List Port) (q : Port) : List Frame :=
  feeds.filterMap fun f =>
    if s.settings.feeds[f].dest = q ∧ s.settings.feeds[f].enabled = true ∧ s.tempo.feeds[f].override ≠ .silent
        ∧ placed f = false then
      some (beatClick f (s.tempo.clock = .countIn) s.tempo.bar s.tempo.beat)
    else none

theorem clicksOf_congr {placed placed' : Port → Bool} {s s' : State} {feeds : List Port}
    (hsettings : s'.settings = s.settings) (hclock : s'.tempo.clock = s.tempo.clock) (hbar : s'.tempo.bar = s.tempo.bar)
    (hbeat : s'.tempo.beat = s.tempo.beat)
    (hoverride : ∀ f : Port, s'.tempo.feeds[f].override = s.tempo.feeds[f].override)
    (hplaced : ∀ f ∈ feeds, placed' f = placed f) (q : Port) :
    clicksOf placed' s' feeds q = clicksOf placed s feeds q := by
  refine List.filterMap_congr fun f hf => ?_
  rw [hsettings, hclock, hbar, hbeat, hoverride, hplaced f hf]

theorem clicksOf_singleton (placed : Port → Bool) (s : State) (f q : Port) :
    clicksOf placed s [f] q
      = if s.settings.feeds[f].dest = q ∧ s.settings.feeds[f].enabled = true ∧ s.tempo.feeds[f].override ≠ .silent
          ∧ placed f = false then
        [beatClick f (s.tempo.clock = .countIn) s.tempo.bar s.tempo.beat]
      else [] := by
  unfold clicksOf
  rw [List.filterMap_cons, List.filterMap_nil]
  split_ifs <;> rfl

theorem clicksOf_cons (placed : Port → Bool) (s : State) (f : Port) (feeds : List Port) (q : Port) :
    clicksOf placed s (f :: feeds) q = clicksOf placed s [f] q ++ clicksOf placed s feeds q :=
  List.filterMap_append (l := [f])

theorem resetFrames_eq (tick : Bool) (placed : Port → Bool) (s : State) (q : Port) :
    resetFrames tick placed s q
      = (if tick = true ∧ s.settings.outbound[q].tickOut = true then [.beatTick] else [])
        ++ clicksOf placed s (List.finRange 8) q := rfl

theorem firstBeatFrames_eq (transport : List Frame) (s : State) (q : Port) :
    firstBeatFrames transport s q
      = (if s.settings.outbound[q].tickOut = true then transport ++ [.beatTick] else [])
        ++ clicksOf (fun _ => false) s (List.finRange 8) q := by
  simp only [firstBeatFrames, clicksOf, and_true]

/-- A feed's click of sub-tick 0 placed at once. -/
theorem placeBeatClick_spec (s : State) (f : Port) :
    ∃ feeds : Vector FeedState 8, (∀ g : Port, feeds[g].override = s.tempo.feeds[g].override)
      ∧ (∀ g : Port, g ≠ f → feeds[g].beatPlaced = s.tempo.feeds[g].beatPlaced)
      ∧ placeBeatClick s f
        = offeredTiming (clicksOf (fun g => s.tempo.feeds[g].beatPlaced) s [f])
            (s.setTempo { s.tempo with feeds := feeds }) := by
  by_cases hdue : (s.settings.feeds[f].enabled && s.tempo.feeds[f].override != .silent
      && !s.tempo.feeds[f].beatPlaced) = true
  · let mark : FeedState → FeedState := fun x => { x with beatPlaced := true }
    refine ⟨upd s.tempo.feeds f mark, fun g => ?_, fun g hg => ?_, ?_⟩
    · rw [upd_getElem]
      split
      · next hg => rw [hg]
      · rfl
    · rw [upd_getElem, if_neg hg]
    · have hplaced : placeBeatClick s f = modifyFeed f mark (offerClick f (pointHere s.tempo) s) := if_pos hdue
      rw [hplaced, offerClick, click_pointHere, offerTiming_eq]
      refine congrArg (offeredTiming · (s.setTempo { s.tempo with feeds := upd s.tempo.feeds f mark })) ?_
      funext q
      obtain ⟨⟨henabled, hsounds⟩, hnew⟩ : (s.settings.feeds[f].enabled = true ∧ s.tempo.feeds[f].override ≠ .silent)
          ∧ s.tempo.feeds[f].beatPlaced = false := by
        simpa only [Bool.and_eq_true, bne_iff_ne, Bool.not_eq_true'] using hdue
      rw [clicksOf_singleton]
      by_cases hq : q = s.settings.feeds[f].dest
      · rw [if_pos hq, if_pos ⟨hq.symm, henabled, hsounds, hnew⟩]
      · rw [if_neg hq, if_neg fun h => hq h.1.symm]
  · refine ⟨s.tempo.feeds, fun _ => rfl, fun _ _ => rfl, ?_⟩
    have hnone : clicksOf (fun g => s.tempo.feeds[g].beatPlaced) s [f] = fun _ => [] := by
      funext q
      rw [clicksOf_singleton]
      refine if_neg fun h => hdue ?_
      simp only [Bool.and_eq_true, bne_iff_ne, Bool.not_eq_true']
      exact ⟨⟨h.2.1, h.2.2.1⟩, h.2.2.2⟩
    rw [hnone, offeredTiming_none]
    exact if_neg hdue

/-- R103, R105: the clicks of sub-tick 0 placed at once, in feed order. -/
theorem placeBeatClicks_spec (s : State) :
    ∃ feeds : Vector FeedState 8, (∀ g : Port, feeds[g].override = s.tempo.feeds[g].override)
      ∧ placeBeatClicks s
        = offeredTiming (clicksOf (fun g => s.tempo.feeds[g].beatPlaced) s (List.finRange 8))
            (s.setTempo { s.tempo with feeds := feeds }) := by
  suffices hlist : ∀ (l : List Port) (s : State), l.Nodup →
      ∃ feeds : Vector FeedState 8, (∀ g : Port, feeds[g].override = s.tempo.feeds[g].override)
        ∧ l.foldl placeBeatClick s
          = offeredTiming (clicksOf (fun g => s.tempo.feeds[g].beatPlaced) s l)
              (s.setTempo { s.tempo with feeds := feeds }) from hlist _ s (List.nodup_finRange 8)
  intro l
  induction l with
  | nil => exact fun s _ => ⟨s.tempo.feeds, fun _ => rfl, (offeredTiming_none s).symm⟩
  | cons f l ih =>
    intro s hl
    obtain ⟨hf, hl⟩ := List.nodup_cons.mp hl
    obtain ⟨feeds, hoverride, hplaced, hfirst⟩ := placeBeatClick_spec s f
    obtain ⟨feeds', hoverride', hrest⟩ := ih (placeBeatClick s f) hl
    rw [hfirst] at hoverride' hrest
    refine ⟨feeds', fun g => (hoverride' g).trans (hoverride g), ?_⟩
    rw [List.foldl_cons, hfirst, hrest, offeredTiming_setTempo, offeredTiming_offeredTiming]
    refine congrArg (offeredTiming · (s.setTempo { s.tempo with feeds := feeds' })) ?_
    funext q
    rw [clicksOf_cons _ s f l]
    congr 1
    refine clicksOf_congr ?_ ?_ ?_ ?_ ?_ ?_ q
    exacts [rfl, rfl, rfl, rfl, hoverride, fun g hg => hplaced g fun h => hf (h ▸ hg)]

/-! ### The first beat (R91, R93, R99, R105) -/

/-- The tempo engine in sub-tick 0 of a beat begun by START or by a reset in mid-beat, with what its feeds hold. -/
def firstBeatTempo (t : Tempo) (feeds : Vector FeedState 8) : Tempo :=
  { t with
    accumulator := (subTickOf t.accumulator t.tempo).1, units := (subTickOf t.accumulator t.tempo).2
    boundaryBegan := false, feeds := feeds }

/-- R91, R96, R99, R103: sub-tick 0 of a beat begun by START or by a reset in mid-beat. -/
theorem beginFirstBeat_spec {s : State} (h : s.tempo.subTick = 0) :
    ∃ feeds : Vector FeedState 8, (∀ g : Port, feeds[g].override = s.tempo.feeds[g].override)
      ∧ beginFirstBeat s
        = offeredTiming (resetFrames true (fun _ => false) s) (s.setTempo (firstBeatTempo s.tempo feeds)) := by
  let forgotten : Vector FeedState 8 := s.tempo.feeds.map fun f => { f with nextPlaced := false, beatPlaced := false }
  have hforgotten (g : Port) : forgotten[g].override = s.tempo.feeds[g].override ∧ forgotten[g].beatPlaced = false := by
    simp [forgotten]
  have hbegun : modifyTempo (fun t => stepAccumulator { forgetClicks t with boundaryBegan := false }) s
      = s.setTempo (firstBeatTempo s.tempo forgotten) := by
    unfold modifyTempo
    dsimp only
    rw [stepAccumulator_eq]
    rfl
  let ticks : Port → List Frame := fun q => if s.settings.outbound[q].tickOut = true then [.beatTick] else []
  let begun : State := s.setTempo (firstBeatTempo s.tempo forgotten)
  have htick : offerTick begun = offeredTiming ticks begun := by
    have hsub : begun.tempo.subTick % 20 = 0 := by
      rw [show begun.tempo.subTick = s.tempo.subTick from rfl, h]
    unfold offerTick
    rw [if_pos hsub, offerTickOut_eq]
    rfl
  obtain ⟨feeds, hoverride, hplaced⟩ := placeBeatClicks_spec (offeredTiming ticks begun)
  have hframes (q : Port) : ticks q ++ clicksOf (fun g => forgotten[g].beatPlaced) begun (List.finRange 8) q
      = resetFrames true (fun _ => false) s q := by
    rw [resetFrames_eq]
    refine congr (congrArg _ ?_) (clicksOf_congr ?_ ?_ ?_ ?_ ?_ ?_ q)
    exacts [by simp [ticks], rfl, rfl, rfl, rfl, fun g => (hforgotten g).1, fun g _ => (hforgotten g).2]
  refine ⟨feeds, fun g => (hoverride g).trans (hforgotten g).1, ?_⟩
  unfold beginFirstBeat
  rw [hbegun, htick, hplaced, offeredTiming_setTempo, offeredTiming_offeredTiming, ← funext hframes]
  rfl

/-! ### START (R91) -/

theorem offeredTiming_outs (frames : Port → List Frame) (s : State) (q : Port) :
    (offeredTiming frames s).link.outs[q]
      = { s.link.outs[q] with
          timing := s.link.outs[q].timing ++ tempoFrames ((frames q).take (4 - s.link.outs[q].timing.length)) } :=
  getElem_ofFn _ q

/-- R91: the tempo engine as START has set it, before its first beat begins. -/
def startedTempo (countIn : Nat) (t : Tempo) : Tempo :=
  { t with
    bar := 1, beat := 1, subTick := 0, accumulator := 0, rampBeat := 0, tempo := beatTempo t.slots[t.inEffect] 0
    clock := if countIn = 0 then .running else .countIn, countInBar := if countIn = 0 then 0 else 1 }

/-- R91, R100: START as its first beat behind a Transport START, where no count-in is run. -/
theorem startClock_eq (s : State) :
    startClock s
      = beginFirstBeat
          (offeredTiming
            (fun q =>
              if s.settings.outbound[q].tickOut = true then
                if s.change.active.header.countIn = 0 then [.transport 1#8 1#16 1#8] else []
              else [])
            (s.setTempo (startedTempo s.change.active.header.countIn (sampledTempo s)))) := by
  unfold startClock
  rw [samplePedals_eq]
  by_cases hcount : s.change.active.header.countIn = 0
  · simp only [if_pos hcount]
    rw [if_pos (show (s.setTempo (sampledTempo s)).countIn = 0 from hcount), offerTransport, offerTickOut_eq]
    rfl
  · simp only [if_neg hcount, ite_self, offeredTiming_none]
    rw [if_neg (show ¬(s.setTempo (sampledTempo s)).countIn = 0 from hcount)]
    rfl

/-- R91: START of a STOPPED clock. -/
theorem startClock_started {s : State} (h : s.tempo.clock = .stopped) : StartedFrom s (startClock s) := by
  let count := s.change.active.header.countIn
  let lead : List Frame := if count = 0 then [.transport 1#8 1#16 1#8] else []
  let started : Tempo := startedTempo count (sampledTempo s)
  obtain ⟨hslots, -, htaps, hfeeds⟩ := sampledTempo_spec s
  let offered := offeredTiming (fun q => if s.settings.outbound[q].tickOut = true then lead else []) (s.setTempo started)
  obtain ⟨feeds, hoverride, hbegun⟩ := beginFirstBeat_spec (s := offered) rfl
  let final : Tempo := firstBeatTempo started feeds
  have hframes (q : Port) : (if s.settings.outbound[q].tickOut = true then lead else [])
        ++ resetFrames true (fun _ => false) offered q
      = firstBeatFrames lead (s.setTempo final) q := by
    rw [resetFrames_eq, firstBeatFrames_eq, ← List.append_assoc]
    refine congr (congrArg _ ?_) (clicksOf_congr ?_ ?_ ?_ ?_ ?_ ?_ q)
    · by_cases htick : s.settings.outbound[q].tickOut = true
      · rw [if_pos htick, if_pos ⟨rfl, htick⟩]
        exact (if_pos htick).symm
      · rw [if_neg htick, if_neg fun h => htick h.2]
        exact (if_neg htick).symm
    exacts [rfl, rfl, rfl, rfl, fun g => (hoverride g).symm, fun _ _ => rfl]
  have ht : startClock s = offeredTiming (firstBeatFrames lead (s.setTempo final)) (s.setTempo final) := by
    rw [startClock_eq, ← funext hframes]
    refine hbegun.trans ?_
    rw [show offered.setTempo (firstBeatTempo offered.tempo feeds)
      = offeredTiming (fun q => if s.settings.outbound[q].tickOut = true then lead else []) (s.setTempo final) from rfl,
      offeredTiming_offeredTiming]
  have hlength : 0 < final.tempo →
      final.accumulator = 100000000 % final.tempo ∧ final.units = 100000000 / final.tempo := subTickOf_zero
  have hslot : (¬(s.settings.tempoSource = .pedal ∧ s.tempo.pendingSlot.getD s.tempo.inEffect ≠ pedalSlot s) →
        final.inEffect = s.tempo.inEffect ∧ final.meter = s.tempo.meter ∧ final.pendingSlot = s.tempo.pendingSlot)
      ∧ (s.settings.tempoSource = .pedal ∧ s.tempo.pendingSlot.getD s.tempo.inEffect ≠ pedalSlot s →
        final.inEffect = pedalSlot s ∧ final.meter = s.tempo.slots[pedalSlot s].meter ∧ final.pendingSlot = none) := by
    have hsame : final.inEffect = (sampledTempo s).inEffect ∧ final.meter = (sampledTempo s).meter
        ∧ final.pendingSlot = (sampledTempo s).pendingSlot := ⟨rfl, rfl, rfl⟩
    obtain ⟨hin, hmeter, hpending⟩ := hsame
    rw [hin, hmeter, hpending]
    refine ⟨fun hs => ?_, fun ⟨hsource, hs⟩ => ?_⟩
    · rw [sampledTempo_same hs]
      exact ⟨rfl, rfl, rfl⟩
    · rw [sampledTempo_taken h hsource hs]
      obtain ⟨htin, htpending, htmeter, -⟩ := tookEffect_spec (pedalSlot s) s.tempo
      exact ⟨htin, htmeter, htpending⟩
  have hclock : (count = 0 → final.clock = .running ∧ final.countInBar = 0)
      ∧ (count ≠ 0 → final.clock = .countIn ∧ final.countInBar = 1) :=
    ⟨fun hc => ⟨if_pos hc, if_pos hc⟩, fun hc => ⟨if_neg hc, if_neg hc⟩⟩
  have hport (q : Port) := offeredTiming_outs (firstBeatFrames lead (s.setTempo final)) (s.setTempo final) q
  rw [ht]
  refine ⟨rfl, rfl, rfl, rfl, rfl, hslots, hlength, hslot, htaps, hclock.1, hclock.2, fun f => ?_, rfl, fun q => ?_,
    rfl, rfl, rfl, rfl, rfl, rfl⟩
  · rw [← hfeeds]
    exact hoverride f
  · rw [hport]
    exact ⟨rfl, rfl⟩

/-! ### The beat that begins (R82, R89) -/

/-- R89: the tempo engine as a beat has settled it: a pending slot in effect, or a ramp one beat on, and at a bar boundary
the meter. -/
def settledTempo (bar : Bool) (pending : Option Slot) (t : Tempo) : Tempo :=
  let slot := pending.getD t.inEffect
  let k :=
    if pending ≠ none then 0
    else if t.slots[slot].form = .ramp then min (t.rampBeat + 1) (t.slots[slot].rampBars * t.slots[slot].meter)
    else t.rampBeat
  { t with
    inEffect := slot, pendingSlot := none, rampBeat := k, tempo := beatTempo t.slots[slot] k
    meter := if bar then t.slots[slot].meter else t.meter, accumulator := 0 }

theorem settleTempo_pending (bar : Bool) (pending : Option Slot) (t : Tempo) :
    settleTempo bar { t with pendingSlot := pending } = settledTempo bar pending t := by
  unfold settleTempo settledTempo
  cases pending with
  | some slot => rfl
  | none =>
    have hform : t.slots[t.inEffect].form = .ramp ∨ t.slots[t.inEffect].form = .steady := by
      cases t.slots[t.inEffect].form
      · exact .inr rfl
      · exact .inl rfl
    rcases hform with hform | hform <;> simp only [Option.getD_none, hform] <;> rfl

/-- R86, R89: the pedals sampled, and the tempo and meter settled, while the clock runs. -/
theorem settleTempo_sampled {s : State} (h : s.tempo.clock ≠ .stopped) (bar : Bool) :
    settleTempo bar (sampledTempo s) = settledTempo bar (sampledPending s) s.tempo := by
  rw [sampledTempo_running h, settleTempo_pending]

/-- R89: a beat that begins with frames offered, from what its tempo engine has settled. -/
theorem beatBegun_of_settled {bar : Bool} {frames : State → Port → List Frame} {s t : State} {a u : Nat} {b : Bool}
    {feeds : Vector FeedState 8}
    (htempo : t.tempo
      = { settledTempo bar (sampledPending s) s.tempo with
          accumulator := a, units := u, boundaryBegan := b, feeds := feeds })
    (hlength : (a, u) = subTickOf 0 (settledTempo bar (sampledPending s) s.tempo).tempo)
    (hoverride : ∀ f : Port, feeds[f].override = s.tempo.feeds[f].override)
    (ht : t = offeredTiming (frames t) { s with tempo := t.tempo }) : BeatBegun bar frames s t := by
  let settled := settledTempo bar (sampledPending s) s.tempo
  have hunits (hpos : 0 < settled.tempo) : a = 100000000 % settled.tempo ∧ u = 100000000 / settled.tempo := by
    obtain ⟨ha, hu⟩ := subTickOf_zero hpos
    rw [← hlength] at ha hu
    exact ⟨ha, hu⟩
  unfold BeatBegun
  dsimp only
  rw [← ht, htempo]
  exact ⟨rfl, rfl, rfl, rfl, rfl, rfl, rfl, rfl, rfl, rfl, rfl, hunits, hoverride, rfl, rfl⟩

/-! ### The song-change reset (R96) -/

/-- R96: within a count-in, where the new song has one, the first bar of it begins again. -/
theorem positionReset_counting {s : State} (hclock : s.tempo.clock = .countIn)
    (hcount : s.change.active.header.countIn ≠ 0) :
    positionReset s = s.setTempo { s.tempo with bar := 1, beat := 1, subTick := 0, countInBar := 1 } := by
  have hagain : decide (s.tempo.clock = .countIn ∧ s.change.active.header.countIn ≠ 0) = true :=
    decide_eq_true ⟨hclock, hcount⟩
  unfold positionReset
  rw [hagain]
  simp only [Bool.true_eq_false, and_false, if_false, if_true, offeredTiming_none]
  rw [← hclock]
  rfl

/-- R96: otherwise the song begins, with a Transport START. -/
theorem positionReset_begun {s : State} (h : ¬(s.tempo.clock = .countIn ∧ s.change.active.header.countIn ≠ 0)) :
    positionReset s
      = offerTransport 1#8 1 1
          (s.setTempo
            { s.tempo with
              bar := 1, beat := 1, subTick := 0, clock := .running
              countInBar := if s.tempo.clock = .countIn then 0 else s.tempo.countInBar }) := by
  have hagain : decide (s.tempo.clock = .countIn ∧ s.change.active.header.countIn ≠ 0) = false := decide_eq_false h
  unfold positionReset offerTransport
  rw [hagain, offerTickOut_eq]
  simp only [and_true, Bool.false_eq_true, if_false]
  rfl

/-- R96: the position of a clock that runs, reset. -/
theorem resetPosition_eq {s : State} (h : s.tempo.clock ≠ .stopped) : resetPosition s = positionReset s := by
  unfold resetPosition
  cases hclock : s.tempo.clock with
  | stopped => exact absurd hclock h
  | running =>
    rw [positionReset_begun (by simp [hclock])]
    refine congrArg (offerTransport 1#8 1 1) ?_
    rw [if_neg (by simp [hclock])]
    exact congrArg (fun c => s.setTempo { s.tempo with bar := 1, beat := 1, subTick := 0, clock := c }) hclock
  | countIn =>
    by_cases hcount : s.countIn = 0
    · rw [positionReset_begun (fun hc => hc.2 hcount), hclock]
      exact if_pos hcount
    · rw [positionReset_counting hclock hcount]
      exact if_neg hcount

theorem positionReset_runs (s : State) : (positionReset s).tempo.clock ≠ .stopped := by
  unfold positionReset
  dsimp only [offeredTiming_tempo]
  split <;> decide

theorem positionReset_subTick (s : State) : (positionReset s).tempo.subTick = 0 := rfl
theorem positionReset_feeds (s : State) : (positionReset s).tempo.feeds = s.tempo.feeds := rfl
theorem positionReset_slots (s : State) : (positionReset s).tempo.slots = s.tempo.slots := rfl

/-- R96: beside the clock, a position reset offers frames and changes nothing. -/
theorem positionReset_offered (s : State) :
    ∃ frames, ∀ x : Tempo, (positionReset s).setTempo x = offeredTiming frames (s.setTempo x) := ⟨_, fun _ => rfl⟩

theorem resetFrames_congr {tick : Bool} {placed : Port → Bool} {s s' : State} (hsettings : s'.settings = s.settings)
    (hclock : s'.tempo.clock = s.tempo.clock) (hbar : s'.tempo.bar = s.tempo.bar) (hbeat : s'.tempo.beat = s.tempo.beat)
    (hoverride : ∀ f : Port, s'.tempo.feeds[f].override = s.tempo.feeds[f].override) :
    resetFrames tick placed s' = resetFrames tick placed s := by
  funext q
  rw [resetFrames_eq, resetFrames_eq, hsettings]
  congr 1
  exact clicksOf_congr hsettings hclock hbar hbeat hoverride (fun _ _ => rfl) q

/-- R86, R89, R96: the new point reached, sampled and settled. -/
theorem settled_reset {s : State} (h : s.tempo.clock ≠ .stopped) :
    modifyTempo (settleTempo true) (samplePedals (resetPosition s))
      = (positionReset s).setTempo
          (settledTempo true (sampledPending (positionReset s)) (positionReset s).tempo) := by
  rw [resetPosition_eq h, samplePedals_eq, ← settleTempo_sampled (positionReset_runs s)]
  rfl

/-- R96, R99, R105: a song-change reset in mid-beat. -/
theorem songReset_midBeat {s : State} (h : s.tempo.clock ≠ .stopped) :
    BeatBegun true (resetFrames true fun _ => false) (positionReset s) (songReset .midBeat s) := by
  let r := positionReset s
  let settled := settledTempo true (sampledPending r) r.tempo
  have hsub : (r.setTempo settled).tempo.subTick = 0 := positionReset_subTick s
  obtain ⟨feeds, hoverride, hbegun⟩ := beginFirstBeat_spec hsub
  have hreset : songReset .midBeat s = beginFirstBeat (r.setTempo settled) := by
    rw [← settled_reset h]
    unfold songReset
    cases hclock : s.tempo.clock with
    | stopped => exact absurd hclock h
    | running => rfl
    | countIn => rfl
  rw [hreset, hbegun]
  refine beatBegun_of_settled (a := (subTickOf 0 settled.tempo).1) (u := (subTickOf 0 settled.tempo).2) (b := false)
    (feeds := feeds) rfl rfl hoverride ?_
  refine congrArg (offeredTiming · (r.setTempo (firstBeatTempo settled feeds))) (resetFrames_congr ?_ ?_ ?_ ?_ ?_)
  exacts [rfl, rfl, rfl, rfl, fun f => (hoverride f).symm]

/-- R96, R99, R105: a song-change reset at the moment of a boundary already taken. -/
theorem songReset_afterBoundary {s : State} (h : s.tempo.clock ≠ .stopped) :
    BeatBegun true (resetFrames false fun f => s.tempo.feeds[f].beatPlaced) (positionReset s)
      (songReset .afterBoundary s) := by
  let r := positionReset s
  let settled := settledTempo true (sampledPending r) r.tempo
  let stepped : Tempo :=
    { settled with accumulator := (subTickOf 0 settled.tempo).1, units := (subTickOf 0 settled.tempo).2 }
  obtain ⟨feeds, hoverride, hplaced⟩ := placeBeatClicks_spec (r.setTempo stepped)
  have hreset : songReset .afterBoundary s = placeBeatClicks (r.setTempo stepped) := by
    have hstepped : modifyTempo (fun t => stepAccumulator (settleTempo true t)) (samplePedals (resetPosition s))
        = r.setTempo stepped := by
      refine (congrArg (modifyTempo stepAccumulator) (settled_reset h)).trans ?_
      unfold modifyTempo
      rw [stepAccumulator_eq]
      rfl
    rw [← hstepped]
    unfold songReset
    cases hclock : s.tempo.clock with
    | stopped => exact absurd hclock h
    | running => rfl
    | countIn => rfl
  have hfeeds : r.tempo.feeds = s.tempo.feeds := positionReset_feeds s
  rw [hreset, hplaced]
  refine beatBegun_of_settled (a := (subTickOf 0 settled.tempo).1) (u := (subTickOf 0 settled.tempo).2)
    (b := settled.boundaryBegan) (feeds := feeds) rfl rfl hoverride ?_
  refine congrArg (offeredTiming · (r.setTempo { stepped with feeds := feeds })) (funext fun q => ?_)
  rw [resetFrames_eq, if_neg (by simp), List.nil_append]
  refine clicksOf_congr ?_ ?_ ?_ ?_ ?_ ?_ q
  exacts [rfl, rfl, rfl, rfl, fun f => (hoverride f).symm, fun f _ => congrArg (fun v => v[f].beatPlaced) hfeeds]

end Sys2Proof.Machine
end

section
/-! SUPPORT. The change controller's queue (R118–R121, R130, R164): what taking one request, and then the queue, comes to. -/

namespace Sys2Proof.Machine

/-- The controller with no request waiting. -/
def unqueued (s : State) : State := s.setChange { s.change with queue := [] }

theorem endRequest_unqueued (o : ChangeOutcome) (origin : Origin) (s : State) :
    unqueued (endRequest o origin s) = requestEnded o origin (unqueued s) := by
  unfold endRequest requestEnded
  cases o <;> rfl

theorem decideSource_eq (page : Page) (s : State) : decideSource page s = sourceOf page s := by
  unfold decideSource sourceOf
  cases s.store.operation with
  | none => rfl
  | some op => cases op.kind <;> rfl

/-- R119: a request taken, from what it resolves to: the outcome it ends with, or the target it asks for. -/
theorem requestTaken_of_resolved {r : ChangeRequest} {s t : State}
    (hends : ∀ o, resolveRequest r s = .ends o → t = requestEnded o r.origin s)
    (htarget : ∀ entry scene song, resolveRequest r s = .target entry scene →
      (song || s.emptyActive) = isSongChange r entry s → Asked entry scene song r.origin s t) :
    RequestTaken r s t := by
  have hsong (e : Nat) (h : e ≠ s.change.cursorEntry) : (true || s.emptyActive) = isSongChange r e s := by
    simp [isSongChange, h]
  have hscene (h : r.kind ≠ .gotoSong) : (false || s.emptyActive) = isSongChange r s.change.cursorEntry s := by
    simp [isSongChange, h]
  unfold RequestTaken
  unfold resolveRequest at hends htarget
  cases hk : r.kind <;> simp only [hk] at hends htarget ⊢
  case nextScene =>
    refine ⟨fun hn => hends _ (if_pos hn), fun hn => ⟨fun hlt => ?_, fun hrun => ?_, fun hle hrun => ?_⟩⟩
    · exact htarget _ _ false (by rw [if_neg hn, if_pos hlt]) (hscene (by simp [hk]))
    · exact htarget _ _ true (by rw [if_neg hn, if_neg (by omega), if_pos hrun]) (hsong _ (by omega))
    · exact hends _ (by rw [if_neg hn, if_neg (by omega), if_neg hrun])
  case prevScene =>
    refine ⟨fun hn => hends _ (if_pos hn), fun hn => ⟨fun hlt => ?_, fun hle => ?_⟩⟩
    · exact htarget _ _ false (by rw [if_neg hn, if_pos hlt]) (hscene (by simp [hk]))
    · exact hends _ (by rw [if_neg hn, if_neg (by omega)])
  case nextSong =>
    refine ⟨fun hn => hends _ (if_pos hn), fun hn => ⟨fun hlt => ?_, fun hle => ?_⟩⟩
    · exact htarget _ _ true (by rw [if_neg hn, if_pos hlt]) (hsong _ (by omega))
    · exact hends _ (by rw [if_neg hn, if_neg (by omega)])
  case prevSong =>
    refine ⟨fun hn => hends _ (if_pos hn), fun hn => ⟨fun hlt => ?_, fun hle => ?_⟩⟩
    · exact htarget _ _ true (by rw [if_neg hn, if_pos hlt]) (hsong _ (by omega))
    · exact hends _ (by rw [if_neg hn, if_neg (by omega)])
  case gotoScene =>
    refine ⟨fun hn => hends _ (if_pos hn), fun hn hout => ?_, fun hn hlow hhigh => ?_⟩
    · exact hends _ (by rw [if_neg hn, if_neg (by dsimp only at hout; omega)])
    · exact htarget _ _ false (by rw [if_neg hn, if_pos ⟨hlow, hhigh⟩]) (hscene (by simp [hk]))
  case gotoSong =>
    refine ⟨fun hn => hends _ (if_pos hn), fun hn hout => ?_, fun hn hlow hhigh => ?_⟩
    · exact hends _ (by rw [if_neg hn, if_neg (by dsimp only at hout; omega)])
    · exact htarget _ _ true (by rw [if_neg hn, if_pos ⟨hlow, hhigh⟩]) (by simp [isSongChange, hk])

/-- R121, R162, R164: what asking for the fetch of a page makes of the controller. -/
def pageAsked (entry scene : Nat) (song : Bool) (origin : Origin) (page : Page) (s : State) : State :=
  match sourceOf page s with
  | none => requestEnded .empty origin s
  | some source => fetching entry scene song origin page source s

theorem asked_of_page {entry scene : Nat} {song : Bool} {origin : Origin} {s t : State}
    (h : ∀ page, fetchPage (song || s.emptyActive) entry s = some page →
      t = pageAsked entry scene (song || s.emptyActive) origin page s) : Asked entry scene song origin s t := h

/-- R118, R120: the IDLE controller takes its queue request by request. -/
theorem takeAll_taken (rs : List ChangeRequest) {s : State} (h : s.change.state = .idle) :
    QueueTaken rs (unqueued s) (takeAll rs s) := by
  induction rs generalizing s with
  | nil =>
    show takeAll [] s = unqueued s
    exact congrArg (fun x => s.setChange { s.change with state := x, queue := [] }) h.symm
  | cons r rs ih =>
    have hended (o : ChangeOutcome) (htaken : RequestTaken r (unqueued s) (requestEnded o r.origin (unqueued s))) :
        QueueTaken (r :: rs) (unqueued s) (takeAll rs (endRequest o r.origin s)) := by
      refine ⟨_, htaken, ?_⟩
      have hrest : QueueTaken rs (unqueued (endRequest o r.origin s)) (takeAll rs (endRequest o r.origin s)) :=
        ih (by rw [endRequest_change])
      rw [endRequest_unqueued] at hrest
      exact (if_pos rfl).mpr hrest
    have hsame : resolveRequest r (unqueued s) = resolveRequest r s := rfl
    unfold takeAll
    cases hres : resolveRequest r s with
    | ends o =>
      refine hended o (requestTaken_of_resolved (fun o' ho => ?_) fun _ _ _ ht => ?_)
      · cases (hsame.trans hres).symm.trans ho
        rfl
      · cases (hsame.trans hres).symm.trans ht
    | target entry scene =>
      have htaken {t : State}
          (hpage : ∀ page, fetchPage (isSongChange r entry s) entry s = some page →
            t = pageAsked entry scene (isSongChange r entry s) r.origin page (unqueued s)) :
          RequestTaken r (unqueued s) t := by
        refine requestTaken_of_resolved (fun o ho => ?_) fun entry' scene' song ht hsong => asked_of_page ?_
        · cases (hsame.trans hres).symm.trans ho
        · cases (hsame.trans hres).symm.trans ht
          rw [hsong]
          exact hpage
      dsimp only
      cases hfetch : fetchPage (isSongChange r entry s) entry s with
      | none => exact hended .noSet (htaken fun page hp => absurd (hfetch.symm.trans hp) (by simp))
      | some page =>
        dsimp only
        cases hsource : decideSource page s with
        | none =>
          refine hended .empty (htaken fun page' hp => ?_)
          cases hfetch.symm.trans hp
          rw [pageAsked, ← decideSource_eq, show decideSource page (unqueued s) = none from hsource]
        | some source =>
          refine ⟨fetching entry scene (isSongChange r entry s) r.origin page source (unqueued s),
            htaken fun page' hp => ?_, ?_⟩
          · cases hfetch.symm.trans hp
            rw [pageAsked, ← decideSource_eq, show decideSource page (unqueued s) = some source from hsource]
          · exact (if_neg (by simp [fetching])).mpr rfl

/-- R120, R130: a change that ends at once, and what the IDLE controller takes after it. -/
theorem takeNext_endRequest (o : ChangeOutcome) (origin : Origin) (s : State) :
    QueueTaken s.change.queue (requestEnded o origin s) (takeNext (endRequest o origin s)) := by
  have hqueue : (endRequest o origin s).change.queue = s.change.queue := by rw [endRequest_change]
  have hended : unqueued (endRequest o origin s) = requestEnded o origin s := endRequest_unqueued o origin s
  unfold takeNext
  rw [hqueue, ← hended]
  exact takeAll_taken _ (by rw [endRequest_change])

end Sys2Proof.Machine
end

section
/-! SUPPORT. The switch (R125–R129): what the model's stages of a switch hand over, the start or reset that may follow,
and what its burst and the end of its change leave alone. -/

namespace Sys2Proof.Machine

/-! ### The new copy handed over (R76, R83, R88, R102, R125, R126) -/

theorem applyLeave_eq (leave : LeavePolicy) (s : State) : applyLeave leave s = s.setHeld (heldLeft leave s.held) := by
  cases leave with
  | carry => rfl
  | cut =>
    have hentry (e : Entry) :
        (if (e.state != .releasing) = true then { e with state := .releasing, release := e.release } else e)
          = if e.state = .releasing then e else { e with state := .releasing } := by
      by_cases h : e.state = .releasing
      · rw [if_pos h, if_neg (by simp [h])]
      · rw [if_neg h, if_pos (by simp [h])]
    unfold applyLeave releaseAll makeReleasing heldLeft
    simp only [hentry]

/-- R102: the tempo engine with a new copy's feed overrides. -/
def overridden (overrides : Vector (Option Override) 8) (t : Tempo) : Tempo :=
  { t with feeds := Vector.ofFn fun f : Port => { t.feeds[f] with override := overrides[f].getD t.feeds[f].override } }

theorem applyOverrides_eq (overrides : Vector (Option Override) 8) (t : Tempo) :
    applyOverrides overrides t = overridden overrides t := by
  unfold applyOverrides overridden
  congr 2
  funext f
  cases overrides[f] <;> rfl

theorem songSlot_eq (tempos : List TempoRaw) (i : Nat) :
    songSlot tempos i
      = ((tempos[i]?.bind tempoOfRaw?).getD .default,
          tempos[i]?.elim 0 fun raw => if (tempoOfRaw? raw).isNone then 1 else 0) := by
  unfold songSlot
  cases tempos[i]? with
  | none => rfl
  | some raw =>
    dsimp only [Option.bind_some, Option.elim_some]
    cases tempoOfRaw? raw <;> rfl

theorem songSlotRepairs_eq (tempos : List TempoRaw) :
    songSlotRepairs tempos = (tempos.take 4).countP fun raw => (tempoOfRaw? raw).isNone := by
  unfold songSlotRepairs
  simp only [songSlot_eq]
  rcases tempos with _ | ⟨a, _ | ⟨b, _ | ⟨c, _ | ⟨d, rest⟩⟩⟩⟩ <;> simp [List.countP_cons] <;> omega

theorem loadSongSlots_eq (tempos : List TempoRaw) (s : State) :
    loadSongSlots tempos s = countRepairs (songSlotRepairs tempos) (s.setTempo (songLoaded tempos s.tempo)) := by
  unfold loadSongSlots modifyTempo songLoaded songSlots afterRewrite
  simp only [songSlot_eq]
  congr 2
  by_cases hin : s.tempo.inEffect.val < 4
  · rw [if_pos hin, if_neg (Nat.not_le.mpr hin), if_pos trivial]
    rfl
  · rw [if_neg hin, if_pos (Nat.not_lt.mp hin)]

/-- R126: the tempo engine once a new copy's tempo slot, if it has one, has been selected under tempo source SCENE. -/
def sceneSlotTaken (slot : Option Slot) (source : TempoSource) (t : Tempo) : Tempo :=
  match slot, source with
  | some i, .scene => slotSelected i t
  | _, _ => t

theorem applyTempoSlot_eq (slot : Option Slot) (s : State) :
    applyTempoSlot slot s = s.setTempo (sceneSlotTaken slot s.settings.tempoSource s.tempo) := by
  unfold applyTempoSlot sceneSlotTaken
  cases slot with
  | none => rfl
  | some i => cases s.settings.tempoSource <;> rfl

/-- R76, R102, R125: the stages of a switch up to the feed overrides. -/
def copyOpened (copy : SceneCopy) (tg : Target) (s : State) : State :=
  modifyTempo (applyOverrides copy.block.overrides)
    (modifyChange (switchCopies copy tg) (applyLeave s.change.active.block.leave s))

/-- R125, R126: the stages of a switch up to the tempo slot, as one. -/
theorem copyOpened_handed (copy : SceneCopy) (tg : Target) (s : State) :
    applyTempoSlot copy.block.tempoSlot
        (if tg.song then loadSongSlots copy.header.tempos (copyOpened copy tg s) else copyOpened copy tg s)
      = handedOver copy tg s := by
  rw [loadSongSlots_eq, songSlotRepairs_eq, applyTempoSlot_eq]
  unfold copyOpened modifyTempo
  rw [applyLeave_eq, applyOverrides_eq]
  unfold handedOver
  cases tg.song <;> rfl

/-- R125–R127: the part as a switch leaves it before its burst is placed. -/
def switchMade (m : SwitchMoment) (copy : SceneCopy) (tg : Target) (s : State) : State :=
  autoStart copy (if tg.song then songReset m (handedOver copy tg s) else handedOver copy tg s)

theorem doSwitch_eq {m : SwitchMoment} {copy : SceneCopy} {tg : Target} {s : State}
    (hstaged : s.change.staged = some copy) (htarget : s.change.target = some tg) :
    doSwitch m s = endChange (placeBursts (switchMade m copy tg s)) := by
  unfold doSwitch
  rw [hstaged, htarget]
  dsimp only
  unfold switchMade
  rw [← copyOpened_handed]
  rfl

theorem songLoaded_spec (tempos : List TempoRaw) (t : Tempo) :
    (songLoaded tempos t).clock = t.clock ∧ (songLoaded tempos t).feeds = t.feeds
      ∧ ∀ i : Slot, i.val < 4 →
        (songLoaded tempos t).slots[i] = (tempos[i.val]?.bind tempoOfRaw?).getD TempoRecord.default := by
  let slots : Vector TempoRecord 16 := Vector.ofFn fun i =>
    if i.val < 4 then (tempos[i.val]?.bind tempoOfRaw?).getD TempoRecord.default else t.slots[i]
  have hslots (i : Slot) (h : i.val < 4) : slots[i] = (tempos[i.val]?.bind tempoOfRaw?).getD TempoRecord.default :=
    (getElem_ofFn _ i).trans (if_pos h)
  obtain ⟨-, -, -, htaken, hclock, -, hfeeds⟩ := tookEffect_spec t.inEffect { t with slots := slots }
  unfold songLoaded
  dsimp only
  split_ifs
  · exact ⟨rfl, rfl, hslots⟩
  · exact ⟨hclock, hfeeds, fun i h => (congrArg (·[i]) htaken).trans (hslots i h)⟩
  · exact ⟨rfl, rfl, hslots⟩

theorem sceneSlotTaken_spec (slot : Option Slot) (source : TempoSource) (t : Tempo) :
    (sceneSlotTaken slot source t).slots = t.slots ∧ (sceneSlotTaken slot source t).clock = t.clock
      ∧ (sceneSlotTaken slot source t).feeds = t.feeds := by
  unfold sceneSlotTaken
  split
  · next i =>
    obtain ⟨hslots, hclock, -, hfeeds⟩ := slotSelected_spec i t
    exact ⟨hslots, hclock, hfeeds⟩
  · exact ⟨rfl, rfl, rfl⟩

/-- R83, R102: what a switch hands the tempo engine: its clock and the Clicks placed stand, slots 0–3 are a new song's. -/
theorem handedOver_tempo (copy : SceneCopy) (tg : Target) (s : State) :
    (handedOver copy tg s).tempo.clock = s.tempo.clock
      ∧ (∀ f : Port, (handedOver copy tg s).tempo.feeds[f].beatPlaced = s.tempo.feeds[f].beatPlaced)
      ∧ (tg.song = true → ∀ i : Slot, i.val < 4 →
        (handedOver copy tg s).tempo.slots[i]
          = (copy.header.tempos[i.val]?.bind tempoOfRaw?).getD TempoRecord.default) := by
  let fed : Tempo := overridden copy.block.overrides s.tempo
  let loaded : Tempo := if tg.song = true then songLoaded copy.header.tempos fed else fed
  have hplaced (f : Port) : fed.feeds[f].beatPlaced = s.tempo.feeds[f].beatPlaced :=
    (congrArg FeedState.beatPlaced (getElem_ofFn _ f)).trans rfl
  have hloaded : loaded.clock = s.tempo.clock ∧ loaded.feeds = fed.feeds ∧ (tg.song = true → ∀ i : Slot, i.val < 4 →
      loaded.slots[i] = (copy.header.tempos[i.val]?.bind tempoOfRaw?).getD TempoRecord.default) := by
    obtain ⟨hclock, hfeeds, hslots⟩ := songLoaded_spec copy.header.tempos fed
    dsimp only [loaded]
    split_ifs with hsong
    · exact ⟨hclock, hfeeds, fun _ => hslots⟩
    · exact ⟨rfl, rfl, fun h => absurd h hsong⟩
  obtain ⟨hclock, hfeeds, hslots⟩ := hloaded
  obtain ⟨hslots', hclock', hfeeds'⟩ := sceneSlotTaken_spec copy.block.tempoSlot s.settings.tempoSource loaded
  have htempo : (handedOver copy tg s).tempo = sceneSlotTaken copy.block.tempoSlot s.settings.tempoSource loaded := rfl
  rw [htempo, hslots', hclock', hfeeds', hfeeds]
  exact ⟨hclock, hplaced, hslots⟩

/-! ### The start or reset of a switch (R96, R126, R127) -/

theorem autoStart_of_running {copy : SceneCopy} {s : State} (h : s.tempo.clock ≠ .stopped) : autoStart copy s = s := by
  unfold autoStart doStart
  rw [if_neg h, ite_self]

theorem songReset_of_stopped (m : SwitchMoment) {s : State} (h : s.tempo.clock = .stopped) : songReset m s = s := by
  unfold songReset
  rw [h]

/-- R96: a song-change reset other than at a boundary, by whether it falls at the moment of one already taken. -/
theorem songReset_begun (after : Bool) {s : State} (h : s.tempo.clock ≠ .stopped) :
    BeatBegun true (resetFrames (!after) fun f => after && s.tempo.feeds[f].beatPlaced) (positionReset s)
      (songReset (if after then .afterBoundary else .midBeat) s) := by
  cases after with
  | true => simpa using songReset_afterBoundary h
  | false => simpa using songReset_midBeat h

/-- R96, R125–R127: the switch other than at a beat boundary. -/
theorem switchMade_now (after : Bool) (copy : SceneCopy) (tg : Target) (s : State) :
    SwitchedNow after copy tg s (switchMade (if after then .afterBoundary else .midBeat) copy tg s) := by
  obtain ⟨hclock, hplaced, -⟩ := handedOver_tempo copy tg s
  have hstopped (h : s.tempo.clock = .stopped) (m : SwitchMoment) :
      switchMade m copy tg s = autoStart copy (handedOver copy tg s) := by
    unfold switchMade
    rw [songReset_of_stopped m (hclock.trans h), ite_self]
  refine ⟨fun h hauto => ?_, fun h => ?_, fun h hsong => ?_⟩
  · rw [hstopped h]
    unfold autoStart doStart
    rw [if_pos hauto, if_pos (hclock.trans h)]
    exact startClock_started (hclock.trans h)
  · rcases h with ⟨h, hauto⟩ | ⟨h, hsong⟩
    · rw [hstopped h]
      unfold autoStart
      rw [if_neg (by simp [hauto])]
    · unfold switchMade
      rw [if_neg (by simp [hsong]), autoStart_of_running (by rwa [hclock])]
  · have hrun : (handedOver copy tg s).tempo.clock ≠ .stopped := by rwa [hclock]
    have hbegun := songReset_begun after hrun
    have hruns := hbegun.left
    unfold switchMade
    rw [if_pos hsong, autoStart_of_running (by rw [hruns]; exact positionReset_runs _)]
    simpa only [hplaced] using hbegun

/-- R125–R127: a switch offers frames to the timing queues and changes nothing else of what it handed over but the clock,
whose slots it keeps. -/
theorem switchedNow_offered {after : Bool} {copy : SceneCopy} {tg : Target} {s u : State}
    (h : SwitchedNow after copy tg s u) :
    (∃ frames, u = offeredTiming frames ((handedOver copy tg s).setTempo u.tempo))
      ∧ u.tempo.slots = (handedOver copy tg s).tempo.slots := by
  obtain ⟨hstart, hstand, hreset⟩ := h
  have hhanded (h : u = handedOver copy tg s) :
      (∃ frames, u = offeredTiming frames ((handedOver copy tg s).setTempo u.tempo))
        ∧ u.tempo.slots = (handedOver copy tg s).tempo.slots := by
    rw [h]
    exact ⟨⟨fun _ => [], (offeredTiming_none _).symm⟩, rfl⟩
  by_cases hclock : s.tempo.clock = .stopped
  · cases hauto : copy.block.autoStart with
    | false => exact hhanded (hstand (.inl ⟨hclock, hauto⟩))
    | true =>
      obtain ⟨-, -, -, -, -, hslots, -, -, -, -, -, -, hoffered, -⟩ := hstart hclock hauto
      exact ⟨⟨_, hoffered⟩, hslots⟩
  · cases hsong : tg.song with
    | false => exact hhanded (hstand (.inr ⟨hclock, hsong⟩))
    | true =>
      obtain ⟨-, -, -, -, -, -, -, hslots, -, -, -, -, -, -, hoffered⟩ := hreset hclock hsong
      obtain ⟨transport, hreset⟩ := positionReset_offered (handedOver copy tg s)
      have hboth := hoffered.trans (congrArg (offeredTiming _) (hreset u.tempo))
      rw [offeredTiming_offeredTiming] at hboth
      exact ⟨⟨_, hboth⟩, hslots.trans (positionReset_slots _)⟩

/-- R76, R83, R125–R127: what a switch hands over, beside the clock's start or reset, before its burst is placed. -/
theorem switchedNow_spec {after : Bool} {copy : SceneCopy} {tg : Target} {s u : State}
    (h : SwitchedNow after copy tg s u) :
    u.power = s.power ∧ u.change = (handedOver copy tg s).change ∧ u.store = s.store
      ∧ u.held = heldLeft s.change.active.block.leave s.held
      ∧ u.status.fetchRepairs = (handedOver copy tg s).status.fetchRepairs
      ∧ (∀ q : Port, u.link.outs[q].burst = s.link.outs[q].burst)
      ∧ (tg.song = true → ∀ i : Slot, i.val < 4 →
        u.tempo.slots[i] = (copy.header.tempos[i.val]?.bind tempoOfRaw?).getD TempoRecord.default) := by
  obtain ⟨⟨frames, hoffered⟩, hslots⟩ := switchedNow_offered h
  obtain ⟨-, -, hloaded⟩ := handedOver_tempo copy tg s
  rw [hslots]
  generalize u.tempo = x at hoffered
  subst hoffered
  refine ⟨rfl, rfl, rfl, rfl, rfl, fun q => ?_, hloaded⟩
  rw [offeredTiming_outs]
  rfl

/-! ### The burst and the end of a change (R118, R120, R128, R129) -/

/-- R128: what placing a burst changes: frames in burst queues, and how far the burst has come. -/
def BurstWorked (s t : State) : Prop :=
  ∃ (link : Link) (cursor : Nat) (selected : Bool),
    t = { s with link := link, change := { s.change with burstCursor := cursor, selectPlaced := selected } }

theorem BurstWorked.refl (s : State) : BurstWorked s s := ⟨s.link, s.change.burstCursor, s.change.selectPlaced, rfl⟩

theorem BurstWorked.trans {s t u : State} (h : BurstWorked s t) (h' : BurstWorked t u) : BurstWorked s u := by
  obtain ⟨link, cursor, selected, rfl⟩ := h
  obtain ⟨link', cursor', selected', rfl⟩ := h'
  exact ⟨link', cursor', selected', rfl⟩

theorem pushBurst_worked (p : Port) (f : Frame) (s : State) : BurstWorked s (pushBurst p f s) :=
  ⟨(pushBurst p f s).link, s.change.burstCursor, s.change.selectPlaced, rfl⟩

theorem advanceBurst_worked (s : State) : BurstWorked s (advanceBurst s) :=
  ⟨s.link, s.change.burstCursor + 1, false, rfl⟩

theorem selectDone_worked (p : Port) (e : BurstEntry) (s : State) : BurstWorked s (selectDone p e s) := by
  unfold selectDone
  split
  · exact .refl s
  · exact (pushBurst_worked p (entrySelect e) s).trans ⟨_, s.change.burstCursor, true, rfl⟩

theorem placeEntry_worked (e : BurstEntry) (s : State) : BurstWorked s (placeEntry e s).1 := by
  rcases placeEntry_spec e s with ⟨-, he⟩ | ⟨p, -, he | ⟨-, he | ⟨-, he⟩ | he⟩⟩ <;> rw [he]
  · exact advanceBurst_worked s
  · exact .refl s
  · exact (selectDone_worked p e s).trans (advanceBurst_worked _)
  · exact ((selectDone_worked p e s).trans (pushBurst_worked ..)).trans (advanceBurst_worked _)
  · exact selectDone_worked p e s

theorem placeFrom_worked (es : List BurstEntry) (s : State) : BurstWorked s (placeFrom es s) := by
  induction es generalizing s with
  | nil => exact .refl s
  | cons e es ih =>
    unfold placeFrom
    dsimp only
    split
    · exact (placeEntry_worked e s).trans (ih _)
    · exact placeEntry_worked e s

theorem placeBursts_worked (s : State) : BurstWorked s (placeBursts s) := by
  unfold placeBursts
  split
  · exact placeFrom_worked ..
  · exact .refl s

/-- R118: taking requests stages no copy. -/
theorem takeAll_staged (rs : List ChangeRequest) {s : State} (h : s.change.staged = none) :
    (takeAll rs s).change.staged = none := by
  induction rs generalizing s with
  | nil => exact h
  | cons r rs ih =>
    have hend (o : ChangeOutcome) : (takeAll rs (endRequest o r.origin s)).change.staged = none :=
      ih (by rw [endRequest_change])
    unfold takeAll
    dsimp only
    repeat' split
    · exact hend _
    · exact hend _
    · exact hend _
    · rfl

/-- R129: what the end of a change leaves alone. -/
theorem endChange_spec (s : State) (hstaged : s.change.staged = none) :
    (endChange s).tempo = s.tempo ∧ (endChange s).held = s.held ∧ (endChange s).change.staged = none
      ∧ (endChange s).change.active = s.change.active ∧ (endChange s).change.cursorEntry = s.change.cursorEntry
      ∧ (endChange s).change.cursorScene = s.change.cursorScene
      ∧ (endChange s).change.cursorPage = s.change.cursorPage ∧ (endChange s).change.adjusted = s.change.adjusted := by
  unfold endChange
  split
  · obtain ⟨hactive, hentry, hscene, hpage, -, -, -, hadjusted, -⟩ :=
      takeAll_change (s := modifyChange (fun c => { c with state := .idle, target := none }) s) s.change.queue
    exact ⟨takeNext_tempo _, takeNext_held _, takeAll_staged _ hstaged, hactive, hentry, hscene, hpage, hadjusted⟩
  · exact ⟨rfl, rfl, hstaged, rfl, rfl, rfl, rfl, rfl⟩

/-- R129: the end of a change with no request waiting. -/
theorem endChange_unqueued {s : State} (hstate : s.change.state = .switching) (hqueue : s.change.queue = []) :
    ((endChange s).change.state = .switching ∨ (endChange s).change.state = .idle)
      ∧ (endChange s).change.outcome = s.change.outcome ∧ (endChange s).change.origin = s.change.origin
      ∧ (endChange s).store = s.store ∧ (endChange s).status = s.status := by
  cases hdone : burstDone s with
  | true =>
    rw [endChange_idle hstate hdone hqueue]
    exact ⟨.inr rfl, rfl, rfl, rfl, rfl⟩
  | false =>
    have hgoes : endChange s = s := by
      unfold endChange
      rw [if_neg (by simp [hdone])]
    rw [hgoes]
    exact ⟨.inl hstate, rfl, rfl, rfl, rfl⟩

/-- R128, R129: what BURST_PLACE leaves alone of a part whose switch has been made. -/
theorem burstPlaced_spec (s : State) (hstaged : s.change.staged = none) :
    let t := endChange (placeBursts s)
    t.tempo = s.tempo ∧ t.held = s.held ∧ t.change.staged = none ∧ t.change.active = s.change.active
      ∧ t.change.cursorEntry = s.change.cursorEntry ∧ t.change.cursorScene = s.change.cursorScene
      ∧ t.change.cursorPage = s.change.cursorPage ∧ t.change.adjusted = s.change.adjusted := by
  obtain ⟨link, cursor, selected, hworked⟩ := placeBursts_worked s
  dsimp only
  rw [hworked]
  exact endChange_spec _ hstaged

theorem burstPlaced_unqueued {s : State} (hstate : s.change.state = .switching) (hqueue : s.change.queue = []) :
    let t := endChange (placeBursts s)
    (t.change.state = .switching ∨ t.change.state = .idle) ∧ t.change.outcome = s.change.outcome
      ∧ t.change.origin = s.change.origin ∧ t.store = s.store ∧ t.status = s.status := by
  obtain ⟨link, cursor, selected, hworked⟩ := placeBursts_worked s
  dsimp only
  rw [hworked]
  exact endChange_unqueued hstate hqueue

theorem stagedCopy_absent {s : State} (hstaged : s.change.staged = none) (hfetch : s.store.fetch = none) :
    s.stagedCopy = .absent := by
  unfold State.stagedCopy
  rw [hstaged, hfetch]

/-- R76: under CUT every entry is RELEASING. -/
theorem releasing_of_mem_cut {held : Held} {e : Entry} (he : e ∈ (heldLeft .cut held).table) :
    e.state = .releasing := by
  obtain ⟨e', -, rfl⟩ := List.mem_map.mp he
  split
  · assumption
  · rfl

/-- R83, R189: the fetch repairs counted by a switch. -/
theorem handedOver_repairs (copy : SceneCopy) (tg : Target) {s : State} (h : s.status.fetchRepairs ≤ 65535) :
    (handedOver copy tg s).status.fetchRepairs
      = min (s.status.fetchRepairs + (if tg.song then songSlotRepairs copy.header.tempos else 0)) 65535 := by
  unfold handedOver
  cases tg.song with
  | true => rw [songSlotRepairs_eq]; rfl
  | false => exact (Nat.min_eq_left h).symm

/-- R108, R125–R130: a switch with its burst placed, the change ending at once where nothing of the burst is left. -/
theorem switchedNow_placed {after : Bool} {copy : SceneCopy} {tg : Target} {s u : State}
    (h : SwitchedNow after copy tg s u) (hfetch : s.store.fetch = none) (hcounted : s.status.fetchRepairs ≤ 65535) :
    let t := endChange (placeBursts u)
    u.stagedCopy = .absent ∧ (∀ q : Port, u.link.outs[q].burst = s.link.outs[q].burst) ∧ t.change.active = copy
      ∧ t.change.staged = none ∧ t.change.cursorEntry = tg.entry ∧ t.change.cursorScene = tg.scene
      ∧ t.change.cursorPage = some tg.page ∧ t.change.adjusted = false
      ∧ (s.change.queue = [] →
        t.stagedCopy = .absent ∧ t.change.outcome = .ok ∧ t.change.origin = some tg.origin
          ∧ (t.change.state = .switching ∨ t.change.state = .idle) ∧ t.store = s.store
          ∧ t.status.fetchRepairs
            = min (s.status.fetchRepairs + (if tg.song then songSlotRepairs copy.header.tempos else 0)) 65535)
      ∧ (∀ i : Slot, i.val < 4 → tg.song = true →
        t.tempo.slots[i] = (copy.header.tempos[i.val]?.bind tempoOfRaw?).getD TempoRecord.default)
      ∧ (s.change.active.block.leave = .carry → t.held = s.held)
      ∧ (s.change.active.block.leave = .cut → ∀ e ∈ t.held.table, e.state = .releasing) := by
  intro t
  obtain ⟨-, hchange, hstore, hheld, hrepairs, hbursts, hslots⟩ := switchedNow_spec h
  have hstaged : u.change.staged = none := by rw [hchange]; rfl
  obtain ⟨ttempo, theld, tstaged, tactive, tentry, tscene, tpage, tadjusted⟩ := burstPlaced_spec u hstaged
  refine ⟨stagedCopy_absent hstaged (by rw [hstore]; exact hfetch), hbursts, ?_, tstaged, ?_, ?_, ?_, ?_,
    fun hqueue => ?_, fun i hi hsong => ?_, fun hleave => ?_, fun hleave e he => ?_⟩
  · rw [tactive, hchange]; rfl
  · rw [tentry, hchange]; rfl
  · rw [tscene, hchange]; rfl
  · rw [tpage, hchange]; rfl
  · rw [tadjusted, hchange]; rfl
  · obtain ⟨tstate, toutcome, torigin, tstore, tstatus⟩ :=
      burstPlaced_unqueued (s := u) (by rw [hchange]; rfl) (by rw [hchange]; exact hqueue)
    refine ⟨stagedCopy_absent tstaged (by rw [tstore, hstore]; exact hfetch), ?_, ?_, tstate, tstore.trans hstore, ?_⟩
    · rw [toutcome, hchange]; rfl
    · rw [torigin, hchange]; rfl
    · rw [tstatus, hrepairs]
      exact handedOver_repairs copy tg hcounted
  · rw [ttempo]
    exact hslots hsong i hi
  · rw [theld, hheld, hleave]
    rfl
  · rw [theld, hheld, hleave] at he
    exact releasing_of_mem_cut he

end Sys2Proof.Machine
end

section
/-! SUPPORT. Fetch repairs (R41, R109–R111): each field of a header, a scene block, a zone and a burst entry as it is
repaired, and the repairs counted. -/

namespace Sys2Proof.Machine

/-! ### Fields of one byte (R109, R110, R193) -/

theorem repaired_within (hi d n : Nat) : repaired (within? 0 hi n) d = (if n ≤ hi then n else d, one (hi < n)) := by
  unfold within? one
  by_cases h : n ≤ hi
  · simp [repaired, h, Nat.not_lt.mpr h]
  · simp [repaired, h, Nat.not_le.mp h]

theorem repaired_flag (n : Nat) :
    ((repaired (natBool? n) false).1 = true ↔ n = 1) ∧ (repaired (natBool? n) false).2 = one (1 < n) := by
  rcases n with _ | _ | n
  · exact ⟨by decide, rfl⟩
  · exact ⟨by decide, rfl⟩
  · exact ⟨by simp [natBool?, repaired], by simp [natBool?, repaired, one]⟩

theorem repaired_changePoint (n : Nat) :
    (repaired (changePointOfNat? n) .immediate).1.code = (if n ≤ 5 then n else 0)
      ∧ (repaired (changePointOfNat? n) .immediate).2 = one (5 < n) := by
  rcases n with _ | _ | _ | _ | _ | _ | n
  case succ.succ.succ.succ.succ.succ =>
    exact ⟨by simp [changePointOfNat?, repaired, ChangePoint.code], by simp [changePointOfNat?, repaired, one]⟩
  all_goals exact ⟨rfl, rfl⟩

theorem repaired_leave (n : Nat) :
    (repaired (leaveOfNat? n) .carry).1.code = (if n ≤ 1 then n else 0)
      ∧ (repaired (leaveOfNat? n) .carry).2 = one (1 < n) := by
  rcases n with _ | _ | n
  · exact ⟨rfl, rfl⟩
  · exact ⟨rfl, rfl⟩
  · exact ⟨by simp [leaveOfNat?, repaired, LeavePolicy.code], by simp [leaveOfNat?, repaired, one]⟩

/-- R193: an optional field whose values in range run from 0 to `hi`, below the byte that stands for absent. -/
theorem repaired_optional {α : Type} {of? : Nat → Option α} {code : α → Nat} {hi : Nat} (hlow : hi < 255)
    (hof : ∀ n, (of? n).map code = if n ≤ hi then some n else none) (b : Byte) :
    (repaired (optional? of? b) none).1.map code = (if b.toNat ≤ hi then some b.toNat else none)
      ∧ (repaired (optional? of? b) none).2 = one (hi < b.toNat ∧ b.toNat ≠ 255) := by
  have habsent : b = 0xFF#8 ↔ b.toNat = 255 := by bv_omega
  have hval := hof b.toNat
  unfold optional?
  by_cases hb : b.toNat = 255
  · rw [if_pos (habsent.mpr hb)]
    refine ⟨?_, ?_⟩
    · rw [if_neg (by omega)]
      rfl
    · simp [repaired, one, hb]
  · rw [if_neg fun h => hb (habsent.mp h)]
    cases hx : of? b.toNat with
    | some x =>
      rw [hx, Option.map_some] at hval
      have hle : b.toNat ≤ hi := by
        by_contra hgt
        rw [if_neg hgt] at hval
        exact Option.some_ne_none _ hval
      exact ⟨hval, by simp [repaired, one, Nat.not_lt.mpr hle]⟩
    | none =>
      rw [hx, Option.map_none] at hval
      have hgt : hi < b.toNat := by
        by_contra hle
        rw [if_pos (by omega)] at hval
        exact Option.some_ne_none _ hval.symm
      exact ⟨hval, by simp [repaired, one, hgt, hb]⟩

theorem slotOfNat?_code (n : Nat) : (slotOfNat? n).map Fin.val = if n ≤ 15 then some n else none := by
  unfold slotOfNat?
  split <;> rfl

theorem overrideOfNat?_code (n : Nat) : (overrideOfNat? n).map Override.code = if n ≤ 2 then some n else none := by
  rcases n with _ | _ | _ | n
  · rfl
  · rfl
  · rfl
  · rw [if_neg (by omega)]
    rfl

/-- R109: a song header is repaired field by field. -/
theorem headerRepaired (rd : Nat → Byte) : HeaderRepaired rd := by
  obtain ⟨hrunOn, hrunOns⟩ := repaired_flag (rd 18).toNat
  unfold HeaderRepaired headerAt
  simp only [repaired_within, hrunOns, List.length_map, List.length_range]
  refine ⟨trivial, hrunOn, trivial, ?_, trivial⟩
  split <;> omega

/-! ### Zones and burst entries (R41, R111) -/

theorem zoneOutOfRange_iff (z : Zone) :
    zoneOutOfRange z = true ↔
      z.sourcePort.toNat = 0 ∨ 8 < z.sourcePort.toNat ∨ 32 < z.sourceLane.toNat ∨ 127 < z.keyLow.toNat
        ∨ 127 < z.keyHigh.toNat ∨ z.keyHigh.toNat < z.keyLow.toNat ∨ z.strikeLow.toNat = 0
        ∨ 1023 < z.strikeLow.toNat ∨ z.strikeHigh.toNat = 0 ∨ 1023 < z.strikeHigh.toNat
        ∨ z.strikeHigh.toNat < z.strikeLow.toNat ∨ z.destPort.toNat = 0 ∨ 8 < z.destPort.toNat
        ∨ z.destLane.toNat = 0 ∨ 32 < z.destLane.toNat ∨ z.transpose.toInt < -48 ∨ 48 < z.transpose.toInt
        ∨ 1 < z.edge.toNat ∨ 1 < z.sustain.toNat ∨ 1 < z.controls.toNat ∨ 1 < z.enabledStored.toNat
        ∨ 15 < z.curve.toNat ∨ z.offset.toInt < -512 ∨ 511 < z.offset.toInt := by
  have hrange (n hi : Nat) : (!(decide (1 ≤ n) && decide (n ≤ hi))) = true ↔ n = 0 ∨ hi < n := by
    simp only [Bool.not_eq_true', Bool.and_eq_false_iff, decide_eq_false_iff_not]
    omega
  unfold zoneOutOfRange
  simp only [Bool.or_eq_true, hrange, decide_eq_true_eq, or_assoc]

theorem zoneAt_repaired (rd : Nat → Byte) (a : Nat) : (zoneAt rd a).repaired = zoneOutOfRange (zoneAt rd a) := by
  unfold zoneAt
  dsimp only
  split
  · next h => exact h.symm
  · next h => exact ((Bool.not_eq_true _).mp h).symm

/-- R41: a repaired zone is held with its enabled field off. -/
theorem zoneAt_enabled (rd : Nat → Byte) (a : Nat) :
    (zoneAt rd a).enabled = true ↔ (zoneAt rd a).enabledStored = 1#8 ∧ (zoneAt rd a).repaired = false := by
  unfold zoneAt
  dsimp only
  split <;> simp

theorem burstOutOfRange_iff (e : BurstEntry) :
    burstOutOfRange e = true ↔
      e.port.toNat = 0 ∨ 8 < e.port.toNat ∨ e.lane.toNat = 0 ∨ 32 < e.lane.toNat ∨ 1023 < e.bank.toNat
        ∨ 127 < e.sound.toNat ∨ (127 < e.level.toNat ∧ e.level.toNat ≠ 255) := by
  have hrange (n hi : Nat) : (!(decide (1 ≤ n) && decide (n ≤ hi))) = true ↔ n = 0 ∨ hi < n := by
    simp only [Bool.not_eq_true', Bool.and_eq_false_iff, decide_eq_false_iff_not]
    omega
  have hlevel : e.hasLevel = true ↔ e.level.toNat ≠ 255 := by
    unfold BurstEntry.hasLevel
    rw [bne_iff_ne]
    bv_omega
  unfold burstOutOfRange
  simp only [Bool.or_eq_true, Bool.and_eq_true, hrange, hlevel, decide_eq_true_eq, or_assoc]
  rw [and_comm (a := e.level.toNat ≠ 255)]

/-! ### Scene blocks (R110) -/

theorem sum_map_one {α : Type} (p : α → Bool) (l : List α) : (l.map fun x => one (p x)).sum = l.countP p := by
  induction l with
  | nil => rfl
  | cons x l ih =>
    rw [List.map_cons, List.sum_cons, ih, List.countP_cons, Nat.add_comm]
    rfl

/-- R110: the byte of a scene block at an offset. -/
def sceneByte (rd : Nat → Byte) (scene j : Nat) : Byte := rd (48 + (scene - 1) * 427 + j)

/-- R110, R193: the override field of a feed as fetched. -/
def fetchedOverride (rd : Nat → Byte) (scene : Nat) (i : Port) : Option Override × Nat :=
  repaired (optional? overrideOfNat? (sceneByte rd scene (16 + i.val))) none

theorem fetchedOverride_spec (rd : Nat → Byte) (scene : Nat) (i : Port) :
    let n := (sceneByte rd scene (16 + i.val)).toNat
    (fetchedOverride rd scene i).1.map Override.code = (if n ≤ 2 then some n else none)
      ∧ (fetchedOverride rd scene i).2 = one (2 < n ∧ n ≠ 255) :=
  repaired_optional (by decide) overrideOfNat?_code _

theorem fetchedOverride_eq (rd : Nat → Byte) (scene : Nat) :
    (fun i : Port => repaired (optional? overrideOfNat? (rd (sceneBase scene + 16 + i.val))) none)
      = fetchedOverride rd scene := by
  funext i
  rw [Nat.add_assoc]
  rfl

theorem sceneAt_overrides (rd : Nat → Byte) (scene : Nat) :
    (sceneAt rd scene).1.overrides = (Vector.ofFn (fetchedOverride rd scene)).map Prod.fst := by
  rw [← fetchedOverride_eq]
  rfl

/-- R110: the repairs of the feed overrides. -/
theorem overrideRepairs_eq (rd : Nat → Byte) (scene : Nat) :
    ((Vector.ofFn (fetchedOverride rd scene)).toList.map Prod.snd).sum
      = (List.finRange 8).countP fun i : Port =>
          2 < (sceneByte rd scene (16 + i.val)).toNat ∧ (sceneByte rd scene (16 + i.val)).toNat ≠ 255 := by
  rw [← sum_map_one, Vector.toList_ofFn, List.ofFn_eq_map, List.map_map]
  exact congrArg List.sum (List.map_congr_left fun i _ => (fetchedOverride_spec rd scene i).2)

/-- R41, R110, R111: a scene block is repaired field by field. -/
theorem sceneRepaired (rd : Nat → Byte) (scene : Nat) : SceneRepaired rd scene := by
  let b := sceneByte rd scene
  obtain ⟨hslot, hslots⟩ := repaired_optional (by decide) slotOfNat?_code (b 12)
  obtain ⟨hpoint, hpoints⟩ := repaired_changePoint (b 13).toNat
  obtain ⟨hleave, hleaves⟩ := repaired_leave (b 14).toNat
  obtain ⟨hstart, hstarts⟩ := repaired_flag (b 24).toNat
  have hcount (n : Nat) : (if n ≤ 16 then n else 16) = min n 16 := by split <;> omega
  have hzones : (sceneAt rd scene).1.zones.length = min (b 25).toNat 16 := by
    simp only [sceneAt, repaired_within, List.length_map, List.length_range, hcount]
    rfl
  have hbursts : (sceneAt rd scene).1.bursts.length = min (b 26).toNat 16 := by
    simp only [sceneAt, repaired_within, List.length_map, List.length_range, hcount]
    rfl
  refine ⟨hslot, hpoint, hleave, fun i => ?_, hstart, hzones, hbursts, fun z hz => ?_, fun e he => ?_, ?_⟩
  · rw [sceneAt_overrides]
    refine Eq.trans ?_ (fetchedOverride_spec rd scene i).1
    simp
  · obtain ⟨i, -, rfl⟩ := List.mem_map.mp hz
    rw [← zoneOutOfRange_iff, zoneAt_repaired]
    exact ⟨by rw [← zoneAt_repaired]; exact zoneAt_enabled .., .rfl⟩
  · obtain ⟨i, -, rfl⟩ := List.mem_map.mp he
    exact burstOutOfRange_iff _
  · have hsum : (sceneAt rd scene).2
        = (repaired (optional? slotOfNat? (b 12)) none).2 + (repaired (changePointOfNat? (b 13).toNat) .immediate).2
          + (repaired (leaveOfNat? (b 14).toNat) .carry).2
          + ((Vector.ofFn (fetchedOverride rd scene)).toList.map Prod.snd).sum
          + (repaired (natBool? (b 24).toNat) false).2 + (repaired (within? 0 16 (b 25).toNat) 16).2
          + (repaired (within? 0 16 (b 26).toNat) 16).2 + (sceneAt rd scene).1.zones.countP (·.repaired)
          + (sceneAt rd scene).1.bursts.countP (·.skip) := by
      rw [← fetchedOverride_eq]
      rfl
    rw [hsum, hslots, hpoints, hleaves, overrideRepairs_eq, hstarts, repaired_within, repaired_within]
    rfl

end Sys2Proof.Machine
end

section
/-! SUPPORT. The end of a fetch (R121–R123, R162, R163): what is read, and what the change comes to. -/

namespace Sys2Proof.Machine

/-! ### What a fetch reads (R121, R122, R162, R163) -/

theorem fetchReading_iff (f : Fetch) (s : State) : fetchReading f s = true ↔ beingRead f s := by
  unfold fetchReading beingRead awaitsSuspension
  rw [Bool.and_eq_true, bne_iff_ne]
  refine and_congr_right fun _ => ?_
  cases s.store.operation with
  | none => simp
  | some op => by_cases hcells : f.source = .cells <;> simp [hcells]

theorem fetchImage_read (f : Fetch) (s : State) : Memory.read (fetchImage f s) = readFrom f s := by
  unfold fetchImage readFrom
  cases f.source <;> rfl

theorem fetchClass_eq (f : Fetch) (s : State) : fetchClass f s = foundClass f s := by
  unfold fetchClass foundClass readFrom
  cases f.source with
  | cells => rfl
  | afterLoad => rfl
  | buffer image =>
    show committedClass f.page image = if _ then _ else _
    unfold committedClass isSongPage sceneCountOf
    simp only [Bool.and_eq_true, Bool.or_eq_true, decide_eq_true_eq]

/-- R121: the header of the copy that a fetch delivers, and its repairs. -/
def fetchedHeader (f : Fetch) (song : Bool) (s : State) : SongHeader × Nat :=
  if song then headerAt (readFrom f s) else (s.change.active.header, 0)

/-- R121: the copy that a fetch delivers. -/
def fetchedCopy (f : Fetch) (song : Bool) (s : State) : SceneCopy :=
  { block := (sceneAt (readFrom f s) f.scene).1, header := (fetchedHeader f song s).1, source := some (f.page, f.scene) }

/-- R121, R122: the repairs of a fetch of a page that is GOOD. -/
def fetchRepairs (f : Fetch) (song : Bool) (s : State) : Nat :=
  (fetchedHeader f song s).2 + (sceneAt (readFrom f s) f.scene).2

/-- R121, R122: a fetch of a page that is GOOD. -/
theorem runFetch_good {f : Fetch} {s : State} (song : Bool) (h : foundClass f s = .good) :
    runFetch f song s
      = (if (readFrom f s 17).toNat < f.scene then .fault .range else .copy (fetchedCopy f song s),
          fetchRepairs f song s) := by
  unfold runFetch
  rw [fetchClass_eq, h]
  dsimp only
  unfold sceneCountOf
  rw [fetchImage_read]
  rfl

/-- R163: the part with a fetch read to its end, its repairs counted. -/
def fetchRead (f : Fetch) (song : Bool) (s : State) : State :=
  countRepairs (fetchRepairs f song s) (closeFetch s)

theorem countRepairs_zero {s : State} (h : s.status.fetchRepairs ≤ 65535) : countRepairs 0 s = s := by
  have hkept : min (s.status.fetchRepairs + 0) Config.counterLimit = s.status.fetchRepairs := Nat.min_eq_left h
  unfold countRepairs
  rw [hkept]
  rfl

/-! ### The end of a fetch (R122, R123) -/

section
variable {f : Fetch} {tg : Target} {s : State}

/-- A fetch that waits has no end yet. -/
theorem doFetchEnd_waits (m : SwitchMoment) (htarget : s.change.target = some tg) (hfetch : s.store.fetch = some f)
    (hwaits : ¬beingRead f s) : doFetchEnd m s = s := by
  have hreading : fetchReading f s = false := by rwa [← Bool.not_eq_true, fetchReading_iff]
  unfold doFetchEnd
  rw [hfetch, htarget]
  dsimp only
  rw [hreading, Bool.and_false, if_neg Bool.false_ne_true]

/-- R122: a fetch that ends its change with a fault. -/
theorem doFetchEnd_fault (m : SwitchMoment) {o : ChangeOutcome} {n : Nat} (hstate : s.change.state = .fetching)
    (htarget : s.change.target = some tg) (hfetch : s.store.fetch = some f) (hread : beingRead f s)
    (hrun : runFetch f tg.song s = (.fault o, n)) :
    doFetchEnd m s = takeNext (endRequest o tg.origin (countRepairs n (closeFetch s))) := by
  unfold doFetchEnd
  rw [hfetch, htarget]
  dsimp only
  rw [if_pos (by simp [hstate, (fetchReading_iff f s).mpr hread]), hrun]

/-- R123: the part with a copy staged, waiting for its change point. -/
def copyStaged (copy : SceneCopy) (s : State) : State :=
  s.setChange { s.change with staged := some copy, state := .waiting }

/-- R123: a fetch that fills the staged copy of its change. -/
theorem doFetchEnd_copy (m : SwitchMoment) (hstate : s.change.state = .fetching)
    (htarget : s.change.target = some tg) (hfetch : s.store.fetch = some f) (hread : beingRead f s)
    (hclass : foundClass f s = .good) (hwithin : f.scene ≤ (readFrom f s 17).toNat) :
    doFetchEnd m s
      = if s.tempo.clock = .stopped ∨ s.change.active.block.changePoint = .immediate then
          doSwitch m (copyStaged (fetchedCopy f tg.song s) (fetchRead f tg.song s))
        else copyStaged (fetchedCopy f tg.song s) (fetchRead f tg.song s) := by
  have hrun : runFetch f tg.song s = (.copy (fetchedCopy f tg.song s), fetchRepairs f tg.song s) := by
    rw [runFetch_good _ hclass, if_neg (Nat.not_lt.mpr hwithin)]
  unfold doFetchEnd
  rw [hfetch, htarget]
  dsimp only
  rw [if_pos (by simp [hstate, (fetchReading_iff f s).mpr hread]), hrun]
  rfl

/-- R123, R125: a fetch whose copy is switched to at once. -/
theorem doFetchEnd_switch (m : SwitchMoment) (hstate : s.change.state = .fetching)
    (htarget : s.change.target = some tg) (hfetch : s.store.fetch = some f) (hread : beingRead f s)
    (hclass : foundClass f s = .good) (hwithin : f.scene ≤ (readFrom f s 17).toNat)
    (hnow : s.tempo.clock = .stopped ∨ s.change.active.block.changePoint = .immediate) :
    doFetchEnd m s = endChange (placeBursts (switchMade m (fetchedCopy f tg.song s) tg (fetchRead f tg.song s))) := by
  rw [doFetchEnd_copy m hstate htarget hfetch hread hclass hwithin, if_pos hnow]
  exact doSwitch_eq rfl htarget

end

/-! ### The end of a load (R156, R162) -/

/-- R162: a fetch that waited for a load, decided again. -/
theorem redecideFetch_eq {f : Fetch} {source : FetchSource} {s : State} (hfetch : s.store.fetch = some f)
    (hwaits : f.source = .afterLoad) (hdecided : decideSource f.page s = some source) :
    redecideFetch s = modifyStore (fun st => { st with fetch := some { f with source := source } }) s := by
  unfold redecideFetch
  rw [hfetch]
  dsimp only
  rw [if_pos hwaits, hdecided]
  rfl

/-- R162: with the load over, the cells are read. -/
theorem redecideFetch_idle {f : Fetch} {s : State} (hfetch : s.store.fetch = some f) (hwaits : f.source = .afterLoad)
    (hidle : s.store.operation = none) :
    redecideFetch s = modifyStore (fun st => { st with fetch := some { f with source := .cells } }) s := by
  refine redecideFetch_eq hfetch hwaits ?_
  unfold decideSource
  rw [hidle]

/-- R162: with a KEEP ADJUSTMENTS going on to commit, its own page is read from the buffer. -/
theorem redecideFetch_keepCommit {f : Fetch} {c : KeepCapture} {s : State} (hfetch : s.store.fetch = some f)
    (hwaits : f.source = .afterLoad)
    (hcommit : s.store.operation = some { kind := .keepCommit c, begun := true, suspended := false }) :
    redecideFetch s
      = modifyStore (fun st => { st with
          fetch := some { f with source := if c.page = f.page then .buffer s.store.buffer else .cells } }) s := by
  refine redecideFetch_eq hfetch hwaits ?_
  unfold decideSource
  rw [hcommit]

/-- R156, R162: a BUFFER LOAD ends with a fetch waiting for it. -/
theorem endLoad_spec {f : Fetch} {p : Page} {s : State} (hfetch : s.store.fetch = some f)
    (hwaits : f.source = .afterLoad)
    (hload : s.store.operation = some { kind := .load p, begun := true, suspended := false }) :
    (endLoad s).store.operation = none ∧ (endLoad s).store.fetch = some { f with source := .cells }
      ∧ (endLoad s).store.buffer = s.store.image p := by
  have hrunning : runningOperation? s = some (.load p) := by
    unfold runningOperation?
    rw [hload]
    rfl
  unfold endLoad
  rw [hrunning]
  dsimp only
  split
  · rw [redecideFetch_idle (s := faultOperation (loadBuffer p s)) hfetch hwaits rfl]
    exact ⟨rfl, rfl, rfl⟩
  · rw [redecideFetch_idle (s := endOperation .ok (loadBuffer p s)) hfetch hwaits rfl]
    exact ⟨rfl, rfl, rfl⟩

/-- R135, R162: the load step of a KEEP ADJUSTMENTS ends with a fetch waiting for it. -/
theorem endKeepLoad_spec {f : Fetch} {c : KeepCapture} {s : State} (hfetch : s.store.fetch = some f)
    (hwaits : f.source = .afterLoad)
    (hload : s.store.operation = some { kind := .keepLoad c, begun := true, suspended := false }) :
    let t := endKeepLoad s
    (t.store.operation = none → t.store.fetch = some { f with source := .cells })
      ∧ (t.store.operation ≠ none →
        t.store.operation = some { kind := .keepCommit c, begun := true, suspended := false }
          ∧ t.store.fetch
            = some { f with source := if c.page = f.page then .buffer t.store.buffer else .cells }) := by
  have hrunning : runningOperation? s = some (.keepLoad c) := by
    unfold runningOperation?
    rw [hload]
    rfl
  dsimp only
  unfold endKeepLoad
  rw [hrunning]
  let committing : State := modifyStore (fun st => { st with
    buffer := patchBuffer c st.buffer
    operation := some { kind := .keepCommit c, begun := true, suspended := false } }) (loadBuffer c.page s)
  dsimp only
  split
  · rw [redecideFetch_idle (s := faultOperation (loadBuffer c.page s)) hfetch hwaits rfl]
    exact ⟨fun _ => rfl, fun h => absurd rfl h⟩
  · rw [redecideFetch_keepCommit (s := committing) (c := c) hfetch hwaits rfl]
    exact ⟨fun h => absurd h (Option.some_ne_none _), fun _ => ⟨rfl, rfl⟩⟩

/-! ### What FETCH_END comes to (R108, R122, R123) -/

section
variable {same : Bool} {f : Fetch} {tg : Target} {s : State}

theorem exec_fetchEnd (hpower : s.power = true) : exec (.fetchEnd same) s = .next (fetchEnd same s) :=
  powered_of_power hpower

/-- R108: the staged copy of a change whose fetch is in flight. -/
theorem stagedCopy_fetching (hstate : s.change.state = .fetching) (hfetch : s.store.fetch = some f)
    (hstaged : s.change.staged = none) :
    s.stagedCopy = if fetchReading f s then .filling f.page f.scene else .absent := by
  unfold State.stagedCopy
  rw [hstaged, hfetch]
  simp [hstate]

/-- R122: the end of a fetch that ends its change with a fault, and the requests taken after it. -/
theorem fetchEnd_fault {o : ChangeOutcome} {n : Nat} (hpower : s.power = true) (hstate : s.change.state = .fetching)
    (htarget : s.change.target = some tg) (hfetch : s.store.fetch = some f) (hread : beingRead f s)
    (hrun : runFetch f tg.song s = (.fault o, n)) :
    ∃ t, exec (.fetchEnd same) s = .next t
      ∧ QueueTaken s.change.queue (requestEnded o tg.origin (countRepairs n (closeFetch s))) t :=
  ⟨_, (exec_fetchEnd hpower).trans (congrArg _ (doFetchEnd_fault _ hstate htarget hfetch hread hrun)),
    takeNext_endRequest o tg.origin (countRepairs n (closeFetch s))⟩

end

theorem fetchRead_eq (f : Fetch) (song : Bool) (s : State) :
    fetchRead f song s
      = { closeFetch s with
          status :=
            { s.status with
              fetchRepairs :=
                min (s.status.fetchRepairs + (sceneAt (readFrom f s) f.scene).2 + (fetchedHeader f song s).2) 65535 } } := by
  rw [Nat.add_assoc, Nat.add_comm (sceneAt (readFrom f s) f.scene).2]
  rfl

end Sys2Proof.Machine

namespace Sys2Proof
open Machine

/-- Settles O43: a fetch that waits, one that ends its change, one that fills its copy, and one decided again. -/
theorem fetchEnds : Obligations.FetchEnds := by
  refine ⟨fun same f tg s hpower hstate htarget hfetch =>
      ⟨fun hwaits => ⟨?_, fun hstaged => ?_⟩, fun hread hcounters => ?_⟩,
    fun f s hpower hfetch hwaits => ⟨fun p hload => ?_, fun c hload => ?_⟩,
    fun rd => ⟨headerRepaired rd, sceneRepaired rd⟩⟩
  · exact (exec_fetchEnd hpower).trans (congrArg _ (doFetchEnd_waits _ htarget hfetch hwaits))
  · rw [stagedCopy_fetching hstate hfetch hstaged, if_neg fun h => hwaits ((fetchReading_iff f s).mp h)]
  · intro rd count header copy closed read
    obtain ⟨-, -, -, hrepairs⟩ := hcounters
    have hclosed : countRepairs 0 (closeFetch s) = closed := countRepairs_zero hrepairs
    have hend : fetchRead f tg.song s = read := fetchRead_eq f tg.song s
    have hfault (o : ChangeOutcome) (hrun : runFetch f tg.song s = (.fault o, 0)) :
        ∃ t, exec (.fetchEnd same) s = .next t ∧ QueueTaken s.change.queue (requestEnded o tg.origin closed) t := by
      rw [← hclosed]
      exact fetchEnd_fault hpower hstate htarget hfetch hread hrun
    refine ⟨fun hstaged => ?_, fun hclass => ?_, fun hclass => ?_, fun hclass => ?_, fun hclass hbeyond => ?_,
      fun hclass hwithin hrun hpoint => ?_, fun hclass hwithin hnow => ?_⟩
    · rw [stagedCopy_fetching hstate hfetch hstaged, if_pos ((fetchReading_iff f s).mpr hread)]
    · exact hfault _ (by unfold runFetch; rw [fetchClass_eq, hclass])
    · exact hfault _ (by unfold runFetch; rw [fetchClass_eq, hclass])
    · exact hfault _ (by unfold runFetch; rw [fetchClass_eq, hclass])
    · rw [← hend]
      exact fetchEnd_fault hpower hstate htarget hfetch hread (by rw [runFetch_good _ hclass, if_pos hbeyond])
    · refine ⟨?_, rfl⟩
      rw [← hend]
      refine (exec_fetchEnd hpower).trans (congrArg _ ?_)
      exact (doFetchEnd_copy _ hstate htarget hfetch hread hclass hwithin).trans (if_neg (not_or.mpr ⟨hrun, hpoint⟩))
    · have hswitched := switchMade_now (same && s.tempo.boundaryBegan && s.tempo.subTick == 0) copy tg read
      obtain ⟨hpowered, -⟩ := switchedNow_spec hswitched
      refine ⟨_, _, ?_, exec_burstPlace (hpowered.trans hpower), hswitched, switchedNow_placed hswitched rfl ?_⟩
      · rw [← hend]
        refine (exec_fetchEnd hpower).trans (congrArg _ ?_)
        exact doFetchEnd_switch _ hstate htarget hfetch hread hclass hwithin hnow
      · exact Nat.min_le_right ..
  · exact ⟨_, powered_of_power hpower, endLoad_spec hfetch hwaits hload⟩
  · exact ⟨_, powered_of_power hpower, endKeepLoad_spec hfetch hwaits hload⟩

end Sys2Proof
end

section
/-! SUPPORT. Curve memory (R55, R58–R60): the points that WRITE CURVE puts in a partition, and those
that READ CURVE gives. -/

namespace Sys2Proof.Machine

/-! ### Points written (R58, R59) -/

/-- R59: a point from the start point on is the list's, any other as it stood. -/
theorem writePoints_getElem (vs : List Nat) (points : Vector Nat 129) (start : Nat) (j : Fin 129) :
    (writePoints points start vs)[j]
      = if start ≤ j.val ∧ j.val < start + vs.length then vs.getD (j.val - start) 0 else points[j] := by
  induction vs generalizing points start with
  | nil => exact (if_neg (by simp)).symm
  | cons v vs ih =>
    rw [writePoints, ih]
    rcases Nat.lt_trichotomy j.val start with hbefore | hfirst | hafter
    · rw [if_neg (by omega), if_neg (by omega)]
      exact Vector.getElem_setIfInBounds_ne j.isLt (Nat.ne_of_gt hbefore)
    · subst hfirst
      rw [if_neg (by omega), if_pos (by simp)]
      simp
    · have hwithin : (start + 1 ≤ j.val ∧ j.val < start + 1 + vs.length)
          ↔ (start ≤ j.val ∧ j.val < start + (v :: vs).length) := by
        rw [List.length_cons]
        omega
      have hplace : j.val - start = j.val - (start + 1) + 1 := by omega
      have hkept : (points.setIfInBounds start v)[j] = points[j] :=
        Vector.getElem_setIfInBounds_ne j.isLt (Nat.ne_of_lt hafter)
      rw [hplace, List.getD_cons_succ, hkept]
      exact if_congr hwithin rfl rfl

/-- R59, R60: a run of points falls short exactly when it goes past point 128. -/
theorem pointsWritten_lt {start n : Nat} (hstart : start ≤ 128) : pointsWritten start n < n ↔ 129 < start + n := by
  unfold pointsWritten
  omega

section
variable {partition start : Byte} {points : List Half} {s : State}

/-- R58: a WRITE CURVE that a check refuses. -/
theorem opWriteCurve_refused
    (h : partition.toNat = 0 ∨ 15 < partition.toNat ∨ 128 < start.toNat ∨ ∃ v ∈ points, 1023 < v.toNat) :
    opWriteCurve partition start points s = (s, { outcome := .range, data := [0#8] }) := by
  unfold opWriteCurve
  by_cases hpartition : 1 ≤ partition.toNat ∧ partition.toNat ≤ 15
  · have hchecks : 128 < start.toNat ∨ points.any (fun v => 1023 < v.toNat) := by
      rcases h with h | h | h | ⟨v, hv, hlarge⟩
      · omega
      · omega
      · exact .inl h
      · exact .inr (List.any_eq_true.mpr ⟨v, hv, decide_eq_true hlarge⟩)
    rw [dif_pos hpartition, if_pos hchecks]
  · rw [dif_neg hpartition]

/-- R59: a WRITE CURVE that passes its checks. -/
theorem opWriteCurve_written {n : Fin 15} (hpartition : partition.toNat = n.val + 1) (hstart : start.toNat ≤ 128)
    (hvalues : ∀ v ∈ points, v.toNat ≤ 1023) :
    opWriteCurve partition start points s
      = (s.setCurves (upd s.curves n fun old => writePoints old start.toNat (points.map BitVec.toNat)),
          { outcome := if 129 < start.toNat + points.length then .range else .ok
            data := [natByte (pointsWritten start.toNat points.length)] }) := by
  have hinside : 1 ≤ partition.toNat ∧ partition.toNat ≤ 15 := by omega
  have hn : (⟨partition.toNat - 1, by omega⟩ : Fin 15) = n := Fin.ext (by dsimp only; omega)
  have hchecks : ¬(128 < start.toNat ∨ points.any (fun v => 1023 < v.toNat)) := by
    rintro (h | h)
    · omega
    · obtain ⟨v, hv, hlarge⟩ := List.any_eq_true.mp h
      exact absurd (of_decide_eq_true hlarge) (Nat.not_lt.mpr (hvalues v hv))
  unfold opWriteCurve
  rw [dif_pos hinside, if_neg hchecks]
  simp only [hn, pointsWritten_lt hstart]

theorem exec_writeCurve_ready {h : Head} (hready : Ready h s) (hlength : points.length ≤ 28) :
    exec (.writeCurve h partition start points) s
      = .next (replied h 0x19#8 (opWriteCurve partition start points s).2.outcome
          (opWriteCurve partition start points s).2.data (opWriteCurve partition start points s).1) :=
  serve_of_ready (r := .writeCurve partition start points) hready (decide_eq_true hlength)
    (.inl (show (0x19#8 : Byte) ≠ restartCode by decide))

end

/-! ### Points given (R55, R60) -/

theorem curvePoints_zero (s : State) : curvePoints s 0 = (List.range 129).map fun i => min (8 * i) 1023 := rfl

/-- R55: a point given of partition 0 is the straight line's. -/
theorem curvePoints_zero_getD (s : State) {i : Nat} (h : i < 129) : (curvePoints s 0).getD i 0 = min (8 * i) 1023 := by
  simp [curvePoints_zero, h]

theorem curvePoints_succ (s : State) (n : Fin 15) : curvePoints s (n.val + 1) = s.curves[n].toList := by
  unfold curvePoints
  simp

theorem curvePoints_length (s : State) {partition : Nat} (h : partition ≤ 15) :
    (curvePoints s partition).length = 129 := by
  cases partition with
  | zero => rw [curvePoints_zero, List.length_map, List.length_range]
  | succ n => rw [curvePoints_succ s ⟨n, h⟩, Vector.length_toList]

/-- A run of a list's places, read place by place. -/
theorem take_drop_eq_map_range (l : List Nat) (start count : Nat) :
    (l.drop start).take count
      = (List.range (min count (l.length - start))).map fun j => l.getD (start + j) 0 := by
  refine List.ext_getElem (by simp) fun j hj _ => ?_
  have hplace : start + j < l.length := by simp at hj; omega
  rw [List.getElem_take, List.getElem_drop, List.getElem_map, List.getElem_range, List.getD_eq_getElem _ _ hplace]

section
variable {partition start count : Byte} {s : State}

/-- R60: a READ CURVE that asks for what there is not. -/
theorem opReadCurve_refused
    (h : 15 < partition.toNat ∨ 128 < start.toNat ∨ count.toNat = 0 ∨ 28 < count.toNat) :
    opReadCurve partition start count s = (s, { outcome := .range, data := [0#8] }) := by
  unfold opReadCurve
  exact if_pos (by omega)

/-- R60: a READ CURVE that is answered. -/
theorem opReadCurve_given (hpartition : partition.toNat ≤ 15) (hstart : start.toNat ≤ 128) (hone : 1 ≤ count.toNat)
    (hcount : count.toNat ≤ 28) :
    opReadCurve partition start count s
      = (s, { outcome := if 129 < start.toNat + count.toNat then .range else .ok
              data := natByte (pointsWritten start.toNat count.toNat)
                :: (List.range (pointsWritten start.toNat count.toNat)).flatMap fun j =>
                  natBytes ((curvePoints s partition.toNat).getD (start.toNat + j) 0) }) := by
  have hrun : ((curvePoints s partition.toNat).drop start.toNat).take count.toNat
      = (List.range (pointsWritten start.toNat count.toNat)).map fun j =>
          (curvePoints s partition.toNat).getD (start.toNat + j) 0 := by
    rw [take_drop_eq_map_range, curvePoints_length s hpartition]
    rfl
  unfold opReadCurve
  rw [if_neg (by omega)]
  simp only [hrun, List.length_map, List.length_range, List.flatMap_map, pointsWritten_lt hstart]

theorem exec_readCurve_ready {h : Head} (hready : Ready h s) :
    exec (.readCurve h partition start count) s
      = .next (replied h 0x18#8 (opReadCurve partition start count s).2.outcome
          (opReadCurve partition start count s).2.data (opReadCurve partition start count s).1) :=
  serve_of_ready (r := .readCurve partition start count) hready rfl
    (.inl (show (0x18#8 : Byte) ≠ restartCode by decide))

end

end Sys2Proof.Machine

namespace Sys2Proof
open Machine

/-- Settles O32: each request is one of the two answers its checks choose between, and the points written are read place
by place. -/
theorem curveWriteAndRead : Obligations.CurveWriteAndRead := by
  refine ⟨fun h partition start points s hready hlength => ⟨fun hrefused => ?_, fun n hn hstart hvalues => ?_⟩,
    fun h partition start count s hready =>
      ⟨fun hrefused => ?_, fun hstart hone hcount => ⟨fun hzero => ?_, fun n hn => ?_⟩⟩⟩
  · rw [exec_writeCurve_ready hready hlength, opWriteCurve_refused hrefused]
  · refine ⟨upd s.curves n fun old => writePoints old start.toNat (points.map BitVec.toNat), ?_, fun m hm => ?_,
      fun j => ?_⟩
    · rw [exec_writeCurve_ready hready hlength, opWriteCurve_written hn hstart hvalues]
      rfl
    · rw [upd_getElem, if_neg hm]
    · rw [upd_getElem, if_pos rfl, writePoints_getElem, List.length_map]
  · rw [exec_readCurve_ready hready, opReadCurve_refused hrefused]
  · have hline : ∀ j ∈ List.range (pointsWritten start.toNat count.toNat),
        natBytes ((curvePoints s 0).getD (start.toNat + j) 0) = natBytes (min (8 * (start.toNat + j)) 1023) := by
      intro j hj
      have hgiven : j < min count.toNat (129 - start.toNat) := List.mem_range.mp hj
      rw [curvePoints_zero_getD s (by omega)]
    rw [exec_readCurve_ready hready, opReadCurve_given (by omega) hstart hone hcount, hzero, List.flatMap_congr hline]
    rfl
  · rw [exec_readCurve_ready hready, opReadCurve_given (by omega) hstart hone hcount, hn, curvePoints_succ]
    rfl

end Sys2Proof
end

section
/-! SUPPORT. The clock's ranges (R82, R89, R90) past one BEAT_BOUNDARY: `ClockInv` says of the change controller only that
its copies have a count-in of at most 4. -/

namespace Sys2Proof.Machine

/-! ### A boundary that switches to nothing (R124) -/

/-- A clock that ends beat 2 of a bar of 4, its slot in effect rewritten to a meter of 1, and a song change that is WAITING
with no copy staged. -/
def waitingUnstaged : State :=
  { State.reset with
    tempo :=
      { State.reset.tempo with
        slots := State.reset.tempo.slots.set 0 { TempoRecord.default with meter := 1 }
        clock := .running, beat := 2, subTick := 959 }
    change :=
      { State.reset.change with
        state := .waiting, target := some { entry := 1, scene := 1, song := true, origin := .service, page := 0 } }
    pending := [.beatBoundary] }

theorem waitingUnstaged_clockInv : ClockInv waitingUnstaged := by
  refine ⟨fun i => ?_, by decide, by decide, by decide, by decide, by decide, by decide, by decide, by decide, by decide,
    by decide, fun _ => rfl, by decide, fun c hc => ?_⟩
  · have hslots : ∀ i : Slot, 4000 ≤ waitingUnstaged.tempo.slots[i].t ∧ waitingUnstaged.tempo.slots[i].t ≤ 30000
        ∧ 4000 ≤ waitingUnstaged.tempo.slots[i].tEnd ∧ waitingUnstaged.tempo.slots[i].tEnd ≤ 30000
        ∧ 1 ≤ waitingUnstaged.tempo.slots[i].rampBars ∧ waitingUnstaged.tempo.slots[i].rampBars ≤ 64
        ∧ 1 ≤ waitingUnstaged.tempo.slots[i].meter ∧ waitingUnstaged.tempo.slots[i].meter ≤ 16 := by decide
    exact hslots i
  · cases hc

/-- R89, R96: a boundary that meets the change point takes the meter of the song change, whose switch, and with it the
position reset, is not made without a staged copy: beat 3 begins under meter 1. -/
theorem waitingUnstaged_step : ∃ t, step waitingUnstaged = .next t ∧ t.tempo.beat = 3 ∧ t.tempo.meter = 1 :=
  ⟨_, rfl, by decide, by decide⟩

/-- Refutes O58: `ClockInv` admits a song change that is WAITING with no copy staged, a state that no run from reset
reaches, and from there a BEAT_BOUNDARY in mid-bar takes the meter of the slot in effect without beginning a bar. -/
theorem not_clockKept : ¬ Obligations.ClockKept := by
  intro h
  obtain ⟨t, hstep, hbeat, hmeter⟩ := waitingUnstaged_step
  obtain ⟨-, -, -, -, -, -, -, -, hwithin, -⟩ := h waitingUnstaged t waitingUnstaged_clockInv hstep
  omega

end Sys2Proof.Machine
end

section
/-! SUPPORT. Sub-ticks (R81, R94, R95, R99, R103–R105): the Clicks that the feeds decide as a sub-tick begins, the sub-tick
itself, and the length of a beat. -/

namespace Sys2Proof.Machine

/-! ### Clicks decided ahead (R94, R95, R103–R105) -/

/-- R94, R95, R104: the Click of sub-tick 0 of the coming beat, in a clock that runs. -/
theorem click_nextBeat (f : Port) {s : State} (h : s.tempo.clock ≠ .stopped) :
    Frame.click (portByte f) (pointHere (nextBeat s.countIn s.tempo)).accent
        (BitVec.ofNat 16 (pointHere (nextBeat s.countIn s.tempo)).bar)
        (BitVec.ofNat 8 (pointHere (nextBeat s.countIn s.tempo)).beat)
      = nextBeatClick f s := by
  rw [click_pointHere]
  unfold nextBeatClick nextBeat State.countIn
  by_cases hwraps : s.tempo.meter < s.tempo.beat + 1
  · have hlast : ¬s.tempo.beat + 1 ≤ s.tempo.meter := Nat.not_le.mpr hwraps
    cases hclock : s.tempo.clock with
    | stopped => exact absurd hclock h
    | running => simp [hwraps, hlast]
    | countIn =>
      by_cases hmore : s.tempo.countInBar < s.change.active.header.countIn
      · simp [hwraps, hlast, hmore, beatClick]
      · simp [hwraps, hlast, hmore]
  · have hlast : s.tempo.beat + 1 ≤ s.tempo.meter := Nat.not_lt.mp hwraps
    cases hclock : s.tempo.clock with
    | stopped => exact absurd hclock h
    | running => simp [hwraps, hlast]
    | countIn => simp [hwraps, hlast]

/-- R104: the Click of a point between beats. -/
theorem click_pointBetween (f : Port) (t : Tempo) :
    Frame.click (portByte f) (pointBetween t).accent (BitVec.ofNat 16 (pointBetween t).bar)
        (BitVec.ofNat 8 (pointBetween t).beat)
      = .click (BitVec.ofNat 8 (f.val + 1)) (if decide (t.clock = .countIn) = true then 3#8 else 0#8)
          (BitVec.ofNat 16 (if decide (t.clock = .countIn) = true then 0 else t.bar)) (BitVec.ofNat 8 t.beat) := by
  unfold pointBetween portByte
  cases t.clock <;> rfl

/-- R103: what a feed holds once its click decision of sub-tick x has been made. -/
def feedDecided (x : Nat) (s : State) (f : Port) : FeedState :=
  if s.settings.feeds[f].enabled = true ∧ s.tempo.feeds[f].override ≠ .silent then
    if x + s.settings.feeds[f].lead = 960 then { s.tempo.feeds[f] with nextPlaced := true }
    else if x + s.settings.feeds[f].lead = 0 then { s.tempo.feeds[f] with beatPlaced := true }
    else s.tempo.feeds[f]
  else s.tempo.feeds[f]

theorem feedDecided_override (x : Nat) (s : State) (f : Port) :
    (feedDecided x s f).override = s.tempo.feeds[f].override := by
  unfold feedDecided
  split_ifs <;> rfl

/-- The Clicks that feeds of a list give OUTq as sub-tick x begins. -/
def decidedFrames (x : Nat) (s : State) (feeds : List Port) (q : Port) : List Frame :=
  feeds.filterMap fun f => if s.settings.feeds[f].dest = q then clickOf x f s else none

theorem subTickFrames_eq (x : Nat) (s : State) (q : Port) :
    subTickFrames x s q
      = (if s.settings.outbound[q].tickOut = true ∧ x % 20 = 0 then [.beatTick] else [])
        ++ decidedFrames x s (List.finRange 8) q := rfl

theorem decidedFrames_cons (x : Nat) (s : State) (f : Port) (feeds : List Port) (q : Port) :
    decidedFrames x s (f :: feeds) q = decidedFrames x s [f] q ++ decidedFrames x s feeds q :=
  List.filterMap_append (l := [f])

theorem decidedFrames_singleton (x : Nat) (s : State) (f q : Port) :
    decidedFrames x s [f] q = if s.settings.feeds[f].dest = q then (clickOf x f s).toList else [] := by
  unfold decidedFrames
  rw [List.filterMap_cons, List.filterMap_nil]
  split_ifs with hq
  · cases clickOf x f s <;> rfl
  · rfl

/-- What a click decision depends on. -/
theorem decidedFrames_congr {x : Nat} {s s' : State} {feeds : List Port} {v : Vector FeedState 8}
    (hsettings : s'.settings = s.settings) (hchange : s'.change = s.change)
    (htempo : s'.tempo = { s.tempo with feeds := v }) (hoverride : ∀ f : Port, v[f].override = s.tempo.feeds[f].override)
    (q : Port) : decidedFrames x s' feeds q = decidedFrames x s feeds q := by
  refine List.filterMap_congr fun f _ => ?_
  unfold clickOf nextBeatClick
  rw [hsettings, hchange, htempo]
  dsimp only
  rw [hoverride]

/-- R103: one frame offered at a feed's destination. -/
theorem offerClick_eq (f : Port) (c : ClickPoint) (s : State) :
    offerClick f c s
      = offeredTiming
          (fun q => if s.settings.feeds[f].dest = q then
            [.click (portByte f) c.accent (BitVec.ofNat 16 c.bar) (BitVec.ofNat 8 c.beat)] else []) s := by
  unfold offerClick
  rw [offerTiming_eq]
  simp only [eq_comm]

/-- A feed marked is the feeds' table with one place changed. -/
theorem modifyFeed_offered (f : Port) (g : FeedState → FeedState) (frames : Port → List Frame) (s : State) :
    modifyFeed f g (offeredTiming frames s)
      = offeredTiming frames (s.setTempo { s.tempo with feeds := upd s.tempo.feeds f g }) := rfl

/-- R105: a feed that is disabled or SILENT decides nothing. -/
theorem decideClick_off {s : State} {f : Port}
    (h : ¬(s.settings.feeds[f].enabled = true ∧ s.tempo.feeds[f].override ≠ .silent)) : decideClick s f = s := by
  unfold decideClick
  dsimp only
  cases henabled : s.settings.feeds[f].enabled with
  | false => rfl
  | true =>
    have hsilent : s.tempo.feeds[f].override = .silent := by
      by_contra hsounds
      exact h ⟨henabled, hsounds⟩
    rw [hsilent]
    simp

section Decision
variable {s : State} {f : Port} (henabled : s.settings.feeds[f].enabled = true)
  (hsounds : s.tempo.feeds[f].override ≠ .silent)
include henabled hsounds

/-- R103: the click decision of a feed that sounds, by the point that lies its lead ahead. -/
theorem decideClick_on :
    decideClick s f
      = if s.tempo.subTick + s.settings.feeds[f].lead = 960 then
          modifyFeed f (fun y => { y with nextPlaced := true })
            (offerClick f (pointHere (nextBeat s.countIn s.tempo)) s)
        else if 960 < s.tempo.subTick + s.settings.feeds[f].lead
            ∨ (s.tempo.subTick + s.settings.feeds[f].lead) % (960 / s.settings.feeds[f].subdivision) ≠ 0 then s
        else if s.tempo.subTick + s.settings.feeds[f].lead = 0 then
          modifyFeed f (fun y => { y with beatPlaced := true }) (offerClick f (pointHere s.tempo) s)
        else if s.tempo.feeds[f].override = .normal then offerClick f (pointBetween s.tempo) s
        else s := by
  unfold decideClick
  dsimp only
  generalize s.tempo.subTick + s.settings.feeds[f].lead = n
  rw [henabled, if_neg (by decide), if_neg hsounds, if_neg hsounds]
  by_cases hnext : n = 960
  · rw [if_pos hnext, if_pos hnext]
  · rw [if_neg hnext, if_neg hnext]
    by_cases hoff : 960 < n ∨ n % (960 / s.settings.feeds[f].subdivision) ≠ 0
    · rw [if_pos hoff, if_neg]
      simp only [Bool.and_eq_true, decide_eq_true_eq, beq_iff_eq]
      omega
    · rw [if_neg hoff, if_pos]
      simp only [Bool.and_eq_true, decide_eq_true_eq, beq_iff_eq]
      omega

theorem clickOf_on (x : Nat) :
    clickOf x f s
      = if x + s.settings.feeds[f].lead = 960 then some (nextBeatClick f s)
        else if 960 < x + s.settings.feeds[f].lead
            ∨ (x + s.settings.feeds[f].lead) % (960 / s.settings.feeds[f].subdivision) ≠ 0 then none
        else if x + s.settings.feeds[f].lead = 0 then
          some (beatClick f (s.tempo.clock = .countIn) s.tempo.bar s.tempo.beat)
        else if s.tempo.feeds[f].override = .normal then
          some (.click (BitVec.ofNat 8 (f.val + 1)) (if decide (s.tempo.clock = .countIn) = true then 3#8 else 0#8)
            (BitVec.ofNat 16 (if decide (s.tempo.clock = .countIn) = true then 0 else s.tempo.bar))
            (BitVec.ofNat 8 s.tempo.beat))
        else none :=
  if_neg fun hoff => hoff.elim (by rw [henabled]; decide) hsounds

theorem feedDecided_on (x : Nat) :
    feedDecided x s f
      = if x + s.settings.feeds[f].lead = 960 then { s.tempo.feeds[f] with nextPlaced := true }
        else if x + s.settings.feeds[f].lead = 0 then { s.tempo.feeds[f] with beatPlaced := true }
        else s.tempo.feeds[f] :=
  if_pos ⟨henabled, hsounds⟩

end Decision

theorem clickOf_off {s : State} {f : Port} (x : Nat)
    (h : ¬(s.settings.feeds[f].enabled = true ∧ s.tempo.feeds[f].override ≠ .silent)) : clickOf x f s = none := by
  refine if_pos ?_
  by_cases hsilent : s.tempo.feeds[f].override = .silent
  · exact .inr hsilent
  · exact .inl (Bool.eq_false_iff.mpr fun henabled => h ⟨henabled, hsilent⟩)

/-- The part with what one feed holds replaced. -/
def withFeed (f : Port) (a : FeedState) (s : State) : State :=
  s.setTempo { s.tempo with feeds := upd s.tempo.feeds f fun _ => a }

theorem withFeed_self (f : Port) (s : State) : withFeed f s.tempo.feeds[f] s = s := by
  have hfeeds : upd s.tempo.feeds f (fun _ => s.tempo.feeds[f]) = s.tempo.feeds := Vector.set_getElem_self ..
  unfold withFeed
  rw [hfeeds]
  rfl

theorem decidedFrames_none {x : Nat} {s : State} {f : Port} (h : clickOf x f s = none) :
    decidedFrames x s [f] = fun _ => [] := by
  funext q
  rw [decidedFrames_singleton, h]
  exact ite_self _

theorem decidedFrames_some {x : Nat} {s : State} {f : Port} {c : ClickPoint}
    (h : clickOf x f s = some (.click (portByte f) c.accent (BitVec.ofNat 16 c.bar) (BitVec.ofNat 8 c.beat))) :
    offerClick f c s = offeredTiming (decidedFrames x s [f]) s := by
  rw [offerClick_eq]
  refine congrArg (offeredTiming · s) (funext fun q => ?_)
  rw [decidedFrames_singleton, h]
  rfl

/-- R103–R105: the click decision of one feed, in a clock that runs. -/
theorem decideClick_eq {s : State} (h : s.tempo.clock ≠ .stopped) (f : Port) :
    decideClick s f
      = offeredTiming (decidedFrames s.tempo.subTick s [f]) (withFeed f (feedDecided s.tempo.subTick s f) s) := by
  let x := s.tempo.subTick
  have hnone (hclick : clickOf x f s = none) (hfeed : feedDecided x s f = s.tempo.feeds[f]) :
      s = offeredTiming (decidedFrames x s [f]) (withFeed f (feedDecided x s f) s) := by
    rw [decidedFrames_none hclick, offeredTiming_none, hfeed, withFeed_self]
  by_cases hsounds : s.settings.feeds[f].enabled = true ∧ s.tempo.feeds[f].override ≠ .silent
  · obtain ⟨henabled, hsounds⟩ := hsounds
    have hclick := clickOf_on henabled hsounds x
    have hfeed := feedDecided_on henabled hsounds x
    rw [decideClick_on henabled hsounds]
    by_cases hnext : x + s.settings.feeds[f].lead = 960
    · rw [if_pos hnext] at hclick hfeed ⊢
      rw [decidedFrames_some (hclick.trans (congrArg some (click_nextBeat f h).symm)), modifyFeed_offered, hfeed]
      rfl
    · rw [if_neg hnext] at hclick hfeed ⊢
      by_cases hoff : 960 < x + s.settings.feeds[f].lead
          ∨ (x + s.settings.feeds[f].lead) % (960 / s.settings.feeds[f].subdivision) ≠ 0
      · rw [if_pos hoff] at hclick ⊢
        rw [if_neg fun hzero => by rw [hzero] at hoff; simp at hoff] at hfeed
        exact hnone hclick hfeed
      · rw [if_neg hoff] at hclick ⊢
        by_cases hzero : x + s.settings.feeds[f].lead = 0
        · rw [if_pos hzero] at hclick hfeed ⊢
          rw [decidedFrames_some (hclick.trans (congrArg some (click_pointHere f s.tempo).symm)), modifyFeed_offered,
            hfeed]
          rfl
        · rw [if_neg hzero] at hclick hfeed ⊢
          by_cases hnormal : s.tempo.feeds[f].override = .normal
          · rw [if_pos hnormal] at hclick ⊢
            rw [decidedFrames_some (hclick.trans (congrArg some (click_pointBetween f s.tempo).symm)), hfeed,
              withFeed_self]
          · rw [if_neg hnormal] at hclick ⊢
            exact hnone hclick hfeed
  · rw [decideClick_off hsounds]
    exact hnone (clickOf_off x hsounds) (if_neg hsounds)

/-- What the feeds hold once those of a list have made their click decisions of sub-tick x. -/
def feedsDecided (x : Nat) (s : State) (feeds : List Port) : Vector FeedState 8 :=
  Vector.ofFn fun f => if f ∈ feeds then feedDecided x s f else s.tempo.feeds[f]

theorem feedsDecided_override (x : Nat) (s : State) (feeds : List Port) (f : Port) :
    (feedsDecided x s feeds)[f].override = s.tempo.feeds[f].override := by
  rw [feedsDecided, getElem_ofFn]
  split
  · exact feedDecided_override x s f
  · rfl

/-- R103–R105: the click decisions of a sub-tick, in feed order, in a clock that runs. -/
theorem decideClicks_eq {s : State} (h : s.tempo.clock ≠ .stopped) :
    decideClicks s
      = offeredTiming (decidedFrames s.tempo.subTick s (List.finRange 8))
          (s.setTempo { s.tempo with feeds := feedsDecided s.tempo.subTick s (List.finRange 8) }) := by
  suffices hlist : ∀ (l : List Port) (s : State), s.tempo.clock ≠ .stopped → l.Nodup →
      l.foldl decideClick s
        = offeredTiming (decidedFrames s.tempo.subTick s l)
            (s.setTempo { s.tempo with feeds := feedsDecided s.tempo.subTick s l }) from
    hlist _ s h (List.nodup_finRange 8)
  intro l
  induction l with
  | nil =>
    intro s _ _
    have hfeeds : feedsDecided s.tempo.subTick s [] = s.tempo.feeds := by
      simp only [feedsDecided, List.not_mem_nil, if_false, ofFn_getElem]
    rw [hfeeds]
    exact (offeredTiming_none s).symm
  | cons f l ih =>
    intro s hruns hl
    obtain ⟨hf, hl⟩ := List.nodup_cons.mp hl
    let x := s.tempo.subTick
    let v := upd s.tempo.feeds f fun _ => feedDecided x s f
    let first := offeredTiming (decidedFrames x s [f]) (withFeed f (feedDecided x s f) s)
    have hothers (g : Port) (hg : g ≠ f) : v[g] = s.tempo.feeds[g] := by rw [upd_getElem, if_neg hg]
    have hoverride (g : Port) : v[g].override = s.tempo.feeds[g].override := by
      by_cases hg : g = f
      · rw [upd_getElem, if_pos hg, hg, feedDecided_override]
      · rw [hothers g hg]
    have hfeeds : feedsDecided x first l = feedsDecided x s (f :: l) := by
      unfold feedsDecided
      congr 1
      funext g
      by_cases hg : g = f
      · have hfirst : first.tempo.feeds[g] = feedDecided x s f := (upd_getElem ..).trans (if_pos hg)
        rw [if_neg (hg ▸ hf), if_pos (List.mem_cons.mpr (.inl hg)), hfirst, hg]
      · have hsame : feedDecided x first g = feedDecided x s g := by
          unfold feedDecided
          rw [show first.tempo.feeds[g] = s.tempo.feeds[g] from hothers g hg]
          rfl
        rw [hsame, show first.tempo.feeds[g] = s.tempo.feeds[g] from hothers g hg]
        simp only [List.mem_cons, hg, false_or]
    have hframes : (fun q => decidedFrames x s [f] q ++ decidedFrames x first l q) = decidedFrames x s (f :: l) := by
      funext q
      rw [decidedFrames_cons x s f l, decidedFrames_congr (s := s) (s' := first) rfl rfl rfl hoverride]
    rw [List.foldl_cons, decideClick_eq hruns, ih first hruns hl, show first.tempo.subTick = x from rfl, hfeeds,
      ← hframes, ← offeredTiming_offeredTiming]
    rfl

end Sys2Proof.Machine
end

section
/-! SUPPORT. Sub-ticks and beats (R81, R82, R99–R105): SUB_TICK in the statements' terms, the length of a beat, and the tempo
of the beats of a RAMP. -/

namespace Sys2Proof.Machine

/-! ### A sub-tick begins (R99, R103) -/

/-- R99, R100: the Beat Tick of a sub-tick. -/
theorem offerTick_eq (s : State) :
    offerTick s
      = offeredTiming
          (fun q => if s.settings.outbound[q].tickOut = true ∧ s.tempo.subTick % 20 = 0 then [.beatTick] else []) s := by
  unfold offerTick
  by_cases htick : s.tempo.subTick % 20 = 0
  · rw [if_pos htick, offerTickOut_eq]
    simp only [htick, and_true]
  · rw [if_neg htick]
    simp only [htick, and_false, if_false, offeredTiming_none]

/-- R99, R100, R103: the Beat Tick of a sub-tick, and then its Clicks, in a clock that runs. -/
theorem decideClicks_offerTick {s : State} (h : s.tempo.clock ≠ .stopped) :
    decideClicks (offerTick s)
      = offeredTiming (subTickFrames s.tempo.subTick s)
          (s.setTempo { s.tempo with feeds := feedsDecided s.tempo.subTick s (List.finRange 8) }) := by
  let ticks (q : Port) : List Frame :=
    if s.settings.outbound[q].tickOut = true ∧ s.tempo.subTick % 20 = 0 then [.beatTick] else []
  have hframes : decidedFrames s.tempo.subTick (offeredTiming ticks s) (List.finRange 8)
      = decidedFrames s.tempo.subTick s (List.finRange 8) := rfl
  have hfeeds : feedsDecided s.tempo.subTick (offeredTiming ticks s) (List.finRange 8)
      = feedsDecided s.tempo.subTick s (List.finRange 8) := rfl
  rw [offerTick_eq, decideClicks_eq (s := offeredTiming ticks s) h, offeredTiming_tempo, hframes, hfeeds,
    offeredTiming_setTempo, offeredTiming_offeredTiming]
  rfl

theorem doSubTick_idle {s : State} (h : s.tempo.clock = .stopped ∨ 959 ≤ s.tempo.subTick) : doSubTick s = s :=
  if_neg fun ⟨hruns, hbefore⟩ => h.elim hruns (Nat.not_le.mpr hbefore)

/-- R81: the tempo engine as a sub-tick other than 0 begins, with what its feeds hold. -/
def nextSubTick (t : Tempo) (feeds : Vector FeedState 8) : Tempo :=
  { t with
    subTick := t.subTick + 1, accumulator := (subTickOf t.accumulator t.tempo).1
    units := (subTickOf t.accumulator t.tempo).2, feeds := feeds }

theorem doSubTick_eq {s : State} (hruns : s.tempo.clock ≠ .stopped) (hbefore : s.tempo.subTick < 959) :
    doSubTick s
      = offeredTiming (subTickFrames (s.tempo.subTick + 1) s)
          (s.setTempo (nextSubTick s.tempo (feedsDecided (s.tempo.subTick + 1) s (List.finRange 8)))) := by
  let begun : State := s.setTempo (nextSubTick s.tempo s.tempo.feeds)
  have hbegun : modifyTempo (fun t => stepAccumulator { t with subTick := t.subTick + 1 }) s = begun := by
    unfold modifyTempo
    dsimp only
    rw [stepAccumulator_eq]
    rfl
  have hdo : doSubTick s
      = decideClicks (offerTick (modifyTempo (fun t => stepAccumulator { t with subTick := t.subTick + 1 }) s)) :=
    if_pos ⟨hruns, hbefore⟩
  rw [hdo, hbegun, decideClicks_offerTick (show begun.tempo.clock ≠ .stopped from hruns)]
  rfl

/-- R81: one step of the accumulator. -/
theorem subTickOf_eq (accumulator tempo : Nat) :
    subTickOf accumulator tempo
      = (if tempo ≤ accumulator + 100000000 % tempo then accumulator + 100000000 % tempo - tempo
          else accumulator + 100000000 % tempo,
        100000000 / tempo + if tempo ≤ accumulator + 100000000 % tempo then 1 else 0) := by
  unfold subTickOf
  split <;> rfl

/-- R103, R105: past sub-tick 0 a click decision marks the click of the next beat alone. -/
theorem feedsDecided_succ (x : Nat) (s : State) :
    feedsDecided (x + 1) s (List.finRange 8)
      = Vector.ofFn fun f : Port =>
          if s.settings.feeds[f].enabled = true ∧ s.tempo.feeds[f].override ≠ .silent
              ∧ x + 1 + s.settings.feeds[f].lead = 960 then
            { s.tempo.feeds[f] with nextPlaced := true }
          else s.tempo.feeds[f] := by
  unfold feedsDecided
  congr 1
  funext f
  rw [if_pos (List.mem_finRange f)]
  unfold feedDecided
  rw [if_neg (show ¬x + 1 + s.settings.feeds[f].lead = 0 by omega)]
  simp only [← and_assoc, ite_and]

theorem beatOutput_iff (s : State) : s.beatOutput = true ↔ s.tempo.clock ≠ .stopped ∧ s.tempo.subTick < 240 := by
  simp [State.beatOutput]

/-- Settles O20: past sub-tick 0 a click decision marks the next beat's click alone. -/
theorem subTick : Obligations.SubTick := by
  refine ⟨fun s hpower => ⟨fun hidle => ?_, fun hruns hbefore => ?_⟩, beatOutput_iff⟩
  · rw [show exec .subTick s = .next (doSubTick s) from powered_of_power hpower, doSubTick_idle hidle]
  · rw [show exec .subTick s = .next (doSubTick s) from powered_of_power hpower, doSubTick_eq hruns hbefore]
    unfold nextSubTick
    rw [subTickOf_eq, feedsDecided_succ]
    rfl

/-! ### The length of a beat (R81) -/

/-- R81: the units of n sub-ticks that begin with the accumulator below T, on top of what it holds. -/
theorem subTickUnits_eq (n : Nat) {s : State} (hpower : s.power = true) (hruns : s.tempo.clock ≠ .stopped)
    (hrest : s.tempo.subTick + n ≤ 959) (hbelow : s.tempo.accumulator < s.tempo.tempo) :
    subTickUnits n s
      = n * (100000000 / s.tempo.tempo)
        + (s.tempo.accumulator + n * (100000000 % s.tempo.tempo)) / s.tempo.tempo := by
  induction n generalizing s with
  | zero =>
    rw [Nat.zero_mul, Nat.zero_mul, Nat.add_zero, Nat.div_eq_of_lt hbelow]
    rfl
  | succ n ih =>
    have hr : 100000000 % s.tempo.tempo < s.tempo.tempo := Nat.mod_lt _ (by omega)
    let next := offeredTiming (subTickFrames (s.tempo.subTick + 1) s)
      (s.setTempo (nextSubTick s.tempo (feedsDecided (s.tempo.subTick + 1) s (List.finRange 8))))
    have hstep : exec .subTick s = .next next := by
      rw [show exec .subTick s = .next (doSubTick s) from powered_of_power hpower, doSubTick_eq hruns (by omega)]
    have haccumulator : next.tempo.accumulator = (subTickOf s.tempo.accumulator s.tempo.tempo).1 := rfl
    have hunits : next.tempo.units = (subTickOf s.tempo.accumulator s.tempo.tempo).2 := rfl
    have hbelow' : next.tempo.accumulator < next.tempo.tempo := by
      rw [haccumulator, subTickOf_eq]
      show (if s.tempo.tempo ≤ _ then _ else _) < s.tempo.tempo
      split <;> omega
    have hsum : subTickUnits (n + 1) s = next.tempo.units + subTickUnits n next := by
      rw [subTickUnits, hstep]
    rw [hsum, ih (s := next) hpower hruns (show s.tempo.subTick + 1 + n ≤ 959 by omega) hbelow', hunits, haccumulator,
      show next.tempo.tempo = s.tempo.tempo from rfl, subTickOf_eq, Nat.succ_mul, Nat.succ_mul]
    generalize 100000000 % s.tempo.tempo = r at hr
    generalize 100000000 / s.tempo.tempo = q
    dsimp only
    by_cases hcarry : s.tempo.tempo ≤ s.tempo.accumulator + r
    · have hmore : s.tempo.accumulator + (n * r + r)
          = s.tempo.accumulator + r - s.tempo.tempo + n * r + s.tempo.tempo := by omega
      rw [if_pos hcarry, if_pos hcarry, hmore, Nat.add_div_right _ (by omega)]
      omega
    · have hmore : s.tempo.accumulator + (n * r + r) = s.tempo.accumulator + r + n * r := by omega
      rw [if_neg hcarry, if_neg hcarry, hmore]
      omega

/-! ### The tempo of a beat (R82) -/

theorem beatTempo_steady {r : TempoRecord} (h : r.form = .steady) (k : Nat) : beatTempo r k = r.t := by
  unfold beatTempo
  rw [h]

theorem beatTempo_ramp_end {r : TempoRecord} {k : Nat} (h : r.form = .ramp) (hk : r.rampBars * r.meter ≤ k) :
    beatTempo r k = r.tEnd := by
  unfold beatTempo
  rw [h]
  exact if_pos hk

theorem beatTempo_ramp {r : TempoRecord} {k : Nat} (h : r.form = .ramp) (hk : k < r.rampBars * r.meter) :
    beatTempo r k = ((r.t : Int) + (((r.tEnd : Int) - r.t) * k).tdiv (r.rampBars * r.meter : Nat)).toNat := by
  unfold beatTempo
  rw [h]
  exact if_neg (Nat.not_le.mpr hk)

theorem beatTempo_rising {r : TempoRecord} {k : Nat} (h : r.form = .ramp) (hk : k < r.rampBars * r.meter)
    (hrises : r.t ≤ r.tEnd) : beatTempo r k = r.t + (r.tEnd - r.t) * k / (r.rampBars * r.meter) := by
  have hdiv : (((r.tEnd : Int) - r.t) * k).tdiv (r.rampBars * r.meter : Nat)
      = (((r.tEnd - r.t) * k / (r.rampBars * r.meter) : Nat) : Int) := by
    rw [← Int.ofNat_sub hrises, ← Int.natCast_mul, Int.ofNat_tdiv]
  rw [beatTempo_ramp h hk, hdiv]
  generalize (r.tEnd - r.t) * k / (r.rampBars * r.meter) = moved
  omega

theorem beatTempo_falling {r : TempoRecord} {k : Nat} (h : r.form = .ramp) (hk : k < r.rampBars * r.meter)
    (hfalls : r.tEnd < r.t) : beatTempo r k = r.t - (r.t - r.tEnd) * k / (r.rampBars * r.meter) := by
  have hdiv : (((r.tEnd : Int) - r.t) * k).tdiv (r.rampBars * r.meter : Nat)
      = -(((r.t - r.tEnd) * k / (r.rampBars * r.meter) : Nat) : Int) := by
    rw [← Int.neg_sub, ← Int.ofNat_sub (Nat.le_of_lt hfalls), Int.neg_mul, ← Int.natCast_mul, Int.neg_tdiv,
      Int.ofNat_tdiv]
  rw [beatTempo_ramp h hk, hdiv]
  generalize (r.t - r.tEnd) * k / (r.rampBars * r.meter) = moved
  omega

/-- Settles O21: the accumulator carries (960r) div T units over the sub-ticks of a beat. -/
theorem beatLength : Obligations.BeatLength := by
  refine ⟨fun s hpower hruns hpos hzero haccumulator hunits => ?_,
    fun r k => ⟨fun h => beatTempo_steady h k, beatTempo_ramp_end, beatTempo_rising, beatTempo_falling⟩⟩
  have hbelow : s.tempo.accumulator < s.tempo.tempo := by
    rw [haccumulator]
    exact Nat.mod_lt _ hpos
  rw [subTickUnits_eq 959 hpower hruns (by omega) hbelow, hunits, haccumulator]
  have hsum : 100000000 % s.tempo.tempo + 959 * (100000000 % s.tempo.tempo) = 960 * (100000000 % s.tempo.tempo) := by
    omega
  rw [hsum]
  omega

end Sys2Proof.Machine
end

section
/-! SUPPORT. START and CONTINUE (R90, R91, R93, R97, R99, R100, R103), from a Transport frame and
from CLICK. -/

namespace Sys2Proof.Machine

/-! ### Clock actions from a frame and from a request (R7, R90, R97) -/

/-- R7: a Transport on a PLAY port that does not accept it is dropped. -/
theorem exec_transport_dropped {p : Port} {action beat : Byte} {bar : Half} {s : State} (hpower : s.power = true)
    (hrole : s.settings.inbound[p].role = .play)
    (h : s.settings.inbound[p].transportAccept = false ∨ clockAction? action = none) :
    exec (.transport p action bar beat) s = .next s := by
  have hexec : exec (.transport p action bar beat) s = .next (arrive p (.transport action bar beat) s) :=
    powered_of_power hpower
  have hplay : playFrame p (.transport action bar beat) s = playTransport p action s := rfl
  rw [hexec, arrive_of_not_service rfl, hrole]
  dsimp only
  rw [hplay]
  unfold playTransport
  rcases h with h | h
  · rw [h]
    rfl
  · rw [h]
    exact congrArg Host.Outcome.next (ite_self s)

/-- R7, R90: a Transport on a PLAY port that accepts it acts on the clock. -/
theorem exec_transport_accepted {p : Port} {action beat : Byte} {bar : Half} {s : State} (hpower : s.power = true)
    (hrole : s.settings.inbound[p].role = .play) (haccept : s.settings.inbound[p].transportAccept = true)
    {act : State → State} (haction : clockAction? action = some act) :
    exec (.transport p action bar beat) s = .next (act s) := by
  have hexec : exec (.transport p action bar beat) s = .next (arrive p (.transport action bar beat) s) :=
    powered_of_power hpower
  have hplay : playFrame p (.transport action bar beat) s = playTransport p action s := rfl
  rw [hexec, arrive_of_not_service rfl, hrole]
  dsimp only
  rw [hplay]
  unfold playTransport
  rw [if_pos haccept, haction]

theorem clockAction?_other {action : Byte} (h : action.toNat = 0 ∨ 3 < action.toNat) : clockAction? action = none := by
  unfold clockAction?
  split
  · omega
  · omega
  · omega
  · rfl

section Click
variable {h : Head} {s : State} (hready : Ready h s)
include hready

/-- R97: CLICK START as its operation and its reply; likewise CLICK STOP and CLICK CONTINUE below. -/
theorem exec_clickStart_ready :
    exec (.clickStart h) s = .next (replied h 0x43#8 (opClickStart s).2.outcome (opClickStart s).2.data (opClickStart s).1) :=
  serve_of_ready (r := .click 1#8) hready rfl (.inl (show (0x43#8 : Byte) ≠ restartCode by decide))

theorem exec_clickStop_ready :
    exec (.clickStop h) s = .next (replied h 0x43#8 (opClickStop s).2.outcome (opClickStop s).2.data (opClickStop s).1) :=
  serve_of_ready (r := .click 2#8) hready rfl (.inl (show (0x43#8 : Byte) ≠ restartCode by decide))

theorem exec_clickContinue_ready :
    exec (.clickContinue h) s
      = .next (replied h 0x43#8 (opClickContinue s).2.outcome (opClickContinue s).2.data (opClickContinue s).1) :=
  serve_of_ready (r := .click 3#8) hready rfl (.inl (show (0x43#8 : Byte) ≠ restartCode by decide))

end Click

/-! ### START (R91) -/

theorem doStart_running {s : State} (h : s.tempo.clock ≠ .stopped) : doStart s = s := if_neg h

theorem doStart_started {s : State} (h : s.tempo.clock = .stopped) : StartedFrom s (doStart s) := by
  rw [show doStart s = startClock s from if_pos h]
  exact startClock_started h

/-- A part that differs by its clock and by frames offered to the timing queues has its other blocks untouched. -/
theorem blocks_of_offered {frames : Port → List Frame} {s t : State} {x : Tempo}
    (h : t = offeredTiming frames { s with tempo := x }) :
    t.settings = s.settings ∧ t.curves = s.curves ∧ t.change = s.change ∧ t.pedals = s.pedals
      ∧ t.service = s.service := by
  rw [h]
  exact ⟨rfl, rfl, rfl, rfl, rfl⟩

theorem startedFrom_service {s t : State} (h : StartedFrom s t) : t.service = s.service := by
  obtain ⟨-, -, -, -, -, -, -, -, -, -, -, -, hoffered, -⟩ := h
  obtain ⟨-, -, -, -, hservice⟩ := blocks_of_offered hoffered
  exact hservice

/-- Settles O16: START of a STOPPED clock is `doStart_started`, from a frame and from a request alike. -/
theorem clockStart : Obligations.ClockStart := by
  refine ⟨fun p action bar beat s hpower hrole => ⟨fun hdropped => ?_, fun haccept hruns => ?_, fun haccept hstopped => ?_⟩,
    fun h s hready => ⟨fun hruns => ?_, fun hstopped => ?_⟩⟩
  · exact exec_transport_dropped hpower hrole (hdropped.imp_right clockAction?_other)
  · rw [exec_transport_accepted hpower hrole haccept (act := doStart) rfl, doStart_running hruns]
  · have hstarted := doStart_started hstopped
    exact ⟨doStart s, exec_transport_accepted hpower hrole haccept rfl, hstarted, startedFrom_service hstarted⟩
  · rw [exec_clickStart_ready hready, show opClickStart s = refuse .noChange s from if_neg hruns]
    rfl
  · have hstarted := doStart_started hstopped
    refine ⟨doStart s, ?_, hstarted, startedFrom_service hstarted⟩
    rw [exec_clickStart_ready hready, show opClickStart s = (doStart s, bare .ok) from if_pos hstopped]
    rfl

/-! ### CONTINUE (R93) -/

/-- R99, R100, R103: the first beat of a clock behind its Transport, the tempo engine being set. -/
theorem beginFirstBeat_behind {x : Tempo} (hsub : x.subTick = 0) (lead : List Frame) (s : State) :
    ∃ feeds : Vector FeedState 8, (∀ f : Port, feeds[f].override = x.feeds[f].override)
      ∧ beginFirstBeat (offeredTiming (fun q => if s.settings.outbound[q].tickOut = true then lead else []) (s.setTempo x))
        = offeredTiming (firstBeatFrames lead (s.setTempo (firstBeatTempo x feeds)))
            (s.setTempo (firstBeatTempo x feeds)) := by
  let ticks (q : Port) : List Frame := if s.settings.outbound[q].tickOut = true then lead else []
  let offered := offeredTiming ticks (s.setTempo x)
  obtain ⟨feeds, hoverride, hbegun⟩ := beginFirstBeat_spec (s := offered) hsub
  let final := s.setTempo (firstBeatTempo x feeds)
  have hframes : (fun q => ticks q ++ resetFrames true (fun _ => false) offered q) = firstBeatFrames lead final := by
    funext q
    have hclicks : clicksOf (fun _ => false) offered (List.finRange 8) q
        = clicksOf (fun _ => false) final (List.finRange 8) q := by
      refine clicksOf_congr ?_ ?_ ?_ ?_ ?_ ?_ q
      exacts [rfl, rfl, rfl, rfl, fun f => (hoverride f).symm, fun _ _ => rfl]
    rw [resetFrames_eq, firstBeatFrames_eq, ← List.append_assoc]
    refine congr (congrArg _ ?_) hclicks
    by_cases htick : s.settings.outbound[q].tickOut = true
    · rw [show ticks q = lead from if_pos htick, if_pos ⟨rfl, htick⟩]
      exact (if_pos htick).symm
    · rw [show ticks q = [] from if_neg htick, if_neg fun h => htick h.2]
      exact (if_neg htick).symm
  refine ⟨feeds, hoverride, hbegun.trans ?_⟩
  rw [show offered.setTempo (firstBeatTempo offered.tempo feeds) = offeredTiming ticks final from rfl,
    offeredTiming_offeredTiming, hframes]

/-- R93: the tempo engine as CONTINUE has set it, before its first beat begins. -/
def continuedTempo (t : Tempo) : Tempo :=
  { t with
    clock := .running, subTick := 0, accumulator := 0, countInBar := 0
    tempo := beatTempo t.slots[t.inEffect] t.rampBeat }

theorem doContinue_running {s : State} (h : s.tempo.clock ≠ .stopped) : doContinue s = s := if_neg h

theorem doContinue_stopped {s : State} (h : s.tempo.clock = .stopped) :
    doContinue s
      = beginFirstBeat
          (offeredTiming
            (fun q =>
              if s.settings.outbound[q].tickOut = true then
                [.transport 3#8 (BitVec.ofNat 16 s.tempo.bar) (BitVec.ofNat 8 s.tempo.beat)]
              else [])
            (s.setTempo (continuedTempo s.tempo))) := by
  have hdo : doContinue s
      = beginFirstBeat (offerTransport 3#8 s.tempo.bar s.tempo.beat (s.setTempo (continuedTempo s.tempo))) := if_pos h
  rw [hdo, offerTransport, offerTickOut_eq]
  rfl

/-- R93: CONTINUE of a STOPPED clock. -/
theorem doContinue_continued {s : State} (h : s.tempo.clock = .stopped) : ContinuedFrom s (doContinue s) := by
  let continued := continuedTempo s.tempo
  obtain ⟨feeds, hoverride, hbegun⟩ := beginFirstBeat_behind (x := continued) rfl
    [.transport 3#8 (BitVec.ofNat 16 s.tempo.bar) (BitVec.ofNat 8 s.tempo.beat)] s
  have hlength : 0 < (firstBeatTempo continued feeds).tempo →
      (firstBeatTempo continued feeds).accumulator = 100000000 % (firstBeatTempo continued feeds).tempo
        ∧ (firstBeatTempo continued feeds).units = 100000000 / (firstBeatTempo continued feeds).tempo := subTickOf_zero
  rw [doContinue_stopped h, hbegun]
  exact ⟨rfl, rfl, rfl, rfl, rfl, rfl, rfl, rfl, rfl, rfl, hlength, hoverride, rfl, rfl, rfl, rfl, rfl, rfl, rfl⟩

theorem continuedFrom_service {s t : State} (h : ContinuedFrom s t) : t.service = s.service := by
  obtain ⟨-, -, -, -, -, -, -, -, -, -, -, -, hoffered, -⟩ := h
  obtain ⟨-, -, -, -, hservice⟩ := blocks_of_offered hoffered
  exact hservice

/-- Settles O18: CONTINUE of a STOPPED clock is `doContinue_continued`, from a frame and from a request alike. -/
theorem clockContinue : Obligations.ClockContinue := by
  refine ⟨fun p bar beat s hpower hrole haccept => ⟨fun hruns => ?_, fun hstopped => ?_⟩,
    fun h s hready => ⟨fun hruns => ?_, fun hstopped => ?_⟩⟩
  · rw [exec_transport_accepted hpower hrole haccept (act := doContinue) rfl, doContinue_running hruns]
  · have hcontinued := doContinue_continued hstopped
    exact ⟨doContinue s, exec_transport_accepted hpower hrole haccept rfl, hcontinued, continuedFrom_service hcontinued⟩
  · rw [exec_clickContinue_ready hready, show opClickContinue s = refuse .noChange s from if_neg hruns]
    rfl
  · have hcontinued := doContinue_continued hstopped
    refine ⟨doContinue s, ?_, hcontinued, continuedFrom_service hcontinued⟩
    rw [exec_clickContinue_ready hready, show opClickContinue s = (doContinue s, bare .ok) from if_pos hstopped]
    rfl

end Sys2Proof.Machine
end

section
/-! SUPPORT. STOP (R92, R97, R100, R124–R127): the tempo engine that it leaves, the switch of a WAITING change. -/

namespace Sys2Proof.Machine

/-! ### The tempo engine stopped (R87, R92) -/

/-- R92: the tempo engine as a stop has it before the kept position meets the meter. -/
def stoppedTempo (t : Tempo) : Tempo :=
  let slot := t.pendingSlot.getD t.inEffect
  let k := if t.pendingSlot = none then t.rampBeat else 0
  { t with
    clock := .stopped
    bar := if t.clock = .countIn then 1 else t.bar
    beat := if t.clock = .countIn then 1 else t.beat
    subTick := if t.clock = .countIn then 0 else t.subTick
    countInBar := if t.clock = .countIn then 0 else t.countInBar
    boundaryBegan := false, inEffect := slot, pendingSlot := none, rampBeat := k, tempo := beatTempo t.slots[slot] k
    meter := t.slots[slot].meter }

/-- R87: a position that meets the meter: a beat above it moves to the first of the next bar. -/
def metMeter (t : Tempo) : Tempo :=
  { t with
    bar := if t.meter < t.beat then min (t.bar + 1) 9999 else t.bar
    beat := if t.meter < t.beat then 1 else t.beat
    subTick := if t.meter < t.beat then 0 else t.subTick }

theorem adjustPosition_eq (t : Tempo) : adjustPosition t = metMeter t := by
  unfold adjustPosition metMeter
  split <;> rfl

theorem stopTempo_eq (t : Tempo) : stopTempo t = metMeter (stoppedTempo t) := by
  rw [← adjustPosition_eq]
  rcases t with ⟨slots, inEffect, pending, rampBeat, tempo, meter, clock, bar, beat, subTick⟩
  cases pending <;> cases clock <;> rfl

/-! ### STOP (R92, R100) -/

/-- R92: a STOP that finds no change WAITING, or what it gives the change controller. -/
def stopped (s : State) : State :=
  let t := metMeter (stoppedTempo s.tempo)
  offeredTiming
    (fun q =>
      if s.settings.outbound[q].tickOut = true then
        [.transport 2#8 (BitVec.ofNat 16 t.bar) (BitVec.ofNat 8 t.beat)]
      else [])
    (s.setTempo t)

theorem doStop_stopped {s : State} (h : s.tempo.clock = .stopped) : doStop s = s := if_pos h

theorem doStop_running {s : State} (h : s.tempo.clock ≠ .stopped) : doStop s = giveStop (stopped s) := by
  have hdo : doStop s
      = giveStop (offerTransport 2#8 (stopTempo s.tempo).bar (stopTempo s.tempo).beat (s.setTempo (stopTempo s.tempo))) :=
    if_neg h
  rw [hdo, offerTransport, offerTickOut_eq, stopTempo_eq]
  rfl

/-- R13: a Transport offered to a port stands at the tail of its timing queue where there is room. -/
theorem take_single_room (f : Frame) (timing : List Queued) :
    timing ++ tempoFrames ([f].take (4 - timing.length))
      = if timing.length < 4 then timing ++ tempoFrames [f] else timing := by
  split
  · next h => rw [List.take_of_length_le (by simp only [List.length_singleton]; omega)]
  · next h =>
    rw [Nat.sub_eq_zero_of_le (Nat.not_lt.mp h), List.take_zero]
    exact List.append_nil _

theorem stopped_timing (s : State) (q : Port) :
    (stopped s).link.outs[q].timing
      = if s.settings.outbound[q].tickOut = true ∧ s.link.outs[q].timing.length < 4 then
          s.link.outs[q].timing
            ++ tempoFrames
              [.transport 2#8 (BitVec.ofNat 16 (stopped s).tempo.bar) (BitVec.ofNat 8 (stopped s).tempo.beat)]
        else s.link.outs[q].timing := by
  unfold stopped
  dsimp only
  rw [offeredTiming_outs]
  dsimp only [State.setTempo_link]
  by_cases htick : s.settings.outbound[q].tickOut = true
  · rw [if_pos htick, take_single_room]
    simp only [htick, true_and]
    rfl
  · rw [if_neg htick, List.take_nil, if_neg fun h => htick h.1]
    exact List.append_nil _

/-- R92: STOP of a clock that runs. -/
theorem stopped_from (s : State) : StoppedFrom s (stopped s) := by
  let t := stoppedTempo s.tempo
  have hkept (hbeat : ¬t.meter < t.beat) :
      (metMeter t).bar = t.bar ∧ (metMeter t).beat = t.beat ∧ (metMeter t).subTick = t.subTick :=
    ⟨if_neg hbeat, if_neg hbeat, if_neg hbeat⟩
  have hmoved (hbeat : t.meter < t.beat) :
      (metMeter t).bar = min (t.bar + 1) 9999 ∧ (metMeter t).beat = 1 ∧ (metMeter t).subTick = 0 :=
    ⟨if_pos hbeat, if_pos hbeat, if_pos hbeat⟩
  have hrunning (hclock : s.tempo.clock = .running) :
      t.bar = s.tempo.bar ∧ t.beat = s.tempo.beat ∧ t.subTick = s.tempo.subTick := by
    have hnot : ¬s.tempo.clock = .countIn := by rw [hclock]; decide
    exact ⟨if_neg hnot, if_neg hnot, if_neg hnot⟩
  refine ⟨rfl, rfl, rfl, rfl, rfl, fun hnone => ?_, fun hsome => ⟨if_neg hsome, ?_⟩, fun hclock hle => ?_,
    fun hclock hlt => ?_, fun hclock hmeter => ?_, stopped_timing s, rfl, rfl, rfl, rfl, rfl, rfl, rfl, rfl, rfl⟩
  · have hk : t.rampBeat = s.tempo.rampBeat := if_pos hnone
    refine ⟨hk, ?_⟩
    show beatTempo s.tempo.slots[s.tempo.pendingSlot.getD s.tempo.inEffect] t.rampBeat = _
    rw [hk]
    simp only [hnone, Option.getD_none]
  · exact congrArg (beatTempo s.tempo.slots[s.tempo.pendingSlot.getD s.tempo.inEffect]) (if_neg hsome)
  · obtain ⟨hbar, hbeat, hsub⟩ := hrunning hclock
    obtain ⟨hbar', hbeat', hsub'⟩ := hkept (by rw [hbeat]; exact Nat.not_lt.mpr hle)
    exact ⟨hbar'.trans hbar, hbeat'.trans hbeat, hsub'.trans hsub⟩
  · obtain ⟨hbar, hbeat, -⟩ := hrunning hclock
    obtain ⟨hbar', hbeat', hsub'⟩ := hmoved (by rw [hbeat]; exact hlt)
    exact ⟨hbar'.trans (by rw [hbar]), hbeat', hsub'⟩
  · have hbeat : t.beat = 1 := if_pos hclock
    obtain ⟨hbar', hbeat', hsub'⟩ := hkept (by rw [hbeat]; exact Nat.not_lt.mpr hmeter)
    exact ⟨hbar'.trans (if_pos hclock), hbeat'.trans hbeat, hsub'.trans (if_pos hclock), if_pos hclock⟩

/-! ### The switch of a WAITING change (R124–R129) -/

/-- R92: with no change WAITING a stop is all that STOP does. -/
theorem doStop_alone {s : State} (hruns : s.tempo.clock ≠ .stopped) (hstate : s.change.state ≠ .waiting) :
    doStop s = stopped s := by
  rw [doStop_running hruns]
  exact if_neg hstate

/-- R128, R129: placing a burst and ending a change leave these blocks alone. -/
theorem burstPlaced_blocks (s : State) :
    let t := endChange (placeBursts s)
    t.settings = s.settings ∧ t.curves = s.curves ∧ t.pedals = s.pedals ∧ t.service = s.service := by
  obtain ⟨link, cursor, selected, hworked⟩ := placeBursts_worked s
  dsimp only
  rw [hworked]
  unfold endChange
  split
  · exact ⟨takeNext_settings _, takeNext_curves _, takeNext_pedals _, takeNext_service _⟩
  · exact ⟨rfl, rfl, rfl, rfl⟩

/-- R124–R127: STOP with a change WAITING. -/
theorem doStop_switched {copy : SceneCopy} {tg : Target} {s : State} (hpower : s.power = true)
    (hruns : s.tempo.clock ≠ .stopped) (hstate : s.change.state = .waiting) (hstaged : s.change.staged = some copy)
    (htarget : s.change.target = some tg) : SwitchedByStop copy tg s (doStop s) := by
  let u := switchMade .midBeat copy tg (stopped s)
  have hstopped := stopped_from s
  have hnow : SwitchedNow false copy tg (stopped s) u := switchMade_now false copy tg (stopped s)
  have hdo : doStop s = endChange (placeBursts u) := by
    rw [doStop_running hruns, ← doSwitch_eq (s := stopped s) hstaged htarget]
    exact if_pos hstate
  obtain ⟨⟨frames, hoffered⟩, -⟩ := switchedNow_offered hnow
  obtain ⟨hupower, hchange, -⟩ := switchedNow_spec hnow
  have hustaged : u.change.staged = none := by rw [hchange]; rfl
  obtain ⟨ttempo, -, tstaged, tactive, tentry, tscene, tpage, tadjusted⟩ := burstPlaced_spec u hustaged
  obtain ⟨tsettings, tcurves, tpedals, tservice⟩ := burstPlaced_blocks u
  rw [hdo]
  refine ⟨⟨stopped s, u, hstopped, hnow, exec_burstPlace (hupower.trans hpower)⟩, ?_, tstaged, ?_, ?_, ?_, ?_,
    fun hauto => ?_, ?_, ?_, ?_, ?_⟩
  · rw [tactive, hchange]; rfl
  · rw [tentry, hchange]; rfl
  · rw [tscene, hchange]; rfl
  · rw [tpage, hchange]; rfl
  · rw [tadjusted, hchange]; rfl
  · obtain ⟨-, hstand, -⟩ := hnow
    obtain ⟨hclock, -⟩ := handedOver_tempo copy tg (stopped s)
    rw [ttempo, hstand (.inl ⟨rfl, hauto⟩), hclock]
    rfl
  · rw [tsettings, hoffered]; rfl
  · rw [tcurves, hoffered]; rfl
  · rw [tpedals, hoffered]; rfl
  · rw [tservice, hoffered]; rfl

/-- Settles O17: STOP, alone or with the switch of a WAITING change, from a frame and from a request alike. -/
theorem clockStop : Obligations.ClockStop := by
  refine ⟨fun p bar beat s hpower hrole haccept => ?_, fun h s hready => ?_⟩
  · have hexec : exec (.transport p 2#8 bar beat) s = .next (doStop s) :=
      exec_transport_accepted hpower hrole haccept rfl
    rw [hexec]
    refine ⟨fun hstopped => by rw [doStop_stopped hstopped], fun hruns hstate => ?_,
      fun copy tg hruns hstate hstaged htarget =>
        ⟨doStop s, rfl, doStop_switched hpower hruns hstate hstaged htarget⟩⟩
    rw [doStop_alone hruns hstate]
    exact ⟨stopped s, rfl, stopped_from s, rfl⟩
  · have hexec (hruns : s.tempo.clock ≠ .stopped) :
        exec (.clickStop h) s = .next (replied h 0x43#8 .ok [] (doStop s)) := by
      rw [exec_clickStop_ready hready, show opClickStop s = (doStop s, bare .ok) from if_neg hruns]
      rfl
    refine ⟨fun hstopped => ?_, fun hruns hstate => ?_, fun copy tg hruns hstate hstaged htarget => ?_⟩
    · rw [exec_clickStop_ready hready, show opClickStop s = refuse .noChange s from if_pos hstopped]
      rfl
    · rw [hexec hruns, doStop_alone hruns hstate]
      exact ⟨stopped s, rfl, stopped_from s, rfl⟩
    · obtain ⟨hpower, -⟩ := hready
      rw [hexec hruns]
      exact ⟨doStop s, rfl, doStop_switched hpower hruns hstate hstaged htarget⟩

end Sys2Proof.Machine
end

section
/-! SUPPORT. Tempo slots selected and written (R83, R85–R88, R179–R181): SELECT TEMPO, the pedal slot number, and WRITE
SETTING of a tempo slot. -/

namespace Sys2Proof.Machine

/-! ### SELECT TEMPO (R85, R87) -/

theorem exec_selectTempo_ready {h : Head} {s : State} (hready : Ready h s) (slot : Byte) :
    exec (.selectTempo h slot) s
      = .next (replied h 0x44#8 (opSelectTempo slot s).2.outcome (opSelectTempo slot s).2.data (opSelectTempo slot s).1) :=
  serve_of_ready (r := .selectTempo slot) hready rfl (.inl (show (0x44#8 : Byte) ≠ restartCode by decide))

theorem slotOfNat?_of_val {n : Nat} {i : Slot} (h : n = i.val) : slotOfNat? n = some i := by
  subst h
  exact dif_pos (by omega)

theorem slotOfNat?_of_above {n : Nat} (h : 15 < n) : slotOfNat? n = none := dif_neg (by omega)

section Scene
variable {slot : Byte} {s : State} (hscene : s.settings.tempoSource = .scene)
include hscene

theorem opSelectTempo_range (h : 15 < slot.toNat) : opSelectTempo slot s = refuse .range s := by
  unfold opSelectTempo
  rw [hscene, slotOfNat?_of_above h]

/-- R85, R87: a selection of the slot that stands is refused, any other is made. -/
theorem opSelectTempo_slot {i : Slot} (h : slot.toNat = i.val) :
    opSelectTempo slot s
      = if s.tempo.pendingSlot.getD s.tempo.inEffect = i then refuse .noChange s
        else (s.setTempo (slotSelected i s.tempo), bare .ok) := by
  unfold opSelectTempo
  rw [hscene, slotOfNat?_of_val h]
  rfl

end Scene

/-! ### The pedal slot number (R86, R140, R145) -/

/-- R140: a pedal is pressed while it is settled at the level its polarity names. -/
theorem pressed_iff (s : State) (i : Pedal) :
    s.pressed i = true ↔ s.pedals.contacts[i].settled = some (match s.settings.pedals[i].polarity with
      | .normal => .closed
      | .inverted => .opened) := by
  unfold State.pressed pressedAs
  cases s.settings.pedals[i].polarity <;> rcases s.pedals.contacts[i].settled with _ | level
  · simp
  · cases level <;> simp
  · simp
  · cases level <;> simp

theorem tempoBit_iff (s : State) (n : Fin 4) :
    tempoBit s n = true ↔ ∃ i : Pedal, s.settings.pedals[i].function = .tempoBit n ∧ s.pressed i = true := by
  simp only [tempoBit, List.any_eq_true, List.mem_finRange, true_and, Bool.and_eq_true, beq_iff_eq]

/-- The bits of a number put together from four bits. -/
theorem testBit_of_bits : ∀ (b : Fin 4 → Bool) (n : Fin 4),
    (8 * boolNat (b 3) + 4 * boolNat (b 2) + 2 * boolNat (b 1) + boolNat (b 0)).testBit n.val = b n := by
  decide

theorem pedalSlot_testBit (s : State) (n : Fin 4) : (pedalSlot s).val.testBit n.val = tempoBit s n :=
  testBit_of_bits (tempoBit s) n

/-- Settles O19: SELECT TEMPO by its three refusals and the selection `slotSelected`, and the bits of `pedalSlot`. -/
theorem selectTempo : Obligations.SelectTempo := by
  refine ⟨fun h slot s hready => ⟨fun hpedal => ?_, fun hscene habove => ?_, fun i hscene hslot =>
    ⟨fun hsame => ?_, fun hother => ?_⟩⟩, fun s n => ?_⟩
  · have hop : opSelectTempo slot s = refuse .wrongMode s := by
      unfold opSelectTempo
      rw [hpedal]
    rw [exec_selectTempo_ready hready, hop]
    rfl
  · rw [exec_selectTempo_ready hready, opSelectTempo_range hscene habove]
    rfl
  · rw [exec_selectTempo_ready hready, opSelectTempo_slot hscene hslot, if_pos hsame]
    rfl
  · have hselected : slotSelected i s.tempo
        = if s.tempo.clock = .stopped then tookEffect i s.tempo
          else if i = s.tempo.inEffect then { s.tempo with pendingSlot := none }
          else { s.tempo with pendingSlot := some i } := if_neg hother
    rw [exec_selectTempo_ready hready, opSelectTempo_slot hscene hslot, if_neg hother, hselected]
    rfl
  · rw [pedalSlot_testBit, tempoBit_iff]
    exact exists_congr fun i => and_congr_right fun _ => (pressed_iff s i).symm

/-! ### Records written (R180, R181) -/

/-- R180: a run of values put into the fields of a record, field by field. -/
theorem take_append_drop_eq_map {k : Nat} {old values : List Nat} (h : k + values.length ≤ old.length) :
    old.take k ++ values ++ old.drop (k + values.length)
      = (List.range old.length).map fun j =>
          if k ≤ j ∧ j < k + values.length then values.getD (j - k) 0 else old.getD j 0 := by
  refine List.ext_getElem ?_ fun j hj hj' => ?_
  · simp only [List.length_append, List.length_take, List.length_drop, List.length_map, List.length_range]
    omega
  · have hold : j < old.length := by simpa using hj'
    have hmin : min k old.length = k := by omega
    rw [List.getElem_map, List.getElem_range]
    by_cases hbefore : j < k
    · rw [if_neg (by omega), List.getD_eq_getElem _ _ hold]
      simp [hbefore, hold]
    · by_cases hrun : j - k < values.length
      · rw [if_pos (by omega), List.getD_eq_getElem _ _ hrun]
        simp [List.getElem_append, hbefore, hmin, hrun]
      · have hpast : k + values.length + (j - k - values.length) = j := by omega
        rw [if_neg (by omega), List.getD_eq_getElem _ _ hold]
        simp [List.getElem_append, hbefore, hmin, hrun, hpast]

theorem writtenFields?_eq (fields : List Nat) (start : Nat) (values : List Nat) :
    writtenFields? fields start values = fieldsAfter fields start values := by
  unfold writtenFields? fieldsAfter
  by_cases hstart : start = 0 ∨ fields.length < start
  · rw [if_pos hstart, if_pos (hstart.imp_right .inl)]
  · by_cases hrun : fields.length < start - 1 + values.length
    · rw [if_neg hstart, if_pos hrun, if_pos (.inr (.inr hrun))]
    · rw [if_neg hstart, if_neg hrun, if_neg (by tauto), take_append_drop_eq_map (Nat.not_lt.mp hrun)]

/-- R180, R181: the reply of a WRITE SETTING of a record, and what is written. -/
theorem replied_writeRecord {α : Type} (h : Head) (of? : List Nat → Option α) (fieldsOf : α → List Nat)
    (write : α → State → State) (old : α) (start : Byte) (values : List Half) (s : State) :
    replied h 0x11#8 (writeRecord of? fieldsOf write old start values s).2.outcome
        (writeRecord of? fieldsOf write old start values s).2.data (writeRecord of? fieldsOf write old start values s).1
      = settingWritten h of? fieldsOf old (fun r => write r s) start values s := by
  unfold writeRecord settingWritten
  rw [writtenFields?_eq]
  cases fieldsAfter (fieldsOf old) start.toNat (values.map BitVec.toNat) with
  | none => rfl
  | some fields =>
    dsimp only [Option.bind_some]
    cases of? fields <;> rfl

/-! ### A tempo slot written (R83, R88, R179) -/

theorem exec_writeSettingTempoSlot_ready {h : Head} {s : State} (hready : Ready h s) (index start : Byte)
    {values : List Half} (hone : 1 ≤ values.length) (hlength : values.length ≤ 27) :
    exec (.writeSettingTempoSlot h index start values) s
      = .next (replied h 0x11#8 (opWriteSlot index start values s).2.outcome (opWriteSlot index start values s).2.data
          (opWriteSlot index start values s).1) :=
  serve_of_ready (r := .writeSetting 5#8 index start values) hready
    (by simp [Request.formOk, hone, hlength])
    (.inl (show (0x11#8 : Byte) ≠ restartCode by decide))

theorem itemSlot?_of_val {n : Nat} {i : Slot} (hfour : 4 ≤ i.val) (h : n = i.val) : itemSlot? n = some i := by
  unfold itemSlot?
  rw [if_pos (by omega), slotOfNat?_of_val h]

theorem itemSlot?_of_out {n : Nat} (h : n < 4 ∨ 15 < n) : itemSlot? n = none := by
  unfold itemSlot?
  split
  · exact slotOfNat?_of_above (by omega)
  · rfl

/-- R88: a slot written, and what follows where it is in effect. -/
theorem rewriteSlot_eq (i : Slot) (r : TempoRecord) (t : Tempo) :
    rewriteSlot i r t
      = let written : Tempo := { t with slots := t.slots.set i r }
        if i ≠ t.inEffect then written
        else if t.clock ≠ .stopped then { written with pendingSlot := some i }
        else
          let taken : Tempo :=
            { written with pendingSlot := none, rampBeat := 0, tempo := beatTempo r 0, meter := r.meter }
          if r.meter < t.beat then { taken with bar := min (t.bar + 1) 9999, beat := 1, subTick := 0 } else taken := by
  have hread : (t.slots.set i r)[i] = r := by simp
  unfold rewriteSlot afterRewrite
  by_cases hin : i = t.inEffect
  · by_cases hclock : t.clock = .stopped
    · rw [if_pos hin, if_pos hclock, if_neg (not_not.mpr hin), if_neg (not_not.mpr hclock)]
      unfold takeEffectStopped adjustPosition upd
      dsimp only
      rw [hread, ← hin]
    · rw [if_pos hin, if_neg hclock, if_neg (not_not.mpr hin), if_pos hclock]
      rfl
  · rw [if_neg hin, if_pos hin]
    rfl

/-- R179: a value within bounds, or outside. -/
theorem within?_eq_some {lo hi n k : Nat} : within? lo hi n = some k ↔ (lo ≤ n ∧ n ≤ hi) ∧ k = n := by
  unfold within?
  split
  · next h => simp [h, eq_comm]
  · next h => simp [h]

theorem tempoFormOfNat?_eq_some {n : Nat} {x : TempoForm} : tempoFormOfNat? n = some x ↔ n = x.code := by
  unfold tempoFormOfNat?
  split
  · cases x <;> simp [TempoForm.code]
  · cases x <;> simp [TempoForm.code]
  · next h0 h1 => cases x <;> simp [TempoForm.code] <;> assumption

theorem fields_eq_iff {form t tEnd rampBars meter : Nat} {r : TempoRecord} :
    r.fields = [form, t, tEnd, rampBars, meter]
      ↔ r.form.code = form ∧ r.t = t ∧ r.tEnd = tEnd ∧ r.rampBars = rampBars ∧ r.meter = meter := by
  simp only [TempoRecord.fields, List.cons.injEq, and_true]

/-- R179: five values make a tempo record exactly where each is in its range, and it holds them. -/
theorem tempoOfFields?_eq_some {form t tEnd rampBars meter : Nat} {r : TempoRecord} :
    tempoOfFields? [form, t, tEnd, rampBars, meter] = some r
      ↔ r.fields = [form, t, tEnd, rampBars, meter] ∧ r.inRange := by
  unfold tempoOfFields?
  simp only [bind, pure, Option.bind_eq_some_iff, tempoFormOfNat?_eq_some, within?_eq_some, Option.some.injEq]
  refine ⟨?_, fun ⟨hfields, hrange⟩ => ?_⟩
  · rintro ⟨form, rfl, t, ⟨ht, rfl⟩, tEnd, ⟨htEnd, rfl⟩, rampBars, ⟨hbars, rfl⟩, meter, ⟨hmeter, rfl⟩, rfl⟩
    exact ⟨rfl, ht.1, ht.2, htEnd.1, htEnd.2, hbars.1, hbars.2, hmeter.1, hmeter.2⟩
  · obtain ⟨rfl, rfl, rfl, rfl, rfl⟩ := fields_eq_iff.mp hfields
    obtain ⟨htLow, htHigh, hendLow, hendHigh, hbarsLow, hbarsHigh, hmeterLow, hmeterHigh⟩ := hrange
    exact ⟨r.form, rfl, r.t, ⟨⟨htLow, htHigh⟩, rfl⟩, r.tEnd, ⟨⟨hendLow, hendHigh⟩, rfl⟩, r.rampBars,
      ⟨⟨hbarsLow, hbarsHigh⟩, rfl⟩, r.meter, ⟨⟨hmeterLow, hmeterHigh⟩, rfl⟩, rfl⟩

theorem formCode_eq_zero {x : TempoForm} : x = .steady ↔ x.code = 0 := by cases x <;> decide

theorem formCode_eq_one {x : TempoForm} : x = .ramp ↔ x.code = 1 := by cases x <;> decide

/-- R179: the values that make no tempo record. -/
theorem tempoOfFields?_eq_none {form t tEnd rampBars meter : Nat} :
    tempoOfFields? [form, t, tEnd, rampBars, meter] = none
      ↔ 1 < form ∨ t < 4000 ∨ 30000 < t ∨ tEnd < 4000 ∨ 30000 < tEnd ∨ rampBars = 0 ∨ 64 < rampBars ∨ meter = 0
        ∨ 16 < meter := by
  have hmade : (∃ r, tempoOfFields? [form, t, tEnd, rampBars, meter] = some r)
      ↔ form ≤ 1 ∧ 4000 ≤ t ∧ t ≤ 30000 ∧ 4000 ≤ tEnd ∧ tEnd ≤ 30000 ∧ 1 ≤ rampBars ∧ rampBars ≤ 64 ∧ 1 ≤ meter
        ∧ meter ≤ 16 := by
    simp only [tempoOfFields?_eq_some]
    refine ⟨fun ⟨r, hfields, hrange⟩ => ?_, fun ⟨hform, hrange⟩ => ?_⟩
    · obtain ⟨rfl, rfl, rfl, rfl, rfl⟩ := fields_eq_iff.mp hfields
      refine ⟨?_, hrange⟩
      cases r.form <;> decide
    · rcases Nat.le_one_iff_eq_zero_or_eq_one.mp hform with rfl | rfl
      · exact ⟨{ form := .steady, t := t, tEnd := tEnd, rampBars := rampBars, meter := meter }, rfl, hrange⟩
      · exact ⟨{ form := .ramp, t := t, tEnd := tEnd, rampBars := rampBars, meter := meter }, rfl, hrange⟩
  rw [Option.eq_none_iff_forall_ne_some, ← not_exists, hmade]
  omega

/-- Settles O30: a slot written is `rewriteSlot_eq` under the rules of any setting record, and the ranges of its fields are
`tempoOfFields?_eq_some` and its contrary. -/
theorem writeTempoSlot : Obligations.WriteTempoSlot := by
  refine ⟨fun h index start values s hready hone hlength => ⟨fun hout => ?_, fun i hfour hindex => ?_⟩,
    fun form t tEnd rampBars meter => ⟨tempoOfFields?_eq_none, fun r hr => ?_⟩, fun _ => rfl⟩
  · have hrefused : opWriteSlot index start values s = refuse .range s := by
      unfold opWriteSlot
      rw [itemSlot?_of_out hout]
    rw [exec_writeSettingTempoSlot_ready hready index start hone hlength, hrefused]
    rfl
  · have hop : opWriteSlot index start values s
        = writeRecord tempoOfFields? TempoRecord.fields (writeSlot i) s.tempo.slots[i] start values s := by
      unfold opWriteSlot
      rw [itemSlot?_of_val hfour hindex]
    rw [exec_writeSettingTempoSlot_ready hready index start hone hlength, hop, replied_writeRecord]
    congr 2
    funext r
    show s.setTempo (rewriteSlot i r s.tempo) = _
    rw [rewriteSlot_eq]
    rfl
  · obtain ⟨hfields, -⟩ := tempoOfFields?_eq_some.mp hr
    obtain ⟨rfl, rfl, rfl, rfl, rfl⟩ := fields_eq_iff.mp hfields
    exact ⟨hfields, formCode_eq_zero, formCode_eq_one, rfl, rfl, rfl, rfl⟩

end Sys2Proof.Machine
end

section
/-! SUPPORT. Beat boundaries (R86, R89, R94–R96, R98–R100, R104, R124–R126): the position advanced, the boundary given to the
change controller, and the beat that begins. -/

namespace Sys2Proof.Machine

/-! ### The position advanced (R94, R95) -/

/-- R95: the beat that runs is the last of its bar. -/
def barEnds (s : State) : Bool := s.tempo.meter < s.tempo.beat + 1

/-- R94: the beat that runs is the last of the count-in. -/
def countInEnds (s : State) : Bool :=
  s.tempo.clock = .countIn ∧ barEnds s = true ∧ s.change.active.header.countIn ≤ s.tempo.countInBar

/-- R94, R95, R103: the tempo engine with its position advanced, the Click placed ahead being that of the beat that
begins. -/
def advancedTempo (s : State) : Tempo :=
  { s.tempo with
    clock := if countInEnds s then .running else s.tempo.clock
    bar := if countInEnds s then 1 else if s.tempo.clock = .running ∧ barEnds s = true then min (s.tempo.bar + 1) 9999
      else s.tempo.bar
    beat := if barEnds s then 1 else s.tempo.beat + 1
    subTick := 0
    countInBar := if countInEnds s then 0 else if s.tempo.clock = .countIn ∧ barEnds s = true then s.tempo.countInBar + 1
      else s.tempo.countInBar
    feeds := s.tempo.feeds.map fun f => { f with beatPlaced := f.nextPlaced, nextPlaced := false } }

theorem countInEnds_running {s : State} (h : s.tempo.clock = .running) : countInEnds s = false := by
  simp [countInEnds, h]

/-- R94, R95: the position after the beat that runs, in a clock that runs. -/
theorem nextBeat_eq {s : State} (h : s.tempo.clock ≠ .stopped) :
    carryClicks { nextBeat s.countIn s.tempo with subTick := 0 } = advancedTempo s
      ∧ (s.tempo.clock == .countIn && (nextBeat s.countIn s.tempo).clock == .running) = countInEnds s := by
  unfold carryClicks advancedTempo countInEnds barEnds nextBeat State.countIn
  cases hclock : s.tempo.clock with
  | stopped => exact absurd hclock h
  | running =>
    by_cases hwraps : s.tempo.meter < s.tempo.beat + 1 <;> simp [hwraps]
  | countIn =>
    by_cases hwraps : s.tempo.meter < s.tempo.beat + 1
    · by_cases hmore : s.tempo.countInBar < s.change.active.header.countIn
      · simp [hwraps, hmore, Nat.not_le.mpr hmore]
      · simp [hwraps, hmore, Nat.not_lt.mp hmore]
    · simp [hwraps]

theorem advancePosition_eq {s : State} (h : s.tempo.clock ≠ .stopped) :
    advancePosition s
      = offeredTiming
          (fun q => if s.settings.outbound[q].tickOut = true ∧ countInEnds s = true then [.transport 1#8 1#16 1#8] else [])
          (s.setTempo (advancedTempo s)) := by
  obtain ⟨htempo, hends⟩ := nextBeat_eq h
  have hadvanced : modifyTempo (fun t => carryClicks { nextBeat s.countIn t with subTick := 0 }) s
      = s.setTempo (advancedTempo s) := congrArg s.setTempo htempo
  unfold advancePosition
  dsimp only
  rw [hadvanced, hends]
  cases countInEnds s with
  | true =>
    rw [if_pos rfl, offerTransport, offerTickOut_eq]
    simp only [and_true]
    rfl
  | false =>
    simp only [Bool.false_eq_true, and_false, if_false, offeredTiming_none]

theorem advancePosition_advanced {s : State} (h : s.tempo.clock ≠ .stopped) : Advanced s (advancePosition s) := by
  rw [advancePosition_eq h]
  refine ⟨rfl, rfl, fun f => ?_⟩
  have hfeed : (advancedTempo s).feeds[f].override = s.tempo.feeds[f].override := by simp [advancedTempo]
  exact hfeed

/-- R103: of a beat that begins at a boundary, the Clicks placed are those placed ahead. -/
theorem advancedTempo_beatPlaced (s : State) (f : Port) :
    (advancedTempo s).feeds[f].beatPlaced = s.tempo.feeds[f].nextPlaced := by simp [advancedTempo]

theorem advancedTempo_runs {s : State} (h : s.tempo.clock ≠ .stopped) : (advancedTempo s).clock ≠ .stopped := by
  unfold advancedTempo
  dsimp only
  split
  · decide
  · exact h

/-! ### The boundary given to the change controller (R98, R124) -/

/-- R98: the boundary that ends the beat now running is a bar boundary where the bar ends with it. -/
theorem boundaryOf_bar {s : State} (hbeat : 1 ≤ s.tempo.beat) : (boundaryOf (advancedTempo s)).bar = barEnds s := by
  unfold boundaryOf advancedTempo
  cases barEnds s with
  | true => rfl
  | false =>
    show (s.tempo.beat + 1 == 1) = false
    simp
    omega

/-- R98: the bar number that phrases are counted by, where a bar ends. -/
theorem boundaryOf_number {s : State} (h : s.tempo.clock ≠ .stopped) (hbar : barEnds s = true) :
    (boundaryOf (advancedTempo s)).number
      = if s.tempo.clock = .running then min (s.tempo.bar + 1) 9999
        else if s.tempo.countInBar < s.change.active.header.countIn then s.tempo.countInBar + 1
        else 1 := by
  cases hclock : s.tempo.clock with
  | stopped => exact absurd hclock h
  | running => simp [boundaryOf, advancedTempo, countInEnds_running hclock, hclock, hbar]
  | countIn =>
    by_cases hmore : s.tempo.countInBar < s.change.active.header.countIn
    · have hends : countInEnds s = false := by simp [countInEnds, Nat.not_le.mpr hmore]
      simp [boundaryOf, advancedTempo, hends, hclock, hbar, hmore]
    · have hends : countInEnds s = true := by simp [countInEnds, hclock, hbar, Nat.not_lt.mp hmore]
      simp [boundaryOf, advancedTempo, hends, hmore]

/-- R124: whether the boundary that ends the beat now running meets the change point. -/
theorem pointMet_iff {s : State} (h : s.tempo.clock ≠ .stopped) (hbeat : 1 ≤ s.tempo.beat) :
    pointMet s.change.active.block.changePoint (boundaryOf (advancedTempo s)) = true ↔ pointMetNext s := by
  have hbar := boundaryOf_bar hbeat
  have hphrase (n : Nat) : (boundaryOf (advancedTempo s)).phrase n = true
      ↔ s.tempo.meter < s.tempo.beat + 1
        ∧ ((if s.tempo.clock = .running then min (s.tempo.bar + 1) 9999
            else if s.tempo.countInBar < s.change.active.header.countIn then s.tempo.countInBar + 1
            else 1) - 1) % n = 0 := by
    unfold Boundary.phrase
    rw [hbar, Bool.and_eq_true, beq_iff_eq]
    refine (and_congr_right fun hends => ?_).trans (and_congr_left' decide_eq_true_iff)
    rw [boundaryOf_number h hends]
  unfold pointMet pointMetNext
  cases s.change.active.block.changePoint with
  | immediate => simp
  | beat => simp
  | bar =>
    dsimp only
    rw [hbar]
    exact decide_eq_true_iff
  | phrase2 => exact hphrase 2
  | phrase4 => exact hphrase 4
  | phrase8 => exact hphrase 8

/-! ### The beat that begins (R86, R89, R99, R103) -/

/-- R86, R89, R81: the part with the tempo and meter of the beat that a boundary begins, and the length of its sub-tick
0. -/
def beatSettled (bar : Bool) (s : State) : State :=
  let settled := settledTempo bar (sampledPending s) s.tempo
  s.setTempo
    { settled with
      accumulator := (subTickOf 0 settled.tempo).1, units := (subTickOf 0 settled.tempo).2, boundaryBegan := true }

theorem settle_boundary {s : State} (h : s.tempo.clock ≠ .stopped) (bar : Bool) :
    modifyTempo (fun t => { stepAccumulator (settleTempo bar t) with boundaryBegan := true }) (samplePedals s)
      = beatSettled bar s := by
  rw [samplePedals_eq]
  unfold modifyTempo
  dsimp only [State.setTempo_tempo]
  rw [settleTempo_sampled h, stepAccumulator_eq]
  rfl

/-- R99, R103: sub-tick 0 of a beat that begins with the Clicks that the feeds decide then. -/
theorem beatBegun_decided {s : State} (hruns : s.tempo.clock ≠ .stopped) (hzero : s.tempo.subTick = 0) (bar : Bool) :
    BeatBegun bar (subTickFrames 0) s (decideClicks (offerTick (beatSettled bar s))) := by
  let settled := settledTempo bar (sampledPending s) s.tempo
  let begun := beatSettled bar s
  let feeds := feedsDecided 0 begun (List.finRange 8)
  have hsub : begun.tempo.subTick = 0 := hzero
  have hoverride (f : Port) : feeds[f].override = s.tempo.feeds[f].override := feedsDecided_override 0 begun _ f
  rw [decideClicks_offerTick (s := begun) hruns, hsub]
  refine beatBegun_of_settled (a := (subTickOf 0 settled.tempo).1) (u := (subTickOf 0 settled.tempo).2) (b := true)
    (feeds := feeds) rfl rfl hoverride ?_
  refine congrArg (offeredTiming · (begun.setTempo { begun.tempo with feeds := feeds })) (funext fun q => ?_)
  rw [subTickFrames_eq, subTickFrames_eq]
  refine congrArg _ (Eq.symm ?_)
  refine decidedFrames_congr (v := feeds) ?_ ?_ ?_ ?_ q
  exacts [rfl, rfl, rfl, hoverride]

/-- R99, R105: sub-tick 0 of a beat that begins with the Clicks that do not stand already. -/
theorem beatBegun_reset {s : State} (hzero : s.tempo.subTick = 0) (bar : Bool) :
    BeatBegun bar (resetFrames true fun f => s.tempo.feeds[f].beatPlaced) s
      (placeBeatClicks (offerTick (beatSettled bar s))) := by
  let settled := settledTempo bar (sampledPending s) s.tempo
  let begun := beatSettled bar s
  let ticks (q : Port) : List Frame :=
    if begun.settings.outbound[q].tickOut = true ∧ begun.tempo.subTick % 20 = 0 then [.beatTick] else []
  have hsub : begun.tempo.subTick % 20 = 0 := by rw [show begun.tempo.subTick = 0 from hzero]
  obtain ⟨feeds, hoverride, hplaced⟩ := placeBeatClicks_spec (offeredTiming ticks begun)
  rw [show offerTick (beatSettled bar s) = offeredTiming ticks begun from offerTick_eq begun, hplaced,
    offeredTiming_setTempo, offeredTiming_offeredTiming]
  refine beatBegun_of_settled (a := (subTickOf 0 settled.tempo).1) (u := (subTickOf 0 settled.tempo).2) (b := true)
    (feeds := feeds) rfl rfl hoverride ?_
  refine congrArg (offeredTiming · (begun.setTempo { begun.tempo with feeds := feeds })) (funext fun q => ?_)
  rw [resetFrames_eq]
  refine congr (congrArg _ ?_) (clicksOf_congr ?_ ?_ ?_ ?_ ?_ ?_ q)
  · simp only [ticks, hsub, and_true, true_and]
    rfl
  exacts [rfl, rfl, rfl, rfl, fun f => (hoverride f).symm, fun _ _ => rfl]

end Sys2Proof.Machine
end

section
/-! SUPPORT. BEAT_BOUNDARY (R86, R89, R94–R96, R98–R100, R104, R124–R126), with and without the switch of a WAITING
change. -/

namespace Sys2Proof.Machine

/-! ### The position a switch finds (R87, R88, R96) -/

/-- R87: a selection in a clock that runs leaves the position alone. -/
theorem slotSelected_position {t : Tempo} (h : t.clock ≠ .stopped) (i : Slot) :
    (slotSelected i t).bar = t.bar ∧ (slotSelected i t).beat = t.beat ∧ (slotSelected i t).subTick = t.subTick
      ∧ (slotSelected i t).countInBar = t.countInBar := by
  unfold slotSelected
  rw [if_neg h]
  split_ifs <;> exact ⟨rfl, rfl, rfl, rfl⟩

theorem songLoaded_position {t : Tempo} (h : t.clock ≠ .stopped) (tempos : List TempoRaw) :
    (songLoaded tempos t).bar = t.bar ∧ (songLoaded tempos t).beat = t.beat ∧ (songLoaded tempos t).subTick = t.subTick
      ∧ (songLoaded tempos t).countInBar = t.countInBar := by
  unfold songLoaded
  dsimp only
  rw [if_neg h]
  split_ifs <;> exact ⟨rfl, rfl, rfl, rfl⟩

/-- R87, R88, R126: a switch in a clock that runs hands over without moving the position. -/
theorem handedOver_position {s : State} (h : s.tempo.clock ≠ .stopped) (copy : SceneCopy) (tg : Target) :
    let t := (handedOver copy tg s).tempo
    t.bar = s.tempo.bar ∧ t.beat = s.tempo.beat ∧ t.subTick = s.tempo.subTick ∧ t.countInBar = s.tempo.countInBar := by
  let fed : Tempo := overridden copy.block.overrides s.tempo
  let loaded : Tempo := if tg.song = true then songLoaded copy.header.tempos fed else fed
  have hloaded : loaded.clock = s.tempo.clock ∧ loaded.bar = s.tempo.bar ∧ loaded.beat = s.tempo.beat
      ∧ loaded.subTick = s.tempo.subTick ∧ loaded.countInBar = s.tempo.countInBar := by
    dsimp only [loaded]
    split_ifs
    · exact ⟨(songLoaded_spec copy.header.tempos fed).1, songLoaded_position (t := fed) h copy.header.tempos⟩
    · exact ⟨rfl, rfl, rfl, rfl, rfl⟩
  obtain ⟨hclock, hbar, hbeat, hsub, hcount⟩ := hloaded
  have htaken : (handedOver copy tg s).tempo = sceneSlotTaken copy.block.tempoSlot s.settings.tempoSource loaded := rfl
  dsimp only
  rw [htaken, ← hbar, ← hbeat, ← hsub, ← hcount]
  unfold sceneSlotTaken
  split
  · exact slotSelected_position (by rwa [hclock]) _
  · exact ⟨rfl, rfl, rfl, rfl⟩

/-- R96, R125–R127: the switch at a beat boundary, before its burst is placed. -/
theorem switchMade_boundary {s : State} (h : s.tempo.clock ≠ .stopped) (copy : SceneCopy) (tg : Target) :
    switchMade .boundary copy tg s
      = if tg.song = true then positionReset (handedOver copy tg s) else handedOver copy tg s := by
  obtain ⟨hclock, -⟩ := handedOver_tempo copy tg s
  have hruns : (handedOver copy tg s).tempo.clock ≠ .stopped := by rwa [hclock]
  have hreset : songReset .boundary (handedOver copy tg s) = positionReset (handedOver copy tg s) := by
    rw [← resetPosition_eq hruns]
    unfold songReset
    cases hcase : (handedOver copy tg s).tempo.clock with
    | stopped => exact absurd hcase hruns
    | running => rfl
    | countIn => rfl
  unfold switchMade
  rw [hreset]
  split
  · exact autoStart_of_running (positionReset_runs _)
  · exact autoStart_of_running hruns

/-! ### The boundary by what the change controller makes of it (R124) -/

theorem doBoundary_idle {s : State} (h : s.tempo.clock = .stopped ∨ s.tempo.subTick ≠ 959) : doBoundary s = s :=
  if_neg fun ⟨hruns, hlast⟩ => h.elim hruns fun hother => hother hlast

section Boundary
variable {s : State} (hruns : s.tempo.clock ≠ .stopped) (hbeat : 1 ≤ s.tempo.beat)
include hruns hbeat

theorem boundarySwitches_iff :
    boundarySwitches (boundaryOf (advancePosition s).tempo) (advancePosition s) = true
      ↔ s.change.state = .waiting ∧ pointMetNext s := by
  rw [advancePosition_eq hruns, ← pointMet_iff hruns hbeat]
  unfold boundarySwitches
  rw [Bool.and_eq_true, beq_iff_eq]
  rfl

variable (hlast : s.tempo.subTick = 959)
include hlast

/-- R89: a boundary that makes no switch. -/
theorem doBoundary_alone (hstays : ¬(s.change.state = .waiting ∧ pointMetNext s)) :
    doBoundary s = decideClicks (offerTick (beatSettled (barEnds s) (advancePosition s))) := by
  have hswitches := Bool.eq_false_iff.mpr fun h => hstays ((boundarySwitches_iff hruns hbeat).mp h)
  have hbar : (boundaryOf (advancePosition s).tempo).bar = barEnds s := by
    rw [advancePosition_eq hruns]
    exact boundaryOf_bar hbeat
  have hadvanced : (advancePosition s).tempo.clock ≠ .stopped := by
    rw [advancePosition_eq hruns]
    exact advancedTempo_runs hruns
  unfold doBoundary
  rw [if_pos ⟨hruns, hlast⟩]
  dsimp only
  rw [hswitches, hbar, Bool.false_and, Bool.or_false, if_neg Bool.false_ne_true, if_neg Bool.false_ne_true,
    settle_boundary hadvanced]

/-- R89, R124: a boundary that makes a switch. -/
theorem doBoundary_switch {copy : SceneCopy} {tg : Target} (hmet : s.change.state = .waiting ∧ pointMetNext s)
    (hstaged : s.change.staged = some copy) (htarget : s.change.target = some tg) :
    let v := endChange (placeBursts (switchMade .boundary copy tg (advancePosition s)))
    v.tempo.clock ≠ .stopped →
    doBoundary s
      = if tg.song = true then placeBeatClicks (offerTick (beatSettled (barEnds s || tg.song) v))
        else decideClicks (offerTick (beatSettled (barEnds s || tg.song) v)) := by
  intro v hv
  have hswitches := (boundarySwitches_iff hruns hbeat).mpr hmet
  have hbar : (boundaryOf (advancePosition s).tempo).bar = barEnds s := by
    rw [advancePosition_eq hruns]
    exact boundaryOf_bar hbeat
  have hchange : (advancePosition s).change = s.change := by
    rw [advancePosition_eq hruns]
    rfl
  have hsong : targetSong (advancePosition s) = tg.song := by
    unfold targetSong
    rw [hchange, htarget]
  have hswitch : doSwitch .boundary (advancePosition s) = v :=
    doSwitch_eq (by rw [hchange, hstaged]) (by rw [hchange, htarget])
  unfold doBoundary
  rw [if_pos ⟨hruns, hlast⟩]
  dsimp only
  rw [hswitches, hbar, Bool.true_and, hsong, if_pos rfl, hswitch, settle_boundary hv]

end Boundary

/-! ### Frames at the head of what is offered (R13, R100) -/

/-- R13: the first frame offered to a timing queue with room stands at its tail. -/
theorem tempoFrames_head_prefix (f : Frame) (rest : List Frame) {n : Nat} (h : n < 4) :
    tempoFrames [f] <+: tempoFrames ((f :: rest).take (4 - n)) := by
  obtain ⟨m, hm⟩ : ∃ m, 4 - n = m + 1 := ⟨3 - n, by omega⟩
  rw [hm, List.take_succ_cons]
  exact List.cons_prefix_cons.mpr ⟨rfl, List.nil_prefix⟩

/-! ### A boundary without a switch (R86, R89, R94, R95) -/

/-- R94: the count-in ends only at the end of a bar of it. -/
theorem countInEnds_iff (s : State) :
    countInEnds s = true
      ↔ s.tempo.clock = .countIn ∧ barEnds s = true ∧ s.change.active.header.countIn ≤ s.tempo.countInBar :=
  decide_eq_true_iff

theorem advancedTempo_running {s : State} (h : s.tempo.clock = .running) :
    (advancedTempo s).clock = .running
      ∧ (advancedTempo s).bar = if barEnds s then min (s.tempo.bar + 1) 9999 else s.tempo.bar := by
  simp [advancedTempo, countInEnds_running h, h]

theorem advancedTempo_ends {s : State} (h : countInEnds s = true) :
    (advancedTempo s).clock = .running ∧ (advancedTempo s).bar = 1 ∧ (advancedTempo s).countInBar = 0 := by
  simp [advancedTempo, h]

theorem advancedTempo_counting {s : State} (hclock : s.tempo.clock = .countIn) (hends : countInEnds s = false) :
    (advancedTempo s).clock = .countIn ∧ (advancedTempo s).bar = s.tempo.bar
      ∧ (advancedTempo s).countInBar = if barEnds s then s.tempo.countInBar + 1 else s.tempo.countInBar := by
  simp [advancedTempo, hends, hclock]

theorem advancedTempo_beat_eq_one {s : State} (hbeat : 1 ≤ s.tempo.beat) :
    (advancedTempo s).beat = 1 ↔ barEnds s = true := by
  unfold advancedTempo
  cases barEnds s with
  | true => simp
  | false =>
    simp
    omega

/-- R89: a boundary that makes no switch begins the beat that the advanced position has reached. -/
theorem doBoundary_alone_begun {s : State} (hruns : s.tempo.clock ≠ .stopped) (hbeat : 1 ≤ s.tempo.beat)
    (hlast : s.tempo.subTick = 959) (hstays : ¬(s.change.state = .waiting ∧ pointMetNext s)) :
    BeatBegun (barEnds s) (subTickFrames 0) (advancePosition s) (doBoundary s) := by
  rw [doBoundary_alone hruns hbeat hlast hstays, advancePosition_eq hruns]
  exact beatBegun_decided (advancedTempo_runs hruns) rfl _

/-- R94, R95: beside the clock, a position advanced offers frames and changes nothing. -/
theorem advancePosition_blocks {s : State} (hruns : s.tempo.clock ≠ .stopped) :
    let a := advancePosition s
    a.power = s.power ∧ a.tempo = advancedTempo s ∧ a.settings = s.settings ∧ a.curves = s.curves ∧ a.pedals = s.pedals
      ∧ a.service = s.service := by
  dsimp only
  rw [advancePosition_eq hruns]
  exact ⟨rfl, rfl, rfl, rfl, rfl, rfl⟩

/-- R100: the Transport START of a count-in that ends stands before the frames of the beat. -/
theorem beatBegun_alone_offered {bar : Bool} {frames : State → Port → List Frame} {s t : State}
    (hruns : s.tempo.clock ≠ .stopped) (hbegun : BeatBegun bar frames (advancePosition s) t) :
    t = offeredTiming
          (fun q =>
            (if s.settings.outbound[q].tickOut = true ∧ countInEnds s = true then [.transport 1#8 1#16 1#8] else [])
              ++ frames t q)
          { s with tempo := t.tempo } := by
  obtain ⟨-, -, -, -, -, -, -, -, -, -, -, -, -, -, hoffered⟩ := hbegun
  have hadvanced (x : Tempo) : (advancePosition s).setTempo x
      = offeredTiming
          (fun q => if s.settings.outbound[q].tickOut = true ∧ countInEnds s = true then [.transport 1#8 1#16 1#8] else [])
          (s.setTempo x) := by
    rw [advancePosition_eq hruns]
    rfl
  have hboth := hoffered.trans (congrArg (offeredTiming _) (hadvanced t.tempo))
  rw [offeredTiming_offeredTiming] at hboth
  exact hboth

/-! ### A boundary that makes the switch of a WAITING change (R96, R124–R129) -/

section Switch
variable (copy : SceneCopy) (tg : Target)

/-- R125, R126, R96: the part as a switch at a boundary has handed the new copy over and reset the position for a new
song. -/
def boundarySwitched (copy : SceneCopy) (tg : Target) (a : State) : State :=
  if tg.song = true then positionReset (handedOver copy tg a) else handedOver copy tg a

theorem boundarySwitched_change (a : State) : (boundarySwitched copy tg a).change = (handedOver copy tg a).change := by
  unfold boundarySwitched
  split <;> rfl

/-- A switch at a boundary leaves these blocks alone. -/
theorem boundarySwitched_blocks (a : State) :
    let u := boundarySwitched copy tg a
    u.power = a.power ∧ u.settings = a.settings ∧ u.curves = a.curves ∧ u.pedals = a.pedals ∧ u.service = a.service := by
  dsimp only
  unfold boundarySwitched
  split <;> exact ⟨rfl, rfl, rfl, rfl, rfl⟩

theorem boundarySwitched_runs {a : State} (h : a.tempo.clock ≠ .stopped) :
    (boundarySwitched copy tg a).tempo.clock ≠ .stopped := by
  obtain ⟨hclock, -⟩ := handedOver_tempo copy tg a
  unfold boundarySwitched
  split
  · exact positionReset_runs _
  · rwa [hclock]

theorem boundarySwitched_beatPlaced (a : State) (f : Port) :
    (boundarySwitched copy tg a).tempo.feeds[f].beatPlaced = a.tempo.feeds[f].beatPlaced := by
  obtain ⟨-, hplaced, -⟩ := handedOver_tempo copy tg a
  rw [← hplaced]
  unfold boundarySwitched
  split <;> rfl

theorem boundarySwitched_subTick {a : State} (h : a.tempo.clock ≠ .stopped) (hzero : a.tempo.subTick = 0) :
    (boundarySwitched copy tg a).tempo.subTick = 0 := by
  obtain ⟨-, -, hsub, -⟩ := handedOver_position h copy tg
  unfold boundarySwitched
  split
  · rfl
  · exact hsub.trans hzero

/-- R89, R96, R124: a boundary that makes a switch begins its beat once the burst has been placed. -/
theorem doBoundary_switch_begun {s : State} {copy : SceneCopy} {tg : Target} (hruns : s.tempo.clock ≠ .stopped)
    (hbeat : 1 ≤ s.tempo.beat) (hlast : s.tempo.subTick = 959) (hmet : s.change.state = .waiting ∧ pointMetNext s)
    (hstaged : s.change.staged = some copy) (htarget : s.change.target = some tg) :
    BeatBegun (barEnds s || tg.song)
      (if tg.song = true then resetFrames true fun f => s.tempo.feeds[f].nextPlaced else subTickFrames 0)
      (endChange (placeBursts (boundarySwitched copy tg (advancePosition s)))) (doBoundary s) := by
  let a := advancePosition s
  let u := boundarySwitched copy tg a
  let v := endChange (placeBursts u)
  have ha : a.tempo = advancedTempo s := by
    dsimp only [a]
    rw [advancePosition_eq hruns]
    rfl
  have haruns : a.tempo.clock ≠ .stopped := by rw [ha]; exact advancedTempo_runs hruns
  have hustaged : u.change.staged = none := by rw [boundarySwitched_change]; rfl
  obtain ⟨hvtempo, -⟩ := burstPlaced_spec u hustaged
  have hvtempo : v.tempo = u.tempo := hvtempo
  have hvruns : v.tempo.clock ≠ .stopped := by rw [hvtempo]; exact boundarySwitched_runs copy tg haruns
  have hvzero : v.tempo.subTick = 0 := by
    rw [hvtempo]
    exact boundarySwitched_subTick copy tg haruns (by rw [ha]; rfl)
  have hvplaced : (fun f : Port => v.tempo.feeds[f].beatPlaced) = fun f => s.tempo.feeds[f].nextPlaced := by
    funext f
    rw [hvtempo, boundarySwitched_beatPlaced, ha, advancedTempo_beatPlaced]
  have hmade : switchMade .boundary copy tg a = u := switchMade_boundary haruns copy tg
  have hdo := doBoundary_switch hruns hbeat hlast hmet hstaged htarget
  rw [hmade] at hdo
  rw [hdo hvruns, ← hvplaced]
  split
  · exact beatBegun_reset hvzero _
  · exact beatBegun_decided hvruns hvzero _

/-- R96: the position once a switch at a boundary has been made. -/
theorem boundarySwitched_position {a : State} (h : a.tempo.clock ≠ .stopped) :
    (tg.song = false →
      (boundarySwitched copy tg a).tempo.beat = a.tempo.beat ∧ (boundarySwitched copy tg a).tempo.subTick = a.tempo.subTick)
    ∧ (tg.song = true →
      (boundarySwitched copy tg a).tempo.bar = 1 ∧ (boundarySwitched copy tg a).tempo.beat = 1
        ∧ (boundarySwitched copy tg a).tempo.subTick = 0
        ∧ (a.tempo.clock = .running ∨ copy.header.countIn = 0 → (boundarySwitched copy tg a).tempo.clock = .running)
        ∧ (a.tempo.clock = .countIn → copy.header.countIn ≠ 0 →
          (boundarySwitched copy tg a).tempo.clock = .countIn ∧ (boundarySwitched copy tg a).tempo.countInBar = 1)) := by
  obtain ⟨hclock, -⟩ := handedOver_tempo copy tg a
  obtain ⟨-, hbeat, hsub, -⟩ := handedOver_position h copy tg
  have hcount : (handedOver copy tg a).change.active.header.countIn = copy.header.countIn := rfl
  unfold boundarySwitched
  refine ⟨fun hsong => ?_, fun hsong => ?_⟩
  · rw [hsong]
    exact ⟨hbeat, hsub⟩
  · rw [if_pos hsong]
    refine ⟨rfl, rfl, rfl, fun hbegins => ?_, fun hcounting hsome => ?_⟩
    · rw [positionReset_begun]
      · rw [offerTransport_tempo]
        rfl
      · rw [hclock, hcount]
        rintro ⟨hcounting, hsome⟩
        rcases hbegins with hrunning | hnone
        · rw [hrunning] at hcounting
          cases hcounting
        · exact hsome hnone
    · rw [positionReset_counting (hclock.trans hcounting) (by rwa [hcount])]
      exact ⟨hclock.trans hcounting, rfl⟩

/-! ### The timing queues at a boundary (R13, R94, R96, R99, R100) -/

/-- R100, R128: a burst placed leaves the timing queues alone. -/
theorem burstPlaced_timing (s : State) (q : Port) :
    (endChange (placeBursts s)).link.outs[q].timing = s.link.outs[q].timing := by
  obtain ⟨added, hadded⟩ := placeBursts_added q s
  rw [endChange_link, hadded]

/-- R13, R100: a Transport offered to an empty timing queue. -/
theorem offerTransport_timing {s : State} {q : Port} (htick : s.settings.outbound[q].tickOut = true)
    (hempty : s.link.outs[q].timing = []) (action : Byte) (bar beat : Nat) :
    (offerTransport action bar beat s).link.outs[q].timing
      = tempoFrames [.transport action (BitVec.ofNat 16 bar) (BitVec.ofNat 8 beat)] := by
  rw [offerTransport, offerTickOut_eq, offeredTiming_outs, if_pos htick, hempty]
  rfl

theorem boundarySwitched_timing_same (hsong : tg.song = false) (a : State) (q : Port) :
    (boundarySwitched copy tg a).link.outs[q].timing = a.link.outs[q].timing := by
  unfold boundarySwitched
  rw [hsong]
  rfl

/-- R96, R100: the Transport START of a song that begins at a boundary of a running clock. -/
theorem boundarySwitched_timing_song {a : State} {q : Port} (hsong : tg.song = true) (hclock : a.tempo.clock = .running)
    (htick : a.settings.outbound[q].tickOut = true) (hempty : a.link.outs[q].timing = []) :
    (boundarySwitched copy tg a).link.outs[q].timing = tempoFrames [.transport 1#8 1#16 1#8] := by
  obtain ⟨hhanded, -⟩ := handedOver_tempo copy tg a
  have hnot : ¬((handedOver copy tg a).tempo.clock = .countIn
      ∧ (handedOver copy tg a).change.active.header.countIn ≠ 0) := by
    rw [hhanded, hclock]
    rintro ⟨hcounting, -⟩
    cases hcounting
  have htiming : (handedOver copy tg a).link.outs[q].timing = [] := hempty
  unfold boundarySwitched
  rw [if_pos hsong, positionReset_begun hnot]
  refine offerTransport_timing ?_ ?_ 1#8 1 1
  · exact htick
  · exact htiming

end Switch

/-- R94, R100: the Transport START of a count-in that ends at a boundary. -/
theorem advancePosition_timing {s : State} {q : Port} (hruns : s.tempo.clock ≠ .stopped)
    (htick : s.settings.outbound[q].tickOut = true) (hempty : s.link.outs[q].timing = []) :
    (advancePosition s).link.outs[q].timing = tempoFrames (if countInEnds s then [.transport 1#8 1#16 1#8] else []) := by
  rw [advancePosition_eq hruns, offeredTiming_outs]
  dsimp only [State.setTempo_link]
  rw [hempty]
  cases countInEnds s with
  | true => rw [if_pos ⟨htick, rfl⟩]; rfl
  | false => rw [if_neg (by simp)]; rfl

/-- R13: the first frame offered stands behind what a timing queue with room holds. -/
theorem offered_head_prefix {frames : Port → List Frame} {x : Tempo} {v t : State} {q : Port} {lead rest : List Frame}
    {f : Frame} (ht : t = offeredTiming frames { v with tempo := x }) (hlead : v.link.outs[q].timing = tempoFrames lead)
    (hroom : lead.length < 4) (hframes : frames q = f :: rest) : tempoFrames (lead ++ [f]) <+: t.link.outs[q].timing := by
  have hlength : (tempoFrames lead).length = lead.length := List.length_map ..
  rw [ht, offeredTiming_outs]
  dsimp only
  rw [hlead, hframes, hlength, tempoFrames, List.map_append]
  exact List.prefix_append_right_inj _ |>.mpr (tempoFrames_head_prefix f rest hroom)

/-- R99, R100: the Beat Tick is the first frame of sub-tick 0 on a tick-out port. -/
theorem beginFrames_head {song : Bool} {placed : Port → Bool} {t : State} {q : Port}
    (htick : t.settings.outbound[q].tickOut = true) :
    ∃ rest, (if song = true then resetFrames true placed else subTickFrames 0) t q = .beatTick :: rest := by
  split
  · rw [resetFrames_eq, if_pos ⟨rfl, htick⟩]
    exact ⟨_, rfl⟩
  · rw [subTickFrames_eq, if_pos ⟨htick, rfl⟩]
    exact ⟨_, rfl⟩

/-- R94, R96, R98, R100: what an empty timing queue holds first after a boundary with a switch: the Transport START of a
song or of a count-in's end, where there is one, and the Beat Tick. -/
theorem boundarySwitched_lead {copy : SceneCopy} {tg : Target} {s t : State} {x : Tempo} {q : Port}
    {frames : Port → List Frame} {rest : List Frame} (hruns : s.tempo.clock ≠ .stopped)
    (htick : s.settings.outbound[q].tickOut = true) (hempty : s.link.outs[q].timing = [])
    (ht : t = offeredTiming frames
      { endChange (placeBursts (boundarySwitched copy tg (advancePosition s))) with tempo := x })
    (hframes : frames q = .beatTick :: rest) :
    (tg.song = true → s.tempo.clock = .running →
        tempoFrames [.transport 1#8 1#16 1#8, .beatTick] <+: t.link.outs[q].timing)
      ∧ (tg.song = false → tempoFrames (if countInEnds s = true then [.transport 1#8 1#16 1#8, .beatTick]
          else [.beatTick]) <+: t.link.outs[q].timing) := by
  obtain ⟨-, htempo, hsettings, -⟩ := advancePosition_blocks hruns
  have hadvanced := advancePosition_timing hruns htick hempty
  have hplaced := burstPlaced_timing (boundarySwitched copy tg (advancePosition s)) q
  refine ⟨fun hnew hrunning => ?_, fun hsame => ?_⟩
  · rw [countInEnds_running hrunning] at hadvanced
    have hclock : (advancePosition s).tempo.clock = .running := by
      rw [htempo]
      exact (advancedTempo_running hrunning).1
    have hlead := hplaced.trans
      (boundarySwitched_timing_song copy tg hnew hclock (by rw [hsettings]; exact htick) hadvanced)
    exact offered_head_prefix ht hlead (by decide) hframes
  · have hlead := (hplaced.trans (boundarySwitched_timing_same copy tg hsame (advancePosition s) q)).trans hadvanced
    cases hends : countInEnds s with
    | true =>
      rw [hends] at hlead
      exact offered_head_prefix ht hlead (by decide) hframes
    | false =>
      rw [hends] at hlead
      exact offered_head_prefix ht hlead (by decide) hframes

/-- Settles O22: the beat that begins is `BeatBegun` of the advanced position, or of the part as the switch of a WAITING
change has left it. -/
theorem beatBoundary : Obligations.BeatBoundary := by
  intro s hpower hclockInv c wraps ends
  obtain ⟨-, -, -, -, -, -, -, hbeat, -⟩ := hclockInv
  have hexec : exec .beatBoundary s = .next (doBoundary s) := powered_of_power hpower
  rw [hexec]
  refine ⟨fun hidle => by rw [doBoundary_idle hidle], fun hruns hlast hstays => ?_,
    fun copy tg hruns hlast hstate hstaged htarget hmet => ?_⟩
  · have hbegun := doBoundary_alone_begun hruns hbeat hlast hstays
    obtain ⟨-, -, hadvanced⟩ := advancePosition_advanced hruns
    generalize doBoundary s = t at hbegun ⊢
    have hoffered := beatBegun_alone_offered hruns hbegun
    rw [advancePosition_eq hruns] at hbegun hadvanced
    obtain ⟨tclock, tbar, tbeat, tsub, tcount, tslot, tpending, tslots, tmeter, tramp, ttempo, tlength, toverride, ttaps,
      -⟩ := hbegun
    have tclock : t.tempo.clock = (advancedTempo s).clock := tclock
    have tbar : t.tempo.bar = (advancedTempo s).bar := tbar
    have tcount : t.tempo.countInBar = (advancedTempo s).countInBar := tcount
    intro pending slot
    refine ⟨t, rfl, hoffered, tsub, tslot, tpending, tslots, tbeat, ?_⟩
    rw [tclock, tbar, tcount]
    refine ⟨advancedTempo_running, advancedTempo_ends, fun hclock hbar hmore => ?_, fun hclock hbar => ?_, ?_, tramp,
      ttempo, tlength, fun f => (toverride f).trans (hadvanced f), ttaps⟩
    · have hends : countInEnds s = false :=
        Bool.eq_false_iff.mpr fun hends => Nat.not_le.mpr hmore ((countInEnds_iff s).mp hends).2.2
      obtain ⟨hclock', hbar', hcount⟩ := advancedTempo_counting hclock hends
      exact ⟨hclock', hbar', hcount.trans (if_pos hbar)⟩
    · have hends : countInEnds s = false :=
        Bool.eq_false_iff.mpr fun hends => Bool.eq_false_iff.mp hbar ((countInEnds_iff s).mp hends).2.1
      obtain ⟨hclock', hbar', hcount⟩ := advancedTempo_counting hclock hends
      exact ⟨hclock', hbar', hcount.trans (if_neg (Bool.eq_false_iff.mp hbar))⟩
    · have hfirst : t.tempo.beat = 1 ↔ barEnds s = true := by
        rw [← advancedTempo_beat_eq_one hbeat]
        exact Eq.congr_left tbeat
      rw [tmeter]
      simp only [hfirst]
      rfl
  · let a := advancePosition s
    let u := boundarySwitched copy tg a
    let v := endChange (placeBursts u)
    have hbegun := doBoundary_switch_begun hruns hbeat hlast ⟨hstate, hmet⟩ hstaged htarget
    generalize doBoundary s = t at hbegun ⊢
    have hadvanced := advancePosition_advanced hruns
    obtain ⟨hapower, hatempo, hasettings, hacurves, hapedals, haservice⟩ := advancePosition_blocks hruns
    have haruns : a.tempo.clock ≠ .stopped := by
      rw [hatempo]
      exact advancedTempo_runs hruns
    obtain ⟨hupower, husettings, hucurves, hupedals, huservice⟩ := boundarySwitched_blocks copy tg a
    have huchange := boundarySwitched_change copy tg a
    obtain ⟨vtempo, -, -, vactive, ventry, vscene, vpage, vadjusted⟩ := burstPlaced_spec u (by rw [huchange]; rfl)
    obtain ⟨vsettings, vcurves, vpedals, vservice⟩ := burstPlaced_blocks u
    obtain ⟨tclock, tbar, tbeat, tsub, tcount, -, -, -, -, -, -, -, -, -, toffered⟩ := id hbegun
    obtain ⟨hscene, hsong⟩ := boundarySwitched_position copy tg haruns
    obtain ⟨tsettings, tcurves, tchange, tpedals, tservice⟩ := blocks_of_offered toffered
    have tsettings := tsettings.trans (vsettings.trans (husettings.trans hasettings))
    refine ⟨t, rfl, ⟨a, u, v, hadvanced, rfl, exec_burstPlace (hupower.trans (hapower.trans hpower)), hbegun⟩, ?_, ?_, ?_,
      ?_, ?_, tsettings, tcurves.trans (vcurves.trans (hucurves.trans hacurves)),
      tpedals.trans (vpedals.trans (hupedals.trans hapedals)),
      tservice.trans (vservice.trans (huservice.trans haservice)), fun hsame => ?_, fun hnew => ?_,
      fun q htick hempty => ?_⟩
    · rw [tchange, vactive, huchange]; rfl
    · rw [tchange, ventry, huchange]; rfl
    · rw [tchange, vscene, huchange]; rfl
    · rw [tchange, vpage, huchange]; rfl
    · rw [tchange, vadjusted, huchange]; rfl
    · obtain ⟨hubeat, husub⟩ := hscene hsame
      rw [tbeat, tsub, vtempo, hubeat, husub, hatempo]
      exact ⟨rfl, rfl⟩
    · obtain ⟨hubar, hubeat, husub, hubegins, hucounts⟩ := hsong hnew
      rw [tclock, tbar, tbeat, tsub, tcount, vtempo, hubar, hubeat, husub]
      refine ⟨rfl, rfl, rfl, fun hbegins => hubegins ?_, fun hcounting hends hsome => hucounts ?_ hsome⟩
      · rw [hatempo]
        rcases hbegins with hrunning | hends | hnone
        · exact .inl (advancedTempo_running hrunning).1
        · exact .inl (advancedTempo_ends hends).1
        · exact .inr hnone
      · rw [hatempo]
        exact (advancedTempo_counting hcounting hends).1
    · obtain ⟨rest, hframes⟩ := beginFrames_head (song := tg.song) (placed := fun f => s.tempo.feeds[f].nextPlaced)
        (t := t) (q := q) (by rw [tsettings]; exact htick)
      exact boundarySwitched_lead hruns htick hempty toffered hframes

end Sys2Proof.Machine
end

section
/-! SUPPORT. Sustain (R69–R73, R78): what a sustain down and a sustain up leave of the held part, and the Controls they
offer. -/

namespace Sys2Proof.Machine

/-! ### Sustain records and hold counts -/

theorem modifySustain_record (p q : Port) (l m : Lane) (f : SustainRecord → SustainRecord) (s : State) :
    (modifySustain p l f s).held.sustain[q][m]
      = if (q, m) = (p, l) then f s.held.sustain[p][l] else s.held.sustain[q][m] := by
  show (upd s.held.sustain p fun lanes => upd lanes l f)[q][m] = _
  rw [upd_getElem]
  by_cases hq : q = p
  · subst hq
    rw [if_pos rfl, upd_getElem]
    simp only [Prod.mk.injEq, true_and]
  · rw [if_neg hq, if_neg fun h => hq (Prod.mk.inj h).1]

theorem holdCount_modifyHold (d e : DestLane) (f : Nat → Nat) (s : State) :
    holdCount e (modifyHold d f s) = if e = d then f (holdCount d s) else holdCount e s := by
  obtain ⟨p, l⟩ := d
  obtain ⟨q, m⟩ := e
  show (upd s.held.holds p fun lanes => upd lanes l f)[q][m] = _
  rw [upd_getElem]
  by_cases hq : q = p
  · subst hq
    rw [if_pos rfl, upd_getElem]
    simp only [DestLane.mk.injEq, true_and]
    rfl
  · rw [if_neg hq, if_neg fun h => hq (DestLane.mk.inj h).1]
    rfl

/-! ### Controls offered and lanes refused -/

/-- The sustain Controls of destination lanes offered to the play queues, in order. -/
def lanesOffered (v : Half) (ds : List DestLane) (s : State) : State :=
  offeredPlay (fun q => (ds.filter fun d => d.port == q).map (sustainFrame v)) s

theorem lanesOffered_eq_foldl (v : Half) (ds : List DestLane) (s : State) :
    lanesOffered v ds s = ds.foldl (fun s d => offerSustain d v s) s := (foldl_offerPlay ..).symm

theorem lanesOffered_append (v : Half) (ds es : List DestLane) (s : State) :
    lanesOffered v es (lanesOffered v ds s) = lanesOffered v (ds ++ es) s := by
  rw [lanesOffered_eq_foldl, lanesOffered_eq_foldl, lanesOffered_eq_foldl, List.foldl_append]

theorem lanesOffered_nil (v : Half) (s : State) : lanesOffered v [] s = s := lanesOffered_eq_foldl v [] s

theorem lanesOffered_singleton (v : Half) (d : DestLane) (s : State) : lanesOffered v [d] s = offerSustain d v s :=
  lanesOffered_eq_foldl v [d] s

theorem lanesOffered_filter (v : Half) (sounds : DestLane → Bool) (ds : List DestLane) (s : State) :
    lanesOffered v (ds.filter sounds) s
      = offeredPlay (fun q => (ds.filter fun d => d.port == q && sounds d).map (sustainFrame v)) s := by
  unfold lanesOffered
  simp only [List.filter_filter]

/-- R71: `n` destination lanes refused because their hold count stands at its limit. -/
def overflowed (n : Nat) (s : State) : State :=
  { s with
    status :=
      { s.status with
        heldOverflows := countedUp s.status.heldOverflows n, overrun := s.status.overrun || decide (n ≠ 0) } }

theorem overflowed_zero (s : State) : overflowed 0 s = s := by
  unfold overflowed
  rw [countedUp_zero, decide_eq_false (not_not.mpr rfl), Bool.or_false]

theorem overflowed_one (s : State) : overflowed 1 s = countHeldOverflow s := by
  unfold overflowed
  rw [countedUp_one, decide_eq_true (by decide), Bool.or_true]
  rfl

theorem overflowed_overflowed (m n : Nat) (s : State) : overflowed n (overflowed m s) = overflowed (m + n) s := by
  have hor : (decide (m ≠ 0) || decide (n ≠ 0)) = decide (m + n ≠ 0) := by
    rw [Bool.eq_iff_iff, Bool.or_eq_true, decide_eq_true_iff, decide_eq_true_iff, decide_eq_true_iff]
    omega
  unfold overflowed
  dsimp only
  rw [countedUp_countedUp, Bool.or_assoc, hor]

theorem overflowed_lanesOffered (n : Nat) (v : Half) (ds : List DestLane) (s : State) :
    overflowed n (lanesOffered v ds s) = lanesOffered v ds (overflowed n s) := by
  unfold overflowed lanesOffered offeredPlay
  dsimp only
  rw [Bool.or_right_comm]

/-- What a step of the sustain handling does outside the held part: it offers the Controls of some lanes, and refuses
some lanes. -/
def SustainStep (v : Half) (ds : List DestLane) (n : Nat) (s t : State) : Prop :=
  t = lanesOffered v ds (overflowed n (s.setHeld t.held))

/-- A step that offers and refuses nothing. -/
theorem SustainStep.of_held (v : Half) (h : Held) (s : State) : SustainStep v [] 0 s (s.setHeld h) := by
  unfold SustainStep
  rw [overflowed_zero, lanesOffered_nil]
  rfl

theorem SustainStep.trans {v : Half} {ds es : List DestLane} {m n : Nat} {s t u : State} (h : SustainStep v ds m s t)
    (h' : SustainStep v es n t u) : SustainStep v (ds ++ es) (m + n) s u := by
  unfold SustainStep at h
  have hu : u = lanesOffered v es (overflowed n (t.setHeld u.held)) := h'
  have ht : t.setHeld u.held = lanesOffered v ds (overflowed m (s.setHeld u.held)) :=
    congrArg (fun x : State => x.setHeld u.held) h
  rw [ht, overflowed_lanesOffered, overflowed_overflowed, lanesOffered_append] at hu
  exact hu

/-- The step that hands or undoes one lane: the held part changed, and perhaps its Control offered. -/
theorem SustainStep.offer_of_held (v : Half) (h : Held) (c : Bool) (d : DestLane) (s : State) :
    SustainStep v (if c then [d] else []) 0 s (if c then offerSustain d v (s.setHeld h) else s.setHeld h) := by
  cases c
  · exact .of_held v h s
  · unfold SustainStep
    rw [if_pos rfl, if_pos rfl, overflowed_zero, lanesOffered_singleton, offerSustain_held]
    rfl

/-! ### Sustain down (R71, R73) -/

/-- What the lanes `added` to the forwarded list of source lane (p, l) leave of the held part. -/
structure LanesHanded (p : Port) (l : Lane) (added : List DestLane) (s t : State) : Prop where
  record : t.held.sustain[p][l]
    = { s.held.sustain[p][l] with forwarded := s.held.sustain[p][l].forwarded ++ added }
  others : ∀ (q : Port) (m : Lane), (q, m) ≠ (p, l) → t.held.sustain[q][m] = s.held.sustain[q][m]
  table : t.held.table = s.held.table
  releaseOrder : t.held.releaseOrder = s.held.releaseOrder
  holds : ∀ d : DestLane, holdCount d t = holdCount d s + if added.contains d then 1 else 0

theorem LanesHanded.of_held_eq {p : Port} {l : Lane} {s t : State} (h : t.held = s.held) : LanesHanded p l [] s t := by
  refine ⟨?_, fun _ _ _ => ?_, ?_, ?_, fun d => ?_⟩
  · rw [h, List.append_nil]
  · rw [h]
  · rw [h]
  · rw [h]
  · unfold holdCount
    rw [h]
    rfl

theorem LanesHanded.trans {p : Port} {l : Lane} {added added' : List DestLane} {s t u : State}
    (h : LanesHanded p l added s t) (h' : LanesHanded p l added' t u) (hdisjoint : added.Disjoint added') :
    LanesHanded p l (added ++ added') s u := by
  refine ⟨?_, fun q m hne => (h'.others q m hne).trans (h.others q m hne), h'.table.trans h.table,
    h'.releaseOrder.trans h.releaseOrder, fun d => ?_⟩
  · rw [h'.record, h.record, List.append_assoc]
  · rw [h'.holds, h.holds]
    by_cases hd : d ∈ added
    · have hd' : d ∉ added' := fun h => hdisjoint hd h
      simp [hd, hd']
    · simp [hd]

/-- R71: what listing a lane and counting it up leaves of the held part. -/
theorem modifyHold_modifySustain_handed (p : Port) (l : Lane) (d : DestLane) (s : State) :
    LanesHanded p l [d] s
      (modifyHold d (· + 1) (modifySustain p l (fun r => { r with forwarded := r.forwarded ++ [d] }) s)) := by
  have hrecord (q : Port) (m : Lane) := modifySustain_record p q l m
    (fun r => { r with forwarded := r.forwarded ++ [d] }) s
  refine ⟨(hrecord p l).trans (if_pos rfl), fun q m hne => (hrecord q m).trans (if_neg hne), rfl, rfl, fun e => ?_⟩
  refine (holdCount_modifyHold ..).trans ?_
  by_cases hed : e = d
  · subst hed
    rw [if_pos rfl, if_pos (by simp)]
    rfl
  · rw [if_neg hed, if_neg (by simpa using hed)]
    rfl

/-- A lane of the forwarding list that is not listed yet. -/
def isNew (p : Port) (l : Lane) (s : State) (d : DestLane) : Bool := !s.held.sustain[p][l].forwarded.contains d

/-- R71: the new lanes that a down edge adds to the forwarded list. -/
def addedLanes (p : Port) (l : Lane) (ds : List DestLane) (s : State) : List DestLane :=
  (ds.filter (isNew p l s)).filter fun d => holdCount d s < 16

/-- R71: the new lanes that a down edge refuses, their hold counts at the limit. -/
def refusedLanes (p : Port) (l : Lane) (ds : List DestLane) (s : State) : List DestLane :=
  (ds.filter (isNew p l s)).filter fun d => 16 ≤ holdCount d s

/-- R71: the added lanes whose hold count was 0, which are sent a Control. -/
def soundedLanes (p : Port) (l : Lane) (ds : List DestLane) (s : State) : List DestLane :=
  (addedLanes p l ds s).filter fun d => holdCount d s == 0

/-- R71, R73: what handing the lanes `ds` with a down edge of source lane (p, l) leaves of the part. -/
def HandedOn (p : Port) (l : Lane) (ds : List DestLane) (s t : State) : Prop :=
  SustainStep 16383#16 (soundedLanes p l ds s) (refusedLanes p l ds s).length s t
    ∧ LanesHanded p l (addedLanes p l ds s) s t

/-- R71: one lane of the forwarding list: listed already, refused at the limit, or added. -/
theorem forwardLane_handedOn (p : Port) (l : Lane) (d : DestLane) (s : State) :
    HandedOn p l [d] s (forwardLane p l s d) := by
  unfold HandedOn soundedLanes addedLanes refusedLanes forwardLane isNew
  by_cases hlisted : s.held.sustain[p][l].forwarded.contains d = true
  · rw [if_pos hlisted, List.filter_cons_of_neg (by simpa using hlisted)]
    exact ⟨.of_held _ s.held s, .of_held_eq rfl⟩
  · rw [if_neg hlisted, List.filter_cons_of_pos (by simpa using hlisted), List.filter_nil]
    by_cases hfull : 16 ≤ holdCount d s
    · rw [if_pos (show Config.holdLimit ≤ holdCount d s from hfull),
        List.filter_cons_of_neg (by simpa using hfull), List.filter_cons_of_pos (by simpa using hfull)]
      refine ⟨?_, .of_held_eq rfl⟩
      show _ = lanesOffered _ [] (overflowed 1 s)
      rw [overflowed_one, lanesOffered_nil]
    · rw [if_neg (show ¬Config.holdLimit ≤ holdCount d s from hfull)]
      have hadded : ([d].filter fun d => decide (holdCount d s < 16)) = [d] :=
        List.filter_cons_of_pos (by simpa using Nat.lt_of_not_le hfull)
      have hrefused : ([d].filter fun d => decide (16 ≤ holdCount d s)) = [] :=
        List.filter_cons_of_neg (by simpa using hfull)
      rw [hadded, hrefused, List.filter_cons, List.filter_nil]
      have hhanded := modifyHold_modifySustain_handed p l d s
      refine ⟨SustainStep.offer_of_held 16383#16 _ (holdCount d s == 0) d s, ?_⟩
      dsimp only
      split
      · obtain ⟨hrecord, hothers, htable, hreleaseOrder, hholds⟩ := hhanded
        rw [← offerSustain_held _ d 16383#16] at hrecord hothers htable hreleaseOrder
        exact ⟨hrecord, hothers, htable, hreleaseOrder, fun e => by
          unfold holdCount
          rw [offerSustain_held]
          exact hholds e⟩
      · exact hhanded

theorem mem_addedLanes {p : Port} {l : Lane} {ds : List DestLane} {s : State} {d : DestLane}
    (h : d ∈ addedLanes p l ds s) : d ∈ ds := List.mem_of_mem_filter (List.mem_of_mem_filter h)

/-- R71: the lanes of a forwarding list handed one after the other; the lanes being distinct, one does not change what
becomes of another. -/
theorem foldl_forwardLane {p : Port} {l : Lane} {ds : List DestLane} {s : State} (hnodup : ds.Nodup) :
    HandedOn p l ds s (ds.foldl (forwardLane p l) s) := by
  induction ds generalizing s with
  | nil => exact ⟨.of_held _ s.held s, .of_held_eq rfl⟩
  | cons d ds ih =>
    obtain ⟨hd, hds⟩ := List.nodup_cons.mp hnodup
    obtain ⟨hstep, hhanded⟩ := forwardLane_handedOn p l d s
    have hnot (e : DestLane) (he : e ∈ ds) : e ∉ addedLanes p l [d] s := fun h =>
      hd (List.mem_singleton.mp (mem_addedLanes h) ▸ he)
    have hcount (e : DestLane) (he : e ∈ ds) : holdCount e (forwardLane p l s d) = holdCount e s := by
      rw [hhanded.holds, if_neg (by simpa using hnot e he), Nat.add_zero]
    have hnew : ds.filter (isNew p l (forwardLane p l s d)) = ds.filter (isNew p l s) := by
      refine List.filter_congr fun e he => ?_
      unfold isNew
      rw [hhanded.record, List.contains_eq_mem, List.contains_eq_mem]
      simp [hnot e he]
    have hadded : addedLanes p l ds (forwardLane p l s d) = addedLanes p l ds s := by
      unfold addedLanes
      rw [hnew]
      exact List.filter_congr fun e he => by rw [hcount e (List.mem_of_mem_filter he)]
    have hrefused : refusedLanes p l ds (forwardLane p l s d) = refusedLanes p l ds s := by
      unfold refusedLanes
      rw [hnew]
      exact List.filter_congr fun e he => by rw [hcount e (List.mem_of_mem_filter he)]
    have hsounded : soundedLanes p l ds (forwardLane p l s d) = soundedLanes p l ds s := by
      unfold soundedLanes
      rw [hadded]
      exact List.filter_congr fun e he => by rw [hcount e (mem_addedLanes he)]
    obtain ⟨hsteps, hrest⟩ := ih (s := forwardLane p l s d) hds
    rw [hadded] at hrest
    rw [hsounded, hrefused] at hsteps
    have hcons (f g : DestLane → Bool) : ((d :: ds).filter f).filter g
        = ([d].filter f).filter g ++ (ds.filter f).filter g := by
      rw [← List.filter_append, ← List.filter_append]
      rfl
    have hlanes : addedLanes p l (d :: ds) s = addedLanes p l [d] s ++ addedLanes p l ds s := hcons ..
    have hrefusals : refusedLanes p l (d :: ds) s = refusedLanes p l [d] s ++ refusedLanes p l ds s := hcons ..
    unfold HandedOn soundedLanes
    rw [hlanes, hrefusals, List.filter_append, List.length_append]
    exact ⟨hstep.trans hsteps, hhanded.trans hrest fun e he he' => hnot e (mem_addedLanes he') he⟩

theorem forwardingList_nodup (s : State) (p : Port) (l : Lane) : (forwardingList s p l).Nodup := by
  unfold forwardingList
  rw [destLanes_filter]
  exact firstOf_nodup ..

/-- The Controls offered and the lanes refused, as the statement of a sustain down writes them. -/
theorem lanesOffered_overflowed (v : Half) (sounds : DestLane → Bool) (added refused : List DestLane) (h : Held)
    (s : State) :
    lanesOffered v (added.filter sounds) (overflowed refused.length (s.setHeld h))
      = offeredPlay (fun q => (added.filter fun d => d.port == q && sounds d).map (sustainFrame v))
          { s with
            held := h
            status :=
              { s.status with
                heldOverflows := countedUp s.status.heldOverflows refused.length
                overrun := s.status.overrun || !refused.isEmpty } } := by
  have hsome : decide (refused.length ≠ 0) = !refused.isEmpty := by cases refused <;> rfl
  rw [lanesOffered_filter]
  unfold overflowed
  rw [hsome]
  rfl

/-- R71, R73: a sustain down with its forwarding list. -/
theorem sustainDown_sustainedDown (p : Port) (l : Lane) (s : State) :
    SustainedDown p l s (sustainDown p l (forwardingList s p l) s) := by
  have hnodup := forwardingList_nodup s p l
  unfold SustainedDown sustainDown laneDown
  generalize forwardingList s p l = ds at hnodup ⊢
  refine ⟨fun hdown => if_pos hdown, fun hdown => ?_⟩
  rw [if_neg (by rw [hdown]; decide)]
  have hmarked (q : Port) (m : Lane) := modifySustain_record p q l m (fun r => { r with down := true }) s
  have hrecord := (hmarked p l).trans (if_pos rfl)
  obtain ⟨hstep, hhanded⟩ := foldl_forwardLane (p := p) (l := l)
    (s := modifySustain p l (fun r => { r with down := true }) s) hnodup
  have hnew : isNew p l (modifySustain p l (fun r => { r with down := true }) s) = isNew p l s := by
    funext d
    unfold isNew
    rw [hrecord]
  have hadded : addedLanes p l ds (modifySustain p l (fun r => { r with down := true }) s)
      = addedLanes p l ds s := congrArg (fun f => List.filter _ (List.filter f _)) hnew
  have hrefused : refusedLanes p l ds (modifySustain p l (fun r => { r with down := true }) s)
      = refusedLanes p l ds s := congrArg (fun f => List.filter _ (List.filter f _)) hnew
  unfold soundedLanes at hstep
  rw [hadded, hrefused] at hstep
  rw [hadded] at hhanded
  generalize ds.foldl (forwardLane p l) _ = t at hstep hhanded ⊢
  have hoffered : t = lanesOffered 16383#16 ((addedLanes p l ds s).filter fun d => holdCount d s == 0)
      (overflowed (refusedLanes p l ds s).length (s.setHeld t.held)) := hstep
  refine ⟨?_, ?_, hhanded.table, hhanded.releaseOrder, hhanded.holds, fun q m hne => ?_⟩
  · rw [lanesOffered_overflowed] at hoffered
    exact hoffered
  · rw [hhanded.record, hrecord]
    rfl
  · rw [hhanded.others q m hne]
    exact (hmarked q m).trans (if_neg hne)

end Sys2Proof.Machine

end

section
/-! SUPPORT. Sustain up and PANIC (R72, R73, R78): what they leave of the held part, and the Controls they offer. -/

namespace Sys2Proof.Machine

/-! ### The forwarded list undone (R72, step 3) -/

/-- What a step that only offers sustain Controls and changes the held part leaves alone. -/
theorem SustainStep.frame {v : Half} {ds : List DestLane} {n : Nat} {s t : State} (h : SustainStep v ds n s t) :
    { t with link := s.link, held := s.held, status := s.status } = s := by
  unfold SustainStep at h
  generalize t.held = held at h
  subst h
  rfl

theorem SustainStep.eq_lanesOffered {v : Half} {ds : List DestLane} {s t : State} (h : SustainStep v ds 0 s t) :
    t = lanesOffered v ds { s with held := t.held } := by
  unfold SustainStep at h
  rw [overflowed_zero] at h
  exact h

theorem unforwardLane_held (s : State) (d : DestLane) : (unforwardLane s d).held = (modifyHold d (· - 1) s).held := by
  unfold unforwardLane
  dsimp only
  split
  · exact offerSustain_held ..
  · rfl

theorem unforwardLane_step (s : State) (d : DestLane) :
    SustainStep 0#16 (if holdCount d s - 1 == 0 then [d] else []) 0 s (unforwardLane s d) := by
  have hcount : holdCount d (modifyHold d (· - 1) s) = holdCount d s - 1 :=
    (holdCount_modifyHold ..).trans (if_pos rfl)
  unfold unforwardLane
  dsimp only
  rw [hcount]
  exact .offer_of_held 0#16 (modifyHold d (· - 1) s).held _ d s

/-- R72: the lanes of a forwarded list undone one after the other. -/
theorem foldl_unforwardLane (ds : List DestLane) (s : State) :
    ∃ lanes, SustainStep 0#16 lanes 0 s (ds.foldl unforwardLane s)
      ∧ (ds.Nodup → lanes = ds.filter fun d => holdCount d s - 1 == 0)
      ∧ (ds.foldl unforwardLane s).held.sustain = s.held.sustain
      ∧ (ds.foldl unforwardLane s).held.table = s.held.table
      ∧ (ds.foldl unforwardLane s).held.releaseOrder = s.held.releaseOrder
      ∧ ∀ d, holdCount d (ds.foldl unforwardLane s) = holdCount d s - ds.count d := by
  induction ds generalizing s with
  | nil => exact ⟨[], .of_held _ s.held s, fun _ => rfl, rfl, rfl, rfl, fun _ => rfl⟩
  | cons d ds ih =>
    have hcount (e : DestLane) : holdCount e (unforwardLane s d) = if e = d then holdCount d s - 1 else holdCount e s := by
      rw [← holdCount_modifyHold d e (· - 1) s]
      unfold holdCount
      rw [unforwardLane_held]
    obtain ⟨lanes, hstep, hlanes, hsustain, htable, hreleaseOrder, hholds⟩ := ih (unforwardLane s d)
    rw [unforwardLane_held] at hsustain htable hreleaseOrder
    refine ⟨_, (unforwardLane_step s d).trans hstep, fun hnodup => ?_, hsustain, htable, hreleaseOrder, fun e => ?_⟩
    · obtain ⟨hd, hds⟩ := List.nodup_cons.mp hnodup
      have hsame : (ds.filter fun e => holdCount e (unforwardLane s d) - 1 == 0)
          = ds.filter fun e => holdCount e s - 1 == 0 :=
        List.filter_congr fun e he => by
          rw [hcount, if_neg fun h : e = d => hd (h ▸ he)]
      rw [hlanes hds, hsame, List.filter_cons]
      split <;> rfl
    · rw [List.foldl_cons, hholds, hcount, List.count_cons]
      by_cases he : e = d
      · subst he
        simp only [if_true, beq_self_eq_true]
        omega
      · rw [if_neg he, if_neg (by simpa using fun h => he h.symm), Nat.add_zero]

/-! ### Sustain up (R72, R73) -/

/-- The entries that a sustain up of source lane (p, l) makes RELEASING. -/
def sustainedOn (p : Port) (l : Lane) (e : Entry) : Bool :=
  decide (e.state = .sustained ∧ e.ident.src.port = p ∧ e.ident.src.lane = l)

/-- What a sustain up on source lane (p, l), whose flag is down, leaves of the held part. -/
structure LaneLetGo (p : Port) (l : Lane) (s t : State) : Prop where
  record : t.held.sustain[p][l] = { down := false, forwarded := [] }
  others : ∀ (q : Port) (m : Lane), (q, m) ≠ (p, l) → t.held.sustain[q][m] = s.held.sustain[q][m]
  table : t.held.table = s.held.table.map fun e => if sustainedOn p l e then { e with state := .releasing } else e
  releaseOrder : t.held.releaseOrder = s.held.releaseOrder ++ (s.held.table.filter (sustainedOn p l)).map (·.ident)
  holds : ∀ d : DestLane, holdCount d t = holdCount d s - s.held.sustain[p][l].forwarded.count d

/-- R72: a sustain up on a lane whose flag is down. -/
theorem sustainUp_letGo {p : Port} {l : Lane} {s : State} (hdown : s.held.sustain[p][l].down = true) :
    LaneLetGo p l s (sustainUp p l s)
      ∧ ∃ lanes, SustainStep 0#16 lanes 0 s (sustainUp p l s)
        ∧ (s.held.sustain[p][l].forwarded.Nodup →
          lanes = s.held.sustain[p][l].forwarded.filter fun d => holdCount d s - 1 == 0) := by
  have hwhich : (fun e : Entry => e.state == .sustained && e.ident.src.port == p && e.ident.src.lane == l)
      = sustainedOn p l := by
    funext e
    unfold sustainedOn
    rw [Bool.eq_iff_iff]
    simp [and_assoc]
  unfold sustainUp laneDown
  rw [if_pos hdown, hwhich]
  dsimp only
  generalize hds : s.held.sustain[p][l].forwarded = ds
  let lifted := modifySustain p l (fun r => { r with down := false }) s
  let released := makeReleasing (sustainedOn p l) (fun e => e.release) lifted
  obtain ⟨lanes, hstep, hlanes, hsustain, htable, hreleaseOrder, hholds⟩ := foldl_unforwardLane ds released
  generalize ds.foldl unforwardLane released = undone at hstep hsustain htable hreleaseOrder hholds
  change undone.held.sustain = lifted.held.sustain at hsustain
  have hrecord (q : Port) (m : Lane) := modifySustain_record p q l m (fun r => { r with forwarded := [] }) undone
  have hlifted (q : Port) (m : Lane) := modifySustain_record p q l m (fun r => { r with down := false }) s
  refine ⟨⟨?_, fun q m hne => ?_, ?_, ?_, fun d => ?_⟩, lanes, ?_, hlanes⟩
  · rw [(hrecord p l).trans (if_pos rfl), hsustain, (hlifted p l).trans (if_pos rfl)]
  · rw [(hrecord q m).trans (if_neg hne), hsustain, (hlifted q m).trans (if_neg hne)]
  · exact htable
  · exact hreleaseOrder
  · exact hds ▸ hholds d
  · have hstep' : SustainStep 0#16 lanes 0 s undone := hstep
    have hemptied := hstep'.trans
      (.of_held _ (modifySustain p l (fun r => { r with forwarded := [] }) undone).held undone)
    rw [List.append_nil] at hemptied
    exact hemptied

theorem sustainUp_sustainedUp (p : Port) (l : Lane) (s : State) : SustainedUp p l s (sustainUp p l s) := by
  refine ⟨fun hup => if_neg (by unfold laneDown; rw [hup]; decide), fun hdown => ?_⟩
  obtain ⟨hletGo, lanes, hstep, hlanes⟩ := sustainUp_letGo hdown
  refine ⟨hstep.frame, fun hnodup => ?_, hletGo.record, hletGo.table, hletGo.releaseOrder, hletGo.holds, hletGo.others⟩
  have hoffered := hstep.eq_lanesOffered
  rw [hlanes hnodup, lanesOffered_filter] at hoffered
  exact hoffered

/-! ### PANIC (R78) -/

/-- A sustain up of a source lane no entry of which is SUSTAINED, the flag being up or down. -/
structure LaneLifted (pl : Port × Lane) (s t : State) : Prop where
  table : t.held.table = s.held.table
  releaseOrder : t.held.releaseOrder = s.held.releaseOrder
  record : t.held.sustain[pl.1][pl.2]
    = if s.held.sustain[pl.1][pl.2].down then { down := false, forwarded := [] } else s.held.sustain[pl.1][pl.2]
  others : ∀ m : Port × Lane, m ≠ pl → t.held.sustain[m.1][m.2] = s.held.sustain[m.1][m.2]

/-- R69: a forwarded list names a lane once, and is empty while its flag is up. -/
def WellListed (r : SustainRecord) : Prop := r.forwarded.Nodup ∧ (r.down = false → r.forwarded = [])

theorem sustainUp_lifted (pl : Port × Lane) {s : State} (hnone : ∀ e ∈ s.held.table, e.state ≠ .sustained) :
    LaneLifted pl s (sustainUp pl.1 pl.2 s)
      ∧ ∃ lanes, SustainStep 0#16 lanes 0 s (sustainUp pl.1 pl.2 s)
        ∧ (WellListed s.held.sustain[pl.1][pl.2] →
          lanes = s.held.sustain[pl.1][pl.2].forwarded.filter (fun d => holdCount d s - 1 == 0)
            ∧ ∀ d, holdCount d (sustainUp pl.1 pl.2 s)
              = holdCount d s - s.held.sustain[pl.1][pl.2].forwarded.count d) := by
  cases hdown : s.held.sustain[pl.1][pl.2].down
  · have hsame : sustainUp pl.1 pl.2 s = s := if_neg (by unfold laneDown; rw [hdown]; decide)
    rw [hsame]
    refine ⟨⟨rfl, rfl, by rw [hdown]; rfl, fun _ _ => rfl⟩, [], .of_held _ s.held s, fun hlisted => ?_⟩
    rw [hlisted.2 hdown]
    exact ⟨rfl, fun _ => rfl⟩
  · obtain ⟨hletGo, lanes, hstep, hlanes⟩ := sustainUp_letGo hdown
    have hnot (e : Entry) (he : e ∈ s.held.table) : sustainedOn pl.1 pl.2 e = false :=
      decide_eq_false fun h => hnone e he h.1
    refine ⟨⟨?_, ?_, ?_, fun m hm => hletGo.others m.1 m.2 hm⟩, lanes, hstep, fun hlisted =>
      ⟨hlanes hlisted.1, hletGo.holds⟩⟩
    · rw [hletGo.table]
      exact (List.map_congr_left fun e he => if_neg (by rw [hnot e he]; decide)).trans (List.map_id _)
    · rw [hletGo.releaseOrder, List.filter_eq_nil_iff.mpr fun e he => by rw [hnot e he]; decide]
      exact List.append_nil _
    · rw [hdown]
      exact hletGo.record

/-- The source lanes of a list in their state before a PANIC reaches them: well listed, each once, and their lists
counted by the hold counts. -/
structure LanesCounted (ls : List (Port × Lane)) (s : State) : Prop where
  nodup : ls.Nodup
  listed : ∀ pl ∈ ls, WellListed s.held.sustain[pl.1][pl.2]
  counted : ∀ d, holdCount d s = ls.countP fun pl => s.held.sustain[pl.1][pl.2].forwarded.contains d

theorem lastListed_congr {s t : State} {ls : List (Port × Lane)}
    (h : ∀ pl ∈ ls, t.held.sustain[pl.1][pl.2] = s.held.sustain[pl.1][pl.2]) : lastListed t ls = lastListed s ls := by
  induction ls with
  | nil => rfl
  | cons pl ls ih =>
    have hrest (m : Port × Lane) (hm : m ∈ ls) := h m (List.mem_cons_of_mem _ hm)
    unfold lastListed
    rw [ih hrest, h pl List.mem_cons_self]
    congr 1
    refine List.filter_congr fun d _ => ?_
    rw [Bool.eq_iff_iff, List.all_eq_true, List.all_eq_true]
    exact forall₂_congr fun m hm => by rw [hrest m hm]

/-- What is counted once the first lane of the list is lifted. -/
theorem LanesCounted.tail {pl : Port × Lane} {ls : List (Port × Lane)} {s t : State} (h : LanesCounted (pl :: ls) s)
    (hlifted : LaneLifted pl s t)
    (hholds : ∀ d, holdCount d t = holdCount d s - s.held.sustain[pl.1][pl.2].forwarded.count d) :
    LanesCounted ls t := by
  obtain ⟨hpl, hnodup⟩ := List.nodup_cons.mp h.nodup
  have hsame (m : Port × Lane) (hm : m ∈ ls) := hlifted.others m fun hne => hpl (hne ▸ hm)
  refine ⟨hnodup, fun m hm => ?_, fun d => ?_⟩
  · rw [hsame m hm]
    exact h.listed m (List.mem_cons_of_mem _ hm)
  · have hrest : (ls.countP fun m => t.held.sustain[m.1][m.2].forwarded.contains d)
        = ls.countP fun m => s.held.sustain[m.1][m.2].forwarded.contains d :=
      List.countP_congr fun m hm => by rw [hsame m hm]
    rw [hholds, h.counted, hrest, List.countP_cons, (h.listed pl List.mem_cons_self).1.count]
    simp

/-- R72, R78: the lanes that the first lane sends a Control are those that no later one lists. -/
theorem LanesCounted.head {pl : Port × Lane} {ls : List (Port × Lane)} {s : State} (h : LanesCounted (pl :: ls) s) :
    (s.held.sustain[pl.1][pl.2].forwarded.filter fun d => holdCount d s - 1 == 0)
      = s.held.sustain[pl.1][pl.2].forwarded.filter fun d =>
          ls.all fun m => !s.held.sustain[m.1][m.2].forwarded.contains d := by
  refine List.filter_congr fun d hd => ?_
  rw [h.counted, List.countP_cons, if_pos (by simpa using hd), Nat.add_sub_cancel, Bool.eq_iff_iff, beq_iff_eq,
    List.countP_eq_zero, List.all_eq_true]
  simp

/-- R78: a sustain up of one source lane after the other. -/
theorem foldl_sustainUp (ls : List (Port × Lane)) {s : State} (hnone : ∀ e ∈ s.held.table, e.state ≠ .sustained) :
    let t := ls.foldl (fun s pl => sustainUp pl.1 pl.2 s) s
    t.held.table = s.held.table ∧ t.held.releaseOrder = s.held.releaseOrder
      ∧ (∀ pl : Port × Lane, t.held.sustain[pl.1][pl.2]
        = if pl ∈ ls ∧ s.held.sustain[pl.1][pl.2].down = true then { down := false, forwarded := [] }
          else s.held.sustain[pl.1][pl.2])
      ∧ ∃ lanes, SustainStep 0#16 lanes 0 s t
        ∧ (LanesCounted ls s → lanes = lastListed s ls ∧ ∀ d, holdCount d t = 0) := by
  induction ls generalizing s with
  | nil =>
    refine ⟨rfl, rfl, fun pl => (if_neg (by simp)).symm, [], .of_held _ s.held s, fun h => ⟨rfl, h.counted⟩⟩
  | cons pl ls ih =>
    obtain ⟨hlifted, lanes, hstep, hlanes⟩ := sustainUp_lifted pl hnone
    obtain ⟨htable, hreleaseOrder, hrecords, lanes', hstep', hlanes'⟩ :=
      ih (s := sustainUp pl.1 pl.2 s) (by rw [hlifted.table]; exact hnone)
    refine ⟨htable.trans hlifted.table, hreleaseOrder.trans hlifted.releaseOrder, fun m => ?_, _, hstep.trans hstep',
      fun hcounted => ?_⟩
    · rw [List.foldl_cons, hrecords]
      by_cases hm : m = pl
      · subst hm
        rw [hlifted.record]
        generalize s.held.sustain[m.1][m.2] = r
        obtain ⟨down, forwarded⟩ := r
        cases down <;> simp
      · rw [hlifted.others m hm]
        simp [hm]
    · obtain ⟨hfirst, hholds⟩ := hlanes (hcounted.listed pl List.mem_cons_self)
      obtain ⟨hrest, hzero⟩ := hlanes' (hcounted.tail hlifted hholds)
      refine ⟨?_, hzero⟩
      have hpl : pl ∉ ls := (List.nodup_cons.mp hcounted.nodup).1
      rw [hfirst, hrest, hcounted.head, lastListed_congr fun m hm => hlifted.others m fun hne => hpl (hne ▸ hm)]
      rfl

theorem sourceLanes_nodup : sourceLanes.Nodup := (List.nodup_finRange 8).product (List.nodup_finRange 32)

theorem mem_sourceLanes (pl : Port × Lane) : pl ∈ sourceLanes :=
  List.mem_product.mpr ⟨List.mem_finRange pl.1, List.mem_finRange pl.2⟩

theorem sourceLanes_counted {s : State} (h : SustainInv s) : LanesCounted sourceLanes (releaseAll s) := by
  obtain ⟨hholds, hlisted, -⟩ := h
  exact ⟨sourceLanes_nodup, fun pl _ => ⟨(hlisted pl.1 pl.2).1, (hlisted pl.1 pl.2).2.2⟩, fun d => (hholds d).1⟩

/-- R78: every entry of the table is RELEASING after the first part of a PANIC. -/
theorem releaseAll_table (s : State) :
    (releaseAll s).held.table = s.held.table.map fun e => { e with state := .releasing } := by
  refine List.map_congr_left fun e _ => ?_
  obtain ⟨ident, handling, state, release⟩ := e
  cases state <;> rfl

/-- What frames offered to the play queues leave of a port: its play queue grown at the tail, nothing else. -/
theorem lanesOffered_play (v : Half) (ds : List DestLane) (s : State) (q : Port) :
    s.link.outs[q].play <+: (lanesOffered v ds s).link.outs[q].play
      ∧ { (lanesOffered v ds s).link.outs[q] with play := s.link.outs[q].play } = s.link.outs[q] := by
  unfold lanesOffered offeredPlay
  dsimp only
  rw [getElem_ofFn]
  exact ⟨List.prefix_append .., rfl⟩

theorem doPanic_panicked (s : State) : Panicked s (doPanic s) := by
  have hnone (e : Entry) (he : e ∈ (releaseAll s).held.table) : e.state ≠ .sustained := by
    rw [releaseAll_table] at he
    obtain ⟨_, -, rfl⟩ := List.mem_map.mp he
    exact fun h => nomatch h
  have hmem := mem_sourceLanes
  have hcounted := @sourceLanes_counted s
  unfold Panicked doPanic
  generalize sourceLanes = ls at hmem hcounted ⊢
  obtain ⟨htable, hreleaseOrder, hrecords, lanes, hstep, hlanes⟩ := foldl_sustainUp ls hnone
  generalize ls.foldl _ (releaseAll s) = t at htable hreleaseOrder hrecords hstep hlanes ⊢
  have hstep' : SustainStep 0#16 lanes 0 s t := hstep
  have hoffered := hstep'.eq_lanesOffered
  refine ⟨htable.trans (releaseAll_table s), hreleaseOrder, fun p l => ?_, fun hinv => ?_, hstep'.frame, fun q => ?_⟩
  · have hrecord : t.held.sustain[p][l] = if s.held.sustain[p][l].down = true then { down := false, forwarded := [] }
        else s.held.sustain[p][l] := by
      refine (hrecords (p, l)).trans ?_
      simp only [hmem, true_and]
      rfl
    rw [hrecord]
    split
    · exact ⟨rfl, fun _ => rfl⟩
    · next hup => exact ⟨by simpa using hup, fun h => h.resolve_left hup⟩
  · obtain ⟨hlast, hzero⟩ := hlanes (hcounted hinv)
    refine ⟨hzero, ?_⟩
    rw [hlast, lastListed_congr (s := s) (t := releaseAll s) fun _ _ => rfl] at hoffered
    exact hoffered
  · generalize t.held = held at hoffered
    rw [hoffered]
    exact lanesOffered_play 0#16 lanes { s with held := held } q

end Sys2Proof.Machine

end

section
/-! SUPPORT. The pedals (R139–R145, R106, R107): what a settling hands to the function of a pedal, and what each
function does. -/

namespace Sys2Proof.Machine

/-! ### Settling (R139, R140) -/

/-- R140: the level at which a pedal is pressed. -/
def pressedLevel (r : PedalRecord) : Level :=
  match r.polarity with
  | .normal => .closed
  | .inverted => .opened

theorem pressedAs_iff (r : PedalRecord) (d : Debouncer) : pressedAs r d = true ↔ d.settled = some (pressedLevel r) := by
  unfold pressedAs pressedLevel
  cases r.polarity <;> rcases d.settled with _ | level
  · simp
  · cases level <;> simp
  · simp
  · cases level <;> simp

/-- Of two different levels, one is any given level exactly when the other is not. -/
theorem level_eq_iff {a b : Level} (h : a ≠ b) {c : Level} : a = c ↔ b ≠ c := by
  cases a <;> cases b <;> cases c <;> simp at h ⊢

/-- R140: an edge: at the first settling a pressed level function takes hold, later a press is a press and a release
lets go. -/
theorem settledEdge_eq {r : PedalRecord} {d : Debouncer} (h : d.settled ≠ some d.raw) (s : State) :
    settledEdge r d d.settle s
      = if d.raw = pressedLevel r then if d.settled = none then holdFunction r s else pressPedal r s
        else if d.settled = none then s else letGo r s := by
  have hafter : pressedAs r d.settle = true ↔ d.raw = pressedLevel r :=
    (pressedAs_iff r d.settle).trans (Option.some.injEq ..).to_iff
  have hbefore := pressedAs_iff r d
  unfold settledEdge
  rcases hsettled : d.settled with _ | level
  · simp only [Option.isNone_none, if_true, hafter]
  · rw [hsettled] at h hbefore
    simp only [Option.isNone_some, Bool.false_eq_true, if_false, reduceCtorEq]
    have hpressed : pressedAs r d = true ↔ d.raw ≠ pressedLevel r := by
      rw [hbefore, Option.some.injEq]
      exact level_eq_iff fun he => h (congrArg some he)
    by_cases hraw : d.raw = pressedLevel r
    · have hd : pressedAs r d = false := by
        rw [Bool.eq_false_iff]
        exact fun hp => hpressed.mp hp hraw
      rw [if_pos hraw, hd, hafter.mpr hraw]
      rfl
    · have hd : pressedAs r d.settle = false := by
        rw [Bool.eq_false_iff]
        exact fun hp => hraw (hafter.mp hp)
      rw [if_neg hraw, hd, hpressed.mpr hraw]
      rfl

/-- R139: the part told of a moment, the candidate of a pedal settled. -/
def contactSettled (i : Pedal) (moment : Nat) (s : State) : State :=
  { s with
    now := max s.now moment
    pedals :=
      { s.pedals with
        contacts := s.pedals.contacts.set i { s.pedals.contacts[i] with settled := some s.pedals.contacts[i].raw } } }

/-- R139: the candidate of a pedal has run its debounce by a moment. -/
def Due (i : Pedal) (moment : Nat) (s : State) : Prop :=
  s.pedals.contacts[i].settled ≠ some s.pedals.contacts[i].raw
    ∧ s.pedals.contacts[i].since + s.settings.pedals[i].debounce * 1000 ≤ max s.now moment

theorem due_iff (i : Pedal) (moment : Nat) (s : State) :
    s.pedals.contacts[i].due s.settings.pedals[i].debounce (max s.now moment) = true ↔ Due i moment s := by
  unfold Debouncer.due Debouncer.timing Due
  simp

theorem exec_settleIfDue (i : Pedal) (moment : Nat) {s : State} (hpower : s.power = true) :
    exec (.pedalSettled i moment) s = .next (settleIfDue i (advanceTo moment s)) := by
  have h := powered_of_power (f := fun s => settleIfDue i (advanceTo moment s)) hpower
  exact h

theorem exec_pedalSettled_early {i : Pedal} {moment : Nat} {s : State} (hpower : s.power = true)
    (h : ¬Due i moment s) : exec (.pedalSettled i moment) s = .next { s with now := max s.now moment } := by
  rw [exec_settleIfDue i moment hpower]
  exact congrArg _ (if_neg fun hdue => h ((due_iff i moment s).mp hdue))

theorem exec_pedalSettled {i : Pedal} {moment : Nat} {s : State} (hpower : s.power = true) (h : Due i moment s) :
    exec (.pedalSettled i moment) s
      = .next (settledEdge s.settings.pedals[i] s.pedals.contacts[i] s.pedals.contacts[i].settle
          (contactSettled i moment s)) := by
  rw [exec_settleIfDue i moment hpower]
  exact congrArg _ (if_pos ((due_iff i moment s).mpr h))

/-! ### The stepping functions (R116, R118) -/

theorem stepKind_eq (kind : StepKind) : stepKind kind = requestKind kind := by cases kind <;> rfl

/-- The request that a stepping pedal makes. -/
def stepRequest (kind : StepKind) (origin : Origin) : ChangeRequest :=
  { kind := requestKind kind, number := 0, origin := origin }

/-- R116: a step offered to a queue with room. -/
theorem offerStep_room {kind : StepKind} {origin : Origin} {s : State} (hroom : s.change.queue.length < 4) :
    offerStep kind 0 origin s
      = let queued := s.setChange { s.change with queue := s.change.queue ++ [stepRequest kind origin] }
        if s.change.state = .idle then takeNext queued else queued := by
  unfold offerStep
  rw [stepKind_eq, if_pos (show changeHasRoom s = true from decide_eq_true hroom)]
  rfl

/-- R116: a step that finds four requests waiting. -/
theorem offerStep_full {kind : StepKind} {origin : Origin} {s : State} (hfull : 4 ≤ s.change.queue.length) :
    offerStep kind 0 origin s = countChangeOverflow s :=
  if_neg (by unfold changeHasRoom; exact fun h => absurd (of_decide_eq_true h) (Nat.not_lt.mpr hfull))

theorem asked_unqueued {entry scene : Nat} {song : Bool} {origin : Origin} {s t : State}
    (h : Asked entry scene song origin s t) : Asked entry scene song origin s (unqueued t) := by
  refine asked_of_page fun page hpage => ?_
  have ht : t = pageAsked entry scene (song || s.emptyActive) origin page s := h page hpage
  rw [ht]
  unfold pageAsked
  cases sourceOf page s <;> rfl

theorem stepTaken_unqueued {kind : StepKind} {origin : Origin} {s t : State} (h : StepTaken kind origin s t) :
    StepTaken kind origin s (unqueued t) := by
  obtain ⟨hempty, hset⟩ := h
  have hended {o : ChangeOutcome} (ht : t = requestEnded o origin s) : unqueued t = requestEnded o origin s := by
    rw [ht]
    rfl
  refine ⟨fun hn => hended (hempty hn), fun hn => ?_⟩
  have hkind := hset hn
  cases kind with
  | nextScene =>
    obtain ⟨hnext, hrun, hend⟩ := hkind
    exact ⟨fun h => asked_unqueued (hnext h), fun h => asked_unqueued (hrun h), fun h h' => hended (hend h h')⟩
  | prevScene => exact ⟨fun h => asked_unqueued (hkind.1 h), fun h => hended (hkind.2 h)⟩
  | nextSong => exact ⟨fun h => asked_unqueued (hkind.1 h), fun h => hended (hkind.2 h)⟩
  | prevSong => exact ⟨fun h => asked_unqueued (hkind.1 h), fun h => hended (hkind.2 h)⟩

/-- R118–R120: a step offered to an IDLE controller with nothing waiting is taken at once. -/
theorem offerStep_taken {kind : StepKind} {origin : Origin} {s : State} (hidle : s.change.state = .idle)
    (hqueue : s.change.queue = []) : StepTaken kind origin s (offerStep kind 0 origin s) := by
  rw [offerStep_room (by rw [hqueue]; decide)]
  simp only [hidle, if_true, hqueue, List.nil_append]
  let queued := s.setChange { s.change with queue := [stepRequest kind origin] }
  have hsame : unqueued queued = s := by
    show s.setChange { s.change with queue := [] } = s
    rw [← hqueue]
    rfl
  have htaken : QueueTaken [stepRequest kind origin] (unqueued queued) (takeNext queued) := takeAll_taken _ hidle
  rw [hsame] at htaken
  change StepTaken kind origin s (takeNext queued)
  obtain ⟨u, hstep, hrest⟩ := htaken
  have hu : StepTaken kind origin s u := by cases kind <;> exact hstep
  split at hrest
  · have hdone : takeNext queued = u := hrest
    rw [hdone]
    exact hu
  · rw [hrest]
    exact stepTaken_unqueued hu

end Sys2Proof.Machine

end

section
/-! SUPPORT. Tap tempo and what a settled pedal does (R106, R107, R139–R145). -/

namespace Sys2Proof.Machine

/-! ### Tap tempo (R106, R107) -/

theorem addTap_fresh {now : Nat} {taps : List Nat}
    (h : taps = [] ∨ ∃ last, taps.getLast? = some last ∧ last + 2000000 < now) : addTap now taps = [now] := by
  unfold addTap
  rcases h with hnone | ⟨last, hlast, hgap⟩
  · subst hnone
    rfl
  · rw [hlast]
    exact if_pos hgap

theorem addTap_joined {now last : Nat} {taps : List Nat} (hlast : taps.getLast? = some last)
    (hgap : now ≤ last + 2000000) : addTap now taps = (taps ++ [now]).drop (taps.length - 3) := by
  unfold addTap
  rw [hlast]
  refine (if_neg (Nat.not_lt.mpr hgap)).trans ?_
  dsimp only
  rw [List.length_append]
  congr 1

/-- R106: a tap that joins a series leaves at least two taps. -/
theorem two_le_length_joined {now : Nat} {taps : List Nat} (h : taps ≠ []) :
    2 ≤ ((taps ++ [now]).drop (taps.length - 3)).length := by
  have hlength := List.length_pos_iff.mpr h
  rw [List.length_drop, List.length_append, List.length_singleton]
  omega

/-- What a rewrite of the slot in effect leaves of the tempo engine (R88). -/
theorem rewriteSlot_inEffect (r : TempoRecord) (t : Tempo) :
    let u := rewriteSlot t.inEffect r t
    u.slots = t.slots.set t.inEffect r ∧ u.inEffect = t.inEffect ∧ u.clock = t.clock ∧ u.taps = t.taps
      ∧ (t.clock ≠ .stopped →
        u = { t with slots := t.slots.set t.inEffect r, pendingSlot := some t.inEffect })
      ∧ (t.clock = .stopped → u.pendingSlot = none ∧ u.tempo = beatTempo r 0) := by
  rw [rewriteSlot_eq]
  dsimp only
  rw [if_neg (not_not.mpr rfl)]
  by_cases hclock : t.clock = .stopped
  · rw [if_neg (not_not.mpr hclock)]
    split <;> exact ⟨rfl, rfl, rfl, rfl, fun h => absurd hclock h, fun _ => ⟨rfl, rfl⟩⟩
  · rw [if_pos hclock]
    exact ⟨rfl, rfl, rfl, rfl, fun _ => rfl, fun h => absurd h hclock⟩

/-- R107: the tempo tapped by `n` + 1 taps that span a time. -/
def tapped (n span : Nat) : Nat := max 4000 (min ((2 * (6000000000 * n) + span) / (2 * span)) 30000)

theorem tapTempo_eq {tick n span : Nat} (h : span ≠ 0) : tapTempo tick n span = tapped n span := by
  unfold tapTempo tapped
  rw [if_neg h]

/-- R107: the slot in effect as a tap rewrites it. -/
def tappedRecord (tempo : Nat) (r : TempoRecord) : TempoRecord := { r with form := .steady, t := tempo }

/-- The clock with a tap series that has just begun or grown. -/
def tapSeries (taps : List Nat) (s : State) : State := { s with tempo := { s.tempo with taps := taps } }

theorem doTap_fresh {now : Nat} {s : State} (h : addTap now s.tempo.taps = [now]) :
    doTap now s = tapSeries [now] s := by
  unfold doTap
  rw [h]
  rfl

/-- R107: from the second tap on, the slot in effect is rewritten. -/
theorem doTap_series {now first : Nat} {series : List Nat} {s : State} (h : addTap now s.tempo.taps = series)
    (hlength : 2 ≤ series.length) (hfirst : series.head? = some first) (hspan : first < now) :
    doTap now s
      = rewriteInEffect (tapped (series.length - 1) (now - first)) (tapSeries series s) := by
  obtain _ | ⟨a, _ | ⟨b, rest⟩⟩ := series
  · simp at hlength
  · simp at hlength
  · obtain rfl : a = first := Option.some.inj hfirst
    have hne : now - a ≠ 0 := by omega
    unfold doTap
    rw [h]
    dsimp only
    rw [if_neg hne, tapTempo_eq hne]
    rfl

/-- R107: what rewriting the slot in effect at a tapped tempo leaves. -/
theorem rewriteInEffect_tapped (tempo : Nat) (s : State) :
    let slot := s.tempo.inEffect
    let t := rewriteInEffect tempo s
    t = { s with tempo := t.tempo } ∧ t.tempo.taps = s.tempo.taps
      ∧ t.tempo.slots[slot].form = .steady ∧ t.tempo.slots[slot].t = tempo
      ∧ t.tempo.slots[slot].meter = s.tempo.slots[slot].meter
      ∧ (∀ j : Slot, j ≠ slot → t.tempo.slots[j] = s.tempo.slots[j])
      ∧ t.tempo.inEffect = slot ∧ t.tempo.clock = s.tempo.clock
      ∧ (s.tempo.clock ≠ .stopped →
        t.tempo.pendingSlot = some slot ∧ t.tempo.tempo = s.tempo.tempo ∧ t.tempo.bar = s.tempo.bar
          ∧ t.tempo.beat = s.tempo.beat ∧ t.tempo.subTick = s.tempo.subTick)
      ∧ (s.tempo.clock = .stopped → t.tempo.pendingSlot = none ∧ t.tempo.tempo = tempo) := by
  dsimp only
  obtain ⟨hslots, hinEffect, hclock, htaps, hruns, hstopped⟩ :=
    rewriteSlot_inEffect (tappedRecord tempo s.tempo.slots[s.tempo.inEffect]) s.tempo
  have htempo : (rewriteInEffect tempo s).tempo
      = rewriteSlot s.tempo.inEffect (tappedRecord tempo s.tempo.slots[s.tempo.inEffect]) s.tempo := rfl
  have hframe : rewriteInEffect tempo s = { s with tempo := (rewriteInEffect tempo s).tempo } := rfl
  rw [← htempo] at hslots hinEffect hclock htaps hruns hstopped
  generalize rewriteInEffect tempo s = t at hframe hslots hinEffect hclock htaps hruns hstopped ⊢
  have hslot : t.tempo.slots[s.tempo.inEffect] = tappedRecord tempo s.tempo.slots[s.tempo.inEffect] := by
    rw [hslots]
    simp
  refine ⟨hframe, htaps, ?_, ?_, ?_, fun j hj => ?_, hinEffect, hclock, fun h => ?_, hstopped⟩
  · rw [hslot]; rfl
  · rw [hslot]; rfl
  · rw [hslot]; rfl
  · rw [hslots]
    exact Vector.getElem_set_ne _ _ fun h => hj (Fin.ext h.symm)
  · rw [hruns h]
    exact ⟨rfl, rfl, rfl, rfl, rfl⟩

/-! ### The pedal functions (R140–R145) -/

theorem holdFunction_other {r : PedalRecord} (h : r.function ≠ .sustain) (s : State) : holdFunction r s = s := by
  unfold holdFunction
  split
  · next hf => exact absurd hf h
  · rfl

theorem letGo_other {r : PedalRecord} (h : r.function ≠ .sustain) (s : State) : letGo r s = s := by
  unfold letGo
  split
  · next hf => exact absurd hf h
  · rfl

theorem holdFunction_sustain {r : PedalRecord} (h : r.function = .sustain) (s : State) :
    SustainedDown r.argPort r.argLane s (holdFunction r s) := by
  unfold holdFunction
  rw [h]
  exact sustainDown_sustainedDown ..

theorem letGo_sustain {r : PedalRecord} (h : r.function = .sustain) (s : State) :
    SustainedUp r.argPort r.argLane s (letGo r s) := by
  unfold letGo
  rw [h]
  exact sustainUp_sustainedUp ..

/-- R142: a press of a stepping pedal offers its request. -/
theorem pressPedal_step {r : PedalRecord} {kind : StepKind} (h : r.function = stepFunction kind) (s : State) :
    pressPedal r s = offerStep kind 0 .pedal s := by
  unfold pressPedal
  rw [h]
  cases kind <;> rfl

theorem pressPedal_muteToggle {r : PedalRecord} (h : r.function = .muteToggle) (s : State) :
    pressPedal r s = turnToggle r.argPort s := by
  unfold pressPedal
  rw [h]

theorem pressPedal_panic {r : PedalRecord} (h : r.function = .panic) (s : State) : pressPedal r s = doPanic s := by
  unfold pressPedal
  rw [h]

theorem pressPedal_clickToggle {r : PedalRecord} (h : r.function = .clickToggle) (s : State) :
    pressPedal r s = doClickToggle s := by
  unfold pressPedal
  rw [h]

theorem pressPedal_tap {r : PedalRecord} (h : r.function = .tap) (s : State) : pressPedal r s = doTap s.now s := by
  unfold pressPedal
  rw [h]

/-- R141, R143, R145: a press with function NONE, MUTE HOLD or TEMPO BIT does nothing. -/
theorem pressPedal_idle {r : PedalRecord}
    (h : r.function = .none ∨ r.function = .muteHold ∨ ∃ n, r.function = .tempoBit n) (s : State) :
    pressPedal r s = s := by
  unfold pressPedal
  rcases h with h | h | ⟨n, h⟩ <;> rw [h]
  · exact holdFunction_other (by rw [h]; decide) s
  · exact holdFunction_other (by rw [h]; exact fun hf => nomatch hf) s

/-! ### What a settled pedal does (R140–R145) -/

section Settled
variable {i : Pedal} {moment : Nat} {s : State} (hpower : s.power = true) (hdue : Due i moment s)
include hpower hdue

theorem exec_first (h : s.pedals.contacts[i].settled = none) :
    exec (.pedalSettled i moment) s
      = .next (if s.pedals.contacts[i].raw = pressedLevel s.settings.pedals[i] then
          holdFunction s.settings.pedals[i] (contactSettled i moment s) else contactSettled i moment s) := by
  rw [exec_pedalSettled hpower hdue, settledEdge_eq hdue.1]
  simp only [h, if_true]

theorem exec_pressed (h : s.pedals.contacts[i].settled ≠ none)
    (hraw : s.pedals.contacts[i].raw = pressedLevel s.settings.pedals[i]) :
    exec (.pedalSettled i moment) s
      = .next (pressPedal s.settings.pedals[i] (contactSettled i moment s)) := by
  rw [exec_pedalSettled hpower hdue, settledEdge_eq hdue.1, if_pos hraw, if_neg h]

theorem exec_released (h : s.pedals.contacts[i].settled ≠ none)
    (hraw : s.pedals.contacts[i].raw ≠ pressedLevel s.settings.pedals[i]) :
    exec (.pedalSettled i moment) s
      = .next (letGo s.settings.pedals[i] (contactSettled i moment s)) := by
  rw [exec_pedalSettled hpower hdue, settledEdge_eq hdue.1, if_neg hraw, if_neg h]

/-- R140: a function other than SUSTAIN does nothing at the first settling and at a release. -/
theorem exec_unpressed (hfunction : s.settings.pedals[i].function ≠ .sustain)
    (h : s.pedals.contacts[i].settled = none
      ∨ s.pedals.contacts[i].raw ≠ pressedLevel s.settings.pedals[i]) :
    exec (.pedalSettled i moment) s = .next (contactSettled i moment s) := by
  by_cases hsettled : s.pedals.contacts[i].settled = none
  · rw [exec_first hpower hdue hsettled, holdFunction_other hfunction, ite_self]
  · rw [exec_released hpower hdue hsettled (h.resolve_left hsettled), letGo_other hfunction]

theorem exec_idleFunction
    (h : s.settings.pedals[i].function = .none ∨ s.settings.pedals[i].function = .muteHold
      ∨ ∃ n, s.settings.pedals[i].function = .tempoBit n) :
    exec (.pedalSettled i moment) s = .next (contactSettled i moment s) := by
  have hfunction : s.settings.pedals[i].function ≠ .sustain := by
    rcases h with h | h | ⟨n, h⟩ <;> rw [h] <;> exact fun hf => nomatch hf
  by_cases hun : s.pedals.contacts[i].settled = none
      ∨ s.pedals.contacts[i].raw ≠ pressedLevel s.settings.pedals[i]
  · exact exec_unpressed hpower hdue hfunction hun
  · obtain ⟨hsettled, hraw⟩ := not_or.mp hun
    rw [exec_pressed hpower hdue hsettled (not_not.mp hraw), pressPedal_idle h]

/-- R143: a SUSTAIN pedal that settles pressed takes hold, at the first settling too. -/
theorem exec_sustain_pressed (h : s.settings.pedals[i].function = .sustain)
    (hraw : s.pedals.contacts[i].raw = pressedLevel s.settings.pedals[i]) :
    exec (.pedalSettled i moment) s = .next (holdFunction s.settings.pedals[i] (contactSettled i moment s)) := by
  by_cases hsettled : s.pedals.contacts[i].settled = none
  · rw [exec_first hpower hdue hsettled, if_pos hraw]
  · rw [exec_pressed hpower hdue hsettled hraw]
    unfold pressPedal
    rw [h]

end Settled

/-- R107: a tap from the second one on, at the time of the part. -/
theorem doTap_joined {first last : Nat} {s : State} (hlast : s.tempo.taps.getLast? = some last)
    (hgap : s.now ≤ last + 2000000) (hfirst : ((s.tempo.taps ++ [s.now]).drop (s.tempo.taps.length - 3)).head? = some first)
    (hspan : first < s.now) :
    doTap s.now s
      = rewriteInEffect
          (tapped (((s.tempo.taps ++ [s.now]).drop (s.tempo.taps.length - 3)).length - 1) (s.now - first))
          (tapSeries ((s.tempo.taps ++ [s.now]).drop (s.tempo.taps.length - 3)) s) := by
  refine doTap_series (addTap_joined hlast hgap) (two_le_length_joined fun hnone => ?_) hfirst hspan
  rw [hnone] at hlast
  exact nomatch hlast

/-- Settles O24: the edge that a settling gives, and what each function makes of it. -/
theorem pedalSettled : Obligations.PedalSettled := by
  intro i moment s hpower
  refine ⟨fun h => exec_pedalSettled_early hpower fun hdue => ?_, fun hunsettled hdebounce => ?_⟩
  · exact h.elim hdue.1 fun hearly => absurd hdue.2 (Nat.not_le.mpr hearly)
  have hdue : Due i moment s := ⟨hunsettled, hdebounce⟩
  refine ⟨exec_idleFunction hpower hdue, exec_unpressed hpower hdue,
    fun hf => ⟨fun hraw => ⟨_, exec_sustain_pressed hpower hdue hf hraw, holdFunction_sustain hf _⟩,
      fun hraw hsettled => ⟨_, exec_released hpower hdue hsettled hraw, letGo_sustain hf _⟩,
      fun hraw hsettled => (exec_first hpower hdue hsettled).trans (congrArg _ (if_neg hraw))⟩,
    fun hsettled hraw => ?_⟩
  have hpress {t : State} (h : pressPedal s.settings.pedals[i] (contactSettled i moment s) = t) :
      exec (.pedalSettled i moment) s = .next t := (exec_pressed hpower hdue hsettled hraw).trans (congrArg _ h)
  refine ⟨fun hf => hpress ?_, fun hf => ⟨_, hpress (pressPedal_panic hf _), ?_⟩, fun hf => ?_, fun kind hf => ?_,
    fun hf => ?_⟩
  case refine_1 =>
    exact pressPedal_muteToggle hf _
  case refine_2 =>
    exact doPanic_panicked _
  case refine_3 =>
    have htoggle := pressPedal_clickToggle hf (contactSettled i moment s)
    refine ⟨fun hclock => ?_, fun hclock hstate => ?_, fun copy tg hclock hstate hstaged htarget => ?_⟩
    · have hstarted := doStart_started (s := contactSettled i moment s) hclock
      exact ⟨_, hpress (htoggle.trans (if_pos hclock)), hstarted, (startedFrom_service hstarted).trans rfl⟩
    · have hstopped := stopped_from (contactSettled i moment s)
      exact ⟨_, hpress ((htoggle.trans (if_neg hclock)).trans (doStop_alone hclock hstate)), hstopped, rfl⟩
    · exact ⟨_, hpress (htoggle.trans (if_neg hclock)), doStop_switched hpower hclock hstate hstaged htarget⟩
  case refine_4 =>
    have hoffer := pressPedal_step hf (contactSettled i moment s)
    refine ⟨fun hstate hroom => hpress ?_, fun hfull => hpress ?_, fun hidle hqueue => ?_⟩
    · exact hoffer.trans ((offerStep_room (s := contactSettled i moment s) hroom).trans (if_neg hstate))
    · exact hoffer.trans (offerStep_full (s := contactSettled i moment s) hfull)
    · exact ⟨_, hpress hoffer, offerStep_taken (s := contactSettled i moment s) hidle hqueue⟩
  case refine_5 =>
    have htap := pressPedal_tap hf (contactSettled i moment s)
    refine ⟨fun hfresh => hpress (htap.trans (doTap_fresh (addTap_fresh hfresh))),
      fun first last hlast hgap hfirst hspan => ?_⟩
    have hjoined := doTap_joined (s := contactSettled i moment s) hlast hgap hfirst hspan
    exact ⟨_, hpress (htap.trans hjoined), rewriteInEffect_tapped _ (tapSeries _ (contactSettled i moment s))⟩

end Sys2Proof.Machine

end

section
/-! SUPPORT. Live adjustments (R131–R133, R22, R42–R44, R102): the rows of ADJUST as one request, and each item by its
three outcomes. -/

namespace Sys2Proof.Machine

/-! ### A request row, ready, by its operation -/

/-- R174–R176: a ready row of a request that fits its form is the reply of its operation, RESTART's apart. -/
theorem exec_performed {c : Instr} {h : Head} {r : Request} {s t : State} {o : Outcome} {data : List Byte}
    (hc : requestOf c = some (h, r.code, r.params)) (hmoment : momentOf c = 0) (hready : Ready h s)
    (hform : r.formOk = true) (hcode : r.code ≠ restartCode)
    (hop : perform r s = (t, { outcome := o, data := data })) : exec c s = .next (replied h r.code o data t) := by
  have hchecked : checkedForm r (perform r) s = (t, { outcome := o, data := data }) := by
    unfold checkedForm
    rw [if_pos hform, hop]
  rw [exec_row_ready hc hready, hmoment, advanceTo_zero, performBytes_request, hchecked,
    answered_eq_replied (.inl hcode)]

section Adjust
variable {c : Instr} {h : Head} (item : Byte) {target : Byte} {value : Half} {s : State}
  (hc : requestOf c = some (h, 0x41#8, [item, target, hiByte value, loByte value])) (hmoment : momentOf c = 0)
  (hready : Ready h s)
include hc hmoment hready

/-- R131: a ready row of ADJUST. -/
theorem exec_adjust {t : State} {o : Outcome} (hop : opAdjust item target value s = (t, bare o)) :
    exec c s = .next (replied h 0x41#8 o [] t) :=
  exec_performed (r := .adjust item target value) hc hmoment hready rfl
    (show (0x41#8 : Byte) ≠ restartCode by decide) hop

/-- R131: a ready row of ADJUST by its three outcomes: RANGE, NO_CHANGE, and OK with the item set. -/
theorem exec_adjust_cases {outside same : Prop} [Decidable outside] [Decidable same] {t : State}
    (hop : opAdjust item target value s
      = if outside then refuse .range s else if same then refuse .noChange s else (t, bare .ok)) :
    exec c s
      = .next
        (if outside then replied h 0x41#8 .range [] s
         else if same then replied h 0x41#8 .noChange [] s
         else replied h 0x41#8 .ok [] t) := by
  split_ifs at hop ⊢ <;> exact exec_adjust item hc hmoment hready hop

end Adjust

/-! ### Zone items (R131, R42–R44) -/

section Zone
variable {zone : Byte} {value : Half} {s : State} {inRange holds : Zone → Bool} {set : Zone → Zone}

/-- R131: the positions of no zone. -/
theorem adjustZone_absent (hpos : zone.toNat = 0 ∨ s.change.active.block.zones.length < zone.toNat) :
    adjustZone zone inRange holds set s = refuse .range s := by
  have hnone : zoneAtPosition zone.toNat s = none := by
    unfold zoneAtPosition
    split
    · rfl
    · next hne => exact List.getElem?_eq_none (by omega)
  unfold adjustZone
  rw [hnone]

section Present
variable {z : Zone} (hpos : 1 ≤ zone.toNat) (hz : s.change.active.block.zones[zone.toNat - 1]? = some z)
include hz

/-- R131: a zone set at its position. -/
theorem modifyZone_adjusted : adjusted (modifyZone zone.toNat set s) = zoneAdjusted zone.toNat (set z) s := by
  have hset : s.change.active.block.zones.modify (zone.toNat - 1) set
      = s.change.active.block.zones.set (zone.toNat - 1) (set z) := by
    rw [List.modify_eq_set_getElem?, hz]
    rfl
  unfold zoneAdjusted
  rw [← hset]
  rfl

include hpos

/-- R131: a zone item at a zone's position. -/
theorem adjustZone_present :
    adjustZone zone inRange holds set s
      = if inRange z = false then refuse .range s
        else if holds z = true then refuse .noChange s
        else (zoneAdjusted zone.toNat (set z) s, bare .ok) := by
  have hfound : zoneAtPosition zone.toNat s = some z := by
    unfold zoneAtPosition
    rw [if_neg (by omega), hz]
  unfold adjustZone
  rw [hfound]
  dsimp only
  rw [modifyZone_adjusted hz]
  exact if_congr (Bool.not_eq_true' _).to_iff rfl rfl

theorem opAdjustGain_present :
    opAdjustGain zone value s
      = if 255 < value.toNat then refuse .range s
        else if z.gain.toNat = value.toNat then refuse .noChange s
        else (zoneAdjusted zone.toNat { z with gain := BitVec.ofNat 8 value.toNat } s, bare .ok) := by
  unfold opAdjustGain
  rw [adjustZone_present hpos hz]
  exact if_congr (by simp) rfl (if_congr beq_iff_eq rfl rfl)

theorem opAdjustOffset_present :
    opAdjustOffset zone value s
      = if value.toInt < -512 ∨ 511 < value.toInt then refuse .range s
        else if z.offset = value then refuse .noChange s
        else (zoneAdjusted zone.toNat { z with offset := value } s, bare .ok) := by
  unfold opAdjustOffset
  rw [adjustZone_present hpos hz]
  refine if_congr ?_ rfl (if_congr beq_iff_eq rfl rfl)
  simp only [Bool.and_eq_false_iff, decide_eq_false_iff_not, not_le]

theorem opAdjustTranspose_present :
    opAdjustTranspose zone value s
      = if value.toInt < -48 ∨ 48 < value.toInt then refuse .range s
        else if z.transpose.toInt = value.toInt then refuse .noChange s
        else (zoneAdjusted zone.toNat { z with transpose := BitVec.ofInt 8 value.toInt } s, bare .ok) := by
  unfold opAdjustTranspose
  rw [adjustZone_present hpos hz]
  refine if_congr ?_ rfl (if_congr beq_iff_eq rfl rfl)
  simp only [Bool.and_eq_false_iff, decide_eq_false_iff_not, not_le]

/-- R42: a zone enabled or disabled, which is refused to a repaired zone only when it would be enabled. -/
theorem opAdjustEnabled_present :
    opAdjustEnabled zone value s
      = if 1 < value.toNat ∨ (value = 1#16 ∧ z.repaired = true) then refuse .range s
        else if (z.enabled = true ↔ value = 1#16) then refuse .noChange s
        else (zoneAdjusted zone.toNat { z with enabled := !z.enabled } s, bare .ok) := by
  unfold opAdjustEnabled
  rw [adjustZone_present hpos hz]
  have hrange : (decide (value.toNat ≤ 1) && !(value == 1#16 && z.repaired)) = false
      ↔ 1 < value.toNat ∨ (value = 1#16 ∧ z.repaired = true) := by
    rw [Bool.and_eq_false_iff, decide_eq_false_iff_not, not_le, Bool.not_eq_false', Bool.and_eq_true, beq_iff_eq]
  by_cases hout : 1 < value.toNat ∨ (value = 1#16 ∧ z.repaired = true)
  · rw [if_pos (hrange.mpr hout), if_pos hout]
  · rw [if_neg (mt hrange.mp hout), if_neg hout]
    have hone : value = 0#16 ∨ value = 1#16 :=
      (Nat.le_one_iff_eq_zero_or_eq_one.mp (not_lt.mp (not_or.mp hout).1)).imp BitVec.eq_of_toNat_eq
        BitVec.eq_of_toNat_eq
    rcases hone with rfl | rfl <;> cases z.enabled <;> simp [boolNat]

end Present
end Zone

/-- R44: a transpose in its range is what the byte that a zone holds it in says. -/
theorem toInt_ofInt_transpose {n : Int} (hlow : -48 ≤ n) (hhigh : n ≤ 48) : (BitVec.ofInt 8 n).toInt = n := by
  rw [BitVec.toInt_ofInt]
  exact Int.bmod_eq_of_le (by omega) (by omega)

end Sys2Proof.Machine

namespace Sys2Proof
open Machine

/-- Settles O45: each zone item is the same three outcomes, by its own range and its own field. -/
theorem adjustZones : Obligations.AdjustZones := by
  intro h zone value s hready
  refine ⟨fun habsent => ⟨?_, ?_, ?_, ?_⟩, fun z hpos hz => ⟨?_, ?_, ?_, ?_⟩⟩
  · exact exec_adjust 1#8 rfl rfl hready (adjustZone_absent habsent)
  · exact exec_adjust 2#8 rfl rfl hready (adjustZone_absent habsent)
  · exact exec_adjust 3#8 rfl rfl hready (adjustZone_absent habsent)
  · exact exec_adjust 4#8 rfl rfl hready (adjustZone_absent habsent)
  · exact exec_adjust_cases 1#8 rfl rfl hready (opAdjustGain_present hpos hz)
  · exact exec_adjust_cases 2#8 rfl rfl hready (opAdjustOffset_present hpos hz)
  · exact ⟨{ z with transpose := BitVec.ofInt 8 value.toInt }, rfl, toInt_ofInt_transpose,
      exec_adjust_cases 3#8 rfl rfl hready (opAdjustTranspose_present hpos hz)⟩
  · exact exec_adjust_cases 4#8 rfl rfl hready (opAdjustEnabled_present hpos hz)

end Sys2Proof

namespace Sys2Proof.Machine

/-! ### The other items (R22, R102, R131, R133) -/

section Others
variable {target : Byte} {value : Half} {s : State}

theorem loByte_toNat (w : Half) : (loByte w).toNat = w.toNat % 256 := by
  simp [loByte, BitVec.extractLsb'_toNat]

theorem loByte_eq_ofNat (w : Half) : loByte w = BitVec.ofNat 8 w.toNat := by
  apply BitVec.eq_of_toNat_eq
  rw [loByte_toNat, BitVec.toNat_ofNat]

/-- R22, R131: the mute set replaced by the value's low byte (log entry 37). -/
theorem opAdjustMuteSet_eq :
    opAdjustMuteSet target value s
      = if target ≠ 0#8 then refuse .range s
        else if s.change.active.block.muteSet.toNat = value.toNat % 256 then refuse .noChange s
        else (adjusted (modifyBlock (fun b => { b with muteSet := BitVec.ofNat 8 value.toNat }) s), bare .ok) := by
  unfold opAdjustMuteSet
  rw [← loByte_eq_ofNat]
  refine if_congr Iff.rfl rfl (if_congr ?_ rfl rfl)
  rw [← loByte_toNat, BitVec.toNat_eq]

theorem overrideOfNat?_of_code {n : Nat} {o : Override} (h : n = o.code) : overrideOfNat? n = some o := by
  subst h
  cases o <;> rfl

theorem overrideOfNat?_of_above {n : Nat} (h : 2 < n) : overrideOfNat? n = none := by
  have hcode := overrideOfNat?_code n
  rwa [if_neg (by omega), Option.map_eq_none_iff] at hcode

/-- R102, R131: an override of no feed, or a value that is none. -/
theorem opAdjustOverride_range (h : target.toNat = 0 ∨ 8 < target.toNat ∨ 2 < value.toNat) :
    opAdjustOverride target value s = refuse .range s := by
  unfold opAdjustOverride
  rcases or_assoc.mpr h with hport | hvalue
  · rw [portOfNat?_of_out hport]
  · rw [overrideOfNat?_of_above hvalue]
    cases portOfNat? target.toNat <;> rfl

/-- R102, R131: a feed's override set, in the active copy and as the current one. -/
theorem opAdjustOverride_feed {f : Port} {o : Override} (hfeed : target.toNat = f.val + 1)
    (hvalue : value.toNat = o.code) :
    opAdjustOverride target value s
      = if s.change.active.block.overrides[f] = some o ∧ s.tempo.feeds[f].override = o then refuse .noChange s
        else (adjusted (modifyFeed f (fun x => { x with override := o })
          (modifyBlock (fun b => { b with overrides := upd b.overrides f fun _ => some o }) s)), bare .ok) := by
  unfold opAdjustOverride
  rw [portOfNat?_of_eq hfeed, overrideOfNat?_of_code hvalue]

/-- R131, R133: an ADJUST TEMPO with a target or a value out of range. -/
theorem opAdjustTempo_range (h : target ≠ 0#8 ∨ value.toNat < 4000 ∨ 30000 < value.toNat) :
    opAdjustTempo target value s = refuse .range s := by
  unfold opAdjustTempo
  by_cases hvalue : 4000 ≤ value.toNat ∧ value.toNat ≤ 30000
  · rw [within?_eq_some.mpr ⟨hvalue, rfl⟩]
    exact if_pos (h.resolve_right (by omega))
  · rw [show within? 4000 30000 value.toNat = none from if_neg hvalue]

/-- R133: an ADJUST TEMPO in range. -/
theorem opAdjustTempo_slot (hlow : 4000 ≤ value.toNat) (hhigh : value.toNat ≤ 30000) :
    opAdjustTempo 0#8 value s
      = if s.tempo.slots[s.tempo.inEffect].form = .steady ∧ s.tempo.slots[s.tempo.inEffect].t = value.toNat then
          refuse .noChange s
        else (adjusted (rewriteInEffect value.toNat s), bare .ok) := by
  unfold opAdjustTempo
  rw [within?_eq_some.mpr ⟨⟨hlow, hhigh⟩, rfl⟩]
  rfl

/-- R88, R133: the slot in effect rewritten as STEADY while the clock runs: pending. -/
theorem rewriteInEffect_running {tempo : Nat} (hruns : s.tempo.clock ≠ .stopped) :
    rewriteInEffect tempo s
      = { s with
          tempo :=
            { s.tempo with
              slots := s.tempo.slots.set s.tempo.inEffect (tappedRecord tempo s.tempo.slots[s.tempo.inEffect])
              pendingSlot := some s.tempo.inEffect } } := by
  obtain ⟨-, -, -, -, hpending, -⟩ :=
    rewriteSlot_inEffect (tappedRecord tempo s.tempo.slots[s.tempo.inEffect]) s.tempo
  exact congrArg s.setTempo (hpending hruns)

/-- R88, R133: the slot in effect rewritten as STEADY while the clock is STOPPED, its beat within the meter: at once. -/
theorem rewriteInEffect_stopped {tempo : Nat} (hstopped : s.tempo.clock = .stopped)
    (hbeat : s.tempo.beat ≤ s.tempo.slots[s.tempo.inEffect].meter) :
    rewriteInEffect tempo s
      = { s with
          tempo :=
            { s.tempo with
              slots := s.tempo.slots.set s.tempo.inEffect (tappedRecord tempo s.tempo.slots[s.tempo.inEffect])
              pendingSlot := none, rampBeat := 0, tempo := tempo
              meter := s.tempo.slots[s.tempo.inEffect].meter } } := by
  have htaken := rewriteSlot_eq s.tempo.inEffect (tappedRecord tempo s.tempo.slots[s.tempo.inEffect]) s.tempo
  have hwithin : ¬(tappedRecord tempo s.tempo.slots[s.tempo.inEffect]).meter < s.tempo.beat := Nat.not_lt.mpr hbeat
  dsimp only at htaken
  rw [if_neg (not_not.mpr rfl), if_neg (not_not.mpr hstopped), if_neg hwithin] at htaken
  exact congrArg s.setTempo htaken

end Others

end Sys2Proof.Machine

namespace Sys2Proof
open Machine

/-- Settles O46: the mute set, a feed's override and the slot in effect, each by its outcomes. -/
theorem adjustOthers : Obligations.AdjustOthers := by
  intro h target value s hready
  refine ⟨?_, fun hrange => ?_, fun f o hfeed hvalue => ?_, fun hrange => ?_, fun hlow hhigh => ?_⟩
  · exact exec_adjust_cases 5#8 rfl rfl hready opAdjustMuteSet_eq
  · exact exec_adjust 6#8 rfl rfl hready (opAdjustOverride_range hrange)
  · have hop := opAdjustOverride_feed (s := s) hfeed hvalue
    split_ifs at hop ⊢ <;> exact exec_adjust 6#8 rfl rfl hready hop
  · exact exec_adjust 7#8 rfl rfl hready (opAdjustTempo_range hrange)
  · intro r
    have hop := opAdjustTempo_slot (s := s) hlow hhigh
    refine ⟨fun hform ht => ?_, fun hother hruns => ?_, fun hother hstopped hbeat => ?_⟩
    · exact exec_adjust 7#8 rfl rfl hready (hop.trans (if_pos ⟨hform, ht⟩))
    · rw [if_neg (not_and_or.mpr hother), rewriteInEffect_running hruns] at hop
      exact exec_adjust 7#8 rfl rfl hready hop
    · rw [if_neg (not_and_or.mpr hother), rewriteInEffect_stopped hstopped hbeat] at hop
      exact exec_adjust 7#8 rfl rfl hready hop

end Sys2Proof

end

section
/-! SUPPORT. Requests of CHANGE (R115–R121, R162–R164): a step or a GOTO offered to the change queue, taken at once by
an IDLE controller, and a change in flight abandoned for a GOTO. -/

namespace Sys2Proof.Machine

/-! ### One request taken at once (R118–R120) -/

/-- R118–R120: the IDLE controller with a single request. -/
theorem takeAll_single (r : ChangeRequest) (s : State) : RequestTaken r s (takeAll [r] s) := by
  have hdone (o : ChangeOutcome) : takeAll [] (endRequest o r.origin s) = requestEnded o r.origin s := by
    unfold endRequest
    cases o <;> rfl
  refine requestTaken_of_resolved (fun o hres => ?_) fun entry scene song hres hsong =>
    asked_of_page fun page hpage => ?_
  · rw [takeAll, hres]
    exact hdone o
  · rw [hsong] at hpage ⊢
    rw [takeAll, hres, pageAsked, ← decideSource_eq]
    dsimp only
    rw [hpage]
    dsimp only
    cases decideSource page s with
    | none => exact hdone .empty
    | some source => rfl

/-! ### Steps (R116) -/

section Step
variable {h : Head} {kind : StepKind} {number : Byte} {s : State}

/-- R116: a step that CHANGE appends to a queue with room. -/
theorem offerStep_appended (origin : Origin) (n : Nat) (hroom : s.change.queue.length < 4) :
    offerStep kind n origin s
      = let queued : State :=
          { s with
            change :=
              { s.change with
                queue := s.change.queue ++ [{ kind := requestKind kind, number := n, origin := origin }] } }
        if s.change.state = .idle then takeNext queued else queued := by
  unfold offerStep
  rw [if_pos (show changeHasRoom s = true from decide_eq_true hroom), stepKind_eq]
  rfl

theorem changeHasRoom_of_full (hfull : 4 ≤ s.change.queue.length) : changeHasRoom s = false :=
  decide_eq_false (Nat.not_lt.mpr hfull)

theorem opChange_step (kind : StepKind) (number : Byte) (s : State) :
    opChange (stepCode kind) number s = opChangeStep kind number s := by cases kind <;> rfl

theorem exec_changeStep (hready : Ready h s) :
    exec (.changeStep h kind number) s
      = .next (replied h 0x40#8 (if changeHasRoom s then .queued else .overflow) []
          (offerStep kind number.toNat .service s)) :=
  exec_performed (r := .change (stepCode kind) number) (by cases kind <;> rfl) rfl hready rfl
    (show (0x40#8 : Byte) ≠ restartCode by decide) (opChange_step kind number s)

theorem exec_changeStep_room (hready : Ready h s) (hroom : s.change.queue.length < 4) :
    exec (.changeStep h kind number) s
      = .next (replied h 0x40#8 .queued [] (offerStep kind number.toNat .service s)) := by
  rw [exec_changeStep hready, if_pos (show changeHasRoom s = true from decide_eq_true hroom)]

end Step

/-! ### GOTO (R117, R163, R164) -/

section Goto
variable {h : Head} {kind : GotoKind} {number : Byte} {s : State}

theorem opChange_goto (kind : GotoKind) (number : Byte) (s : State) :
    opChange (gotoCode kind) number s = (offerGoto kind number.toNat .service s, bare .queued) := by
  cases kind <;> rfl

theorem exec_changeGoto (hready : Ready h s) :
    exec (.changeGoto h kind number) s
      = .next (replied h 0x40#8 .queued [] (offerGoto kind number.toNat .service s)) :=
  exec_performed (r := .change (gotoCode kind) number) (by cases kind <;> rfl) rfl hready rfl
    (show (0x40#8 : Byte) ≠ restartCode by decide) (opChange_goto kind number s)

/-- R118–R120: a GOTO taken at once. -/
theorem gotoTaken (kind : GotoKind) (number : Nat) (origin : Origin) (s : State) :
    GotoTaken kind number origin s (takeAll [{ kind := gotoKind kind, number := number, origin := origin }] s) := by
  have htaken := takeAll_single { kind := gotoKind kind, number := number, origin := origin } s
  cases kind <;> exact htaken

/-- R163: a change abandoned whose fetch was not being read: no repair has been counted. -/
theorem abandonChange_waiting {f : Fetch} (hfetch : s.store.fetch = some f) (hwaits : ¬beingRead f s) :
    abandonChange s = abandoned s.status.fetchRepairs s.freeTick s := by
  have hreading : fetchReading f s = false := by rwa [← Bool.not_eq_true, fetchReading_iff]
  unfold abandonChange abandonFetch
  rw [hfetch]
  dsimp only
  rw [hreading]
  rfl

/-- R163: a change abandoned whose fetch was being read: some of its repairs have been counted (log entry 17). -/
theorem abandonChange_reading {f : Fetch} (hfetch : s.store.fetch = some f) (hread : beingRead f s) :
    ∃ n, abandonChange s = abandoned (min (s.status.fetchRepairs + n) 65535) (s.freeTick + 1) s := by
  unfold abandonChange abandonFetch
  rw [hfetch]
  dsimp only
  rw [if_pos ((fetchReading_iff f s).mpr hread)]
  exact ⟨_, rfl⟩

/-- R117, R163, R164: a change abandoned with its fetch in flight: how its repairs stand. -/
theorem abandonChange_fetching {f : Fetch} (hfetch : s.store.fetch = some f) :
    ∃ repairs freeTick : Nat, abandonChange s = abandoned repairs freeTick s
      ∧ (CounterInv s → s.status.fetchRepairs ≤ repairs ∧ repairs ≤ 65535)
      ∧ (¬beingRead f s → repairs = s.status.fetchRepairs) := by
  by_cases hread : beingRead f s
  · obtain ⟨n, habandoned⟩ := abandonChange_reading hfetch hread
    refine ⟨_, _, habandoned, fun hcounters => ⟨?_, Nat.min_le_right ..⟩, fun hwaits => absurd hread hwaits⟩
    obtain ⟨-, -, -, hrepairs⟩ := hcounters
    exact Nat.le_min.mpr ⟨Nat.le_add_right .., hrepairs⟩
  · refine ⟨_, _, abandonChange_waiting hfetch hread, fun hcounters => ⟨Nat.le_refl _, ?_⟩, fun _ => rfl⟩
    obtain ⟨-, -, -, hrepairs⟩ := hcounters
    exact hrepairs

/-- R162, R163: a fetch that waits for a load, or for the operation in flight to stop, is not being read. -/
theorem not_beingRead_of_waits {f : Fetch} {op : Operation} (hop : s.store.operation = some op)
    (hwaits : f.source = .afterLoad ∨ (f.source = .cells ∧ op.suspended = false)) : ¬beingRead f s := by
  rintro ⟨hload, hstopped⟩
  rcases hwaits with hsource | ⟨hcells, hgoes⟩
  · exact hload hsource
  · exact Bool.noConfusion (hgoes.symm.trans (hstopped hcells op hop))

end Goto

end Sys2Proof.Machine

namespace Sys2Proof
open Machine

/-- Settles O41: outside IDLE a step is appended or dropped, and a GOTO while SWITCHING replaces the queue. -/
theorem changeQueue : Obligations.ChangeQueue := by
  intro h number s hready
  refine ⟨fun kind hbusy => ⟨fun hroom => ?_, fun hfull => ?_⟩, fun hswitching => ⟨?_, ?_⟩⟩
  · rw [exec_changeStep_room hready hroom, offerStep_appended _ _ hroom]
    exact congrArg (fun t => Host.Outcome.next (replied h 0x40#8 .queued [] t)) (if_neg hbusy)
  · have hdropped : offerStep kind number.toNat .service s = countChangeOverflow s := by
      unfold offerStep
      rw [changeHasRoom_of_full hfull]
      rfl
    rw [exec_changeStep hready, hdropped, changeHasRoom_of_full hfull]
    rfl
  · rw [exec_changeGoto hready, offerGoto_switching hswitching]
    rfl
  · rw [exec_changeGoto hready, offerGoto_switching hswitching]
    rfl

/-- Settles O42: a request that finds the controller IDLE, or that makes it so, is `takeAll_single`. -/
theorem takeRequest : Obligations.TakeRequest := by
  intro h number s hready
  refine ⟨fun hidle hqueue kind => ?_, fun kind =>
    ⟨fun hidle => ?_, fun hwaiting hfetch => ?_, fun hfetching hfetch => ?_⟩⟩
  · have hroom : s.change.queue.length < 4 := by rw [hqueue]; decide
    refine ⟨_, exec_changeStep_room hready hroom, ?_⟩
    rw [offerStep_appended _ _ hroom]
    dsimp only
    rw [if_pos hidle, hqueue]
    have htaken := takeAll_single { kind := requestKind kind, number := number.toNat, origin := .service }
      { s with
        change :=
          { s.change with queue := [{ kind := requestKind kind, number := number.toNat, origin := .service }] } }
    cases kind <;> exact htaken
  · refine ⟨_, exec_changeGoto hready, ?_⟩
    unfold offerGoto
    rw [hidle]
    exact gotoTaken ..
  · refine ⟨_, exec_changeGoto hready, ?_⟩
    have hdropped : abandonChange s
        = { s with change := { s.change with state := .idle, target := none, staged := none } } := by
      unfold abandonChange abandonFetch
      rw [hfetch]
      rfl
    unfold offerGoto
    rw [hwaiting, ← hdropped]
    exact gotoTaken ..
  · obtain ⟨f, hf⟩ := Option.ne_none_iff_exists'.mp hfetch
    obtain ⟨repairs, freeTick, habandoned, hbounds, hwaits⟩ := abandonChange_fetching hf
    refine ⟨repairs, freeTick, _, exec_changeGoto hready, ?_, hbounds, fun f' op hf' hop hsource _ => hwaits ?_⟩
    · unfold offerGoto
      rw [hfetching, ← habandoned]
      exact gotoTaken ..
    · obtain rfl : f = f' := Option.some.inj (hf.symm.trans hf')
      exact not_beingRead_of_waits hop hsource

end Sys2Proof

end

section
/-! SUPPORT. BURST_PLACE and CHANGE_END (R128, R129, R14, R111, R26): the entry at the burst cursor by its outcomes, and
when a change ends. -/

namespace Sys2Proof.Machine

/-! ### When a change ends (R129) -/

theorem exec_changeEnd {s : State} (hpower : s.power = true) : exec .changeEnd s = .next (endChange s) :=
  powered_of_power hpower

theorem burstDone_iff (s : State) :
    burstDone s = true ↔ s.change.active.block.bursts.length ≤ s.change.burstCursor
      ∧ ∀ p : Port, s.link.outs[p].burst = [] := by
  simp [burstDone]

/-- R129: the change goes on where SWITCHING is over or the burst is not. -/
theorem endChange_goes {s : State} (h : s.change.state ≠ .switching ∨ burstDone s = false) : endChange s = s := by
  unfold endChange
  rw [if_neg (by rcases h with h | h <;> simp [h])]

/-- R129: a frame in a burst queue keeps the change going. -/
theorem endChange_queued {s : State} (h : ∃ p : Port, s.link.outs[p].burst ≠ []) : endChange s = s := by
  obtain ⟨p, hp⟩ := h
  refine endChange_goes (.inr (Bool.eq_false_iff.mpr fun hdone => hp ?_))
  exact ((burstDone_iff s).mp hdone).2 p

/-- R118, R120, R129: the change ends, and the IDLE controller takes what waits. -/
theorem endChange_taken {s : State} (hstate : s.change.state = .switching) (hdone : burstDone s = true) :
    QueueTaken s.change.queue { s with change := { s.change with state := .idle, target := none, queue := [] } }
      (endChange s) := by
  unfold endChange
  rw [if_pos (by simp [hstate, hdone])]
  exact takeAll_taken s.change.queue (s := modifyChange (fun c => { c with state := .idle, target := none }) s) rfl

/-! ### Frames placed on a burst queue (R14) -/

/-- R14: the part with frames at the tail of a port's burst queue. -/
def burstQueued (p : Port) (frames : List Frame) (s : State) : State :=
  { s with
    link :=
      { s.link with
        outs := s.link.outs.set p
          { s.link.outs[p] with
            burst := s.link.outs[p].burst ++ frames.map fun f => { frame := f, source := .burst } } } }

theorem pushBurst_eq (p : Port) (f : Frame) (s : State) : pushBurst p f s = burstQueued p [f] s := rfl

theorem burstQueued_burstQueued (p : Port) (fs gs : List Frame) (s : State) :
    burstQueued p gs (burstQueued p fs s) = burstQueued p (fs ++ gs) s := by
  simp [burstQueued]

theorem burstHasRoom_burstQueued (p : Port) (fs : List Frame) (s : State) :
    burstHasRoom p (burstQueued p fs s) = decide (s.link.outs[p].burst.length + fs.length < 16) := by
  simp [burstHasRoom, burstQueued, Config.burstCapacity]

/-! ### The entry at the burst cursor (R26, R111, R128) -/

/-- R128: the controller with the entry at the burst cursor passed. -/
def entryPassed (c : Change) : Change := { c with burstCursor := c.burstCursor + 1, selectPlaced := false }

/-- R26, R111: a skipped entry, and one for a port flushed during the change, has no port to be placed on. -/
theorem entryPort_none {e : BurstEntry} {s : State}
    (h : e.skip = true ∨ ∃ p : Port, e.port.toNat = p.val + 1 ∧ s.change.flushed[p] = true) : entryPort e s = none := by
  unfold entryPort
  split
  · rfl
  · next hskip =>
    obtain ⟨p, hport, hflushed⟩ := h.resolve_left hskip
    rw [portOfNat?_of_eq hport]
    exact if_pos hflushed

theorem entryPort_some {e : BurstEntry} {p : Port} {s : State} (hskip : e.skip = false)
    (hport : e.port.toNat = p.val + 1) (hflushed : s.change.flushed[p] = false) : entryPort e s = some p := by
  unfold entryPort
  rw [hskip, portOfNat?_of_eq hport]
  exact if_neg (Bool.eq_false_iff.mp hflushed)

theorem hasLevel_iff (e : BurstEntry) : e.hasLevel = true ↔ e.level ≠ 0xFF#8 := bne_iff_ne

section Entry
variable {e : BurstEntry} {p : Port} {s : State} (hport : entryPort e s = some p)
include hport

/-- R128: an entry whose Sound Select finds no room. -/
theorem placeEntry_stuck (hselect : s.change.selectPlaced = false) (hfull : 16 ≤ s.link.outs[p].burst.length) :
    placeEntry e s = (s, false) := by
  have hroom : burstHasRoom p s = false := decide_eq_false (Nat.not_lt.mpr hfull)
  unfold placeEntry
  rw [hport]
  dsimp only
  rw [hselect, hroom]
  rfl

/-- R128: an entry whose Sound Select is placed, or has been: what is left of it is its level. -/
theorem placeEntry_selected (hselect : s.change.selectPlaced = true ∨ s.link.outs[p].burst.length < 16) :
    placeEntry e s
      = if e.level = 0xFF#8 then (advanceBurst (selectDone p e s), true)
        else if burstHasRoom p (selectDone p e s) then
          (advanceBurst (pushBurst p (entryLevel e) (selectDone p e s)), true)
        else (selectDone p e s, false) := by
  have hgoes : ¬(!s.change.selectPlaced && !burstHasRoom p s) = true := by
    rcases hselect with hplaced | hroom
    · simp [hplaced]
    · simp [show burstHasRoom p s = true from decide_eq_true hroom]
  unfold placeEntry
  rw [hport]
  dsimp only
  rw [if_neg hgoes]
  refine if_congr ?_ rfl rfl
  rw [Bool.not_eq_true', Bool.eq_false_iff, Ne, hasLevel_iff, not_not]

/-- R128: an entry with its Sound Select to place, in a queue with room. -/
theorem placeEntry_selecting (hselect : s.change.selectPlaced = false) (hroom : s.link.outs[p].burst.length < 16) :
    placeEntry e s
      = if e.level = 0xFF#8 then
          (({ burstQueued p [entrySelect e] s with change := entryPassed s.change } : State), true)
        else if s.link.outs[p].burst.length < 15 then
          ({ burstQueued p [entrySelect e, entryLevel e] s with change := entryPassed s.change }, true)
        else ({ burstQueued p [entrySelect e] s with change := { s.change with selectPlaced := true } }, false) := by
  have hdone : selectDone p e s
      = { burstQueued p [entrySelect e] s with change := { s.change with selectPlaced := true } } := by
    unfold selectDone
    rw [if_neg (Bool.eq_false_iff.mp hselect), pushBurst_eq]
    rfl
  have hlevel : pushBurst p (entryLevel e) (burstQueued p [entrySelect e] s)
      = burstQueued p [entrySelect e, entryLevel e] s := by rw [pushBurst_eq, burstQueued_burstQueued]; rfl
  have hleft : burstHasRoom p (selectDone p e s) = true ↔ s.link.outs[p].burst.length < 15 := by
    rw [hdone]
    show burstHasRoom p (burstQueued p [entrySelect e] s) = true ↔ _
    rw [burstHasRoom_burstQueued, decide_eq_true_iff]
    exact Nat.lt_sub_iff_add_lt.symm
  rw [placeEntry_selected hport (.inr hroom)]
  refine if_congr Iff.rfl ?_ (if_congr hleft ?_ ?_)
  · rw [hdone]; rfl
  · rw [hdone, ← hlevel]; rfl
  · rw [hdone]

/-- R128: an entry whose level alone is left. -/
theorem placeEntry_leveling (hselect : s.change.selectPlaced = true) (hlevel : e.level ≠ 0xFF#8) :
    placeEntry e s
      = if s.link.outs[p].burst.length < 16 then
          (({ burstQueued p [entryLevel e] s with change := entryPassed s.change } : State), true)
        else (s, false) := by
  have hdone : selectDone p e s = s := if_pos hselect
  rw [placeEntry_selected hport (.inl hselect), if_neg hlevel, hdone]
  exact if_congr decide_eq_true_iff rfl rfl

end Entry

/-! ### BURST_PLACE by the entry at the cursor (R128) -/

/-- R128: past the last entry there is nothing to place. -/
theorem placeBursts_over {s : State} (hover : s.change.active.block.bursts.length ≤ s.change.burstCursor) :
    placeBursts s = s := by
  unfold placeBursts
  rw [List.drop_eq_nil_of_le hover]
  exact ite_self s

section Place
variable {e : BurstEntry} {rest : List BurstEntry} {s : State} (hpower : s.power = true)
  (hstate : s.change.state = .switching)
  (hdrop : s.change.active.block.bursts.drop s.change.burstCursor = e :: rest)
include hdrop

theorem burstCursor_lt : s.change.burstCursor < s.change.active.block.bursts.length := by
  by_contra hge
  rw [List.drop_eq_nil_of_le (Nat.not_lt.mp hge)] at hdrop
  cases hdrop

/-- R129: with an entry left the burst is not over. -/
theorem burstDone_of_entry : burstDone s = false :=
  Bool.eq_false_iff.mpr fun hdone =>
    absurd ((burstDone_iff s).mp hdone).1 (Nat.not_le.mpr (burstCursor_lt hdrop))

include hpower hstate

/-- R128: an entry without room holds the cursor. -/
theorem exec_burstPlace_held {link : Link} {selected : Bool}
    (hentry : placeEntry e s
      = ({ s with change := { s.change with selectPlaced := selected }, link := link }, false)) :
    exec .burstPlace s = .next { s with change := { s.change with selectPlaced := selected }, link := link } := by
  have hplaced : placeBursts s = { s with change := { s.change with selectPlaced := selected }, link := link } := by
    unfold placeBursts
    rw [if_pos hstate, hdrop, placeFrom, hentry]
    rfl
  rw [exec_burstPlace hpower, hplaced]
  refine congrArg _ (endChange_goes (.inr (burstDone_of_entry (e := e) (rest := rest) ?_)))
  exact hdrop

/-- R128: with an entry passed, the burst is worked on from the next one. -/
theorem exec_burstPlace_passed {link : Link}
    (hentry : placeEntry e s = ({ s with change := entryPassed s.change, link := link }, true)) :
    exec .burstPlace s = exec .burstPlace { s with change := entryPassed s.change, link := link } := by
  have hrest : s.change.active.block.bursts.drop (s.change.burstCursor + 1) = rest := by
    rw [← List.drop_drop, hdrop]
    rfl
  have hplaced : placeBursts s = placeBursts { s with change := entryPassed s.change, link := link } := by
    unfold placeBursts
    rw [if_pos hstate, hdrop, placeFrom, hentry, if_pos (show (entryPassed s.change).state = .switching from hstate)]
    exact (congrArg (fun es => placeFrom es _) hrest).symm
  rw [exec_burstPlace hpower, hplaced]
  exact (exec_burstPlace (s := { s with change := entryPassed s.change, link := link }) hpower).symm

end Place

end Sys2Proof.Machine

namespace Sys2Proof
open Machine

/-- Settles O44: the entry at the burst cursor holds it or is passed, and the change ends where no entry and no frame is
left. -/
theorem burstAndChangeEnd : Obligations.BurstAndChangeEnd := by
  intro s hpower
  refine ⟨fun hother => ⟨?_, ?_⟩, fun e rest hstate hdrop => ?_, fun hstate hover =>
    ⟨fun hqueued => ?_, fun hempty => ?_⟩, fun hqueued => ?_⟩
  · rw [exec_burstPlace hpower, burstPlaced_of_not_switching hother]
  · rw [exec_changeEnd hpower, endChange_goes (.inl hother)]
  · intro passed
    have hheld {link : Link} {selected : Bool} := exec_burstPlace_held hpower hstate hdrop (link := link)
      (selected := selected)
    have hpassed {link : Link} := exec_burstPlace_passed hpower hstate hdrop (link := link)
    refine ⟨?_, fun hskip => ?_, fun p hskip hnumber hflushed => ?_⟩
    · rw [exec_changeEnd hpower, endChange_goes (.inr (burstDone_of_entry hdrop))]
    · refine hpassed (link := s.link) ?_
      unfold placeEntry
      rw [entryPort_none hskip]
      rfl
    · intro n placed select level
      have hport : entryPort e s = some p := entryPort_some hskip hnumber hflushed
      refine ⟨fun hselect => ⟨fun hfull => ?_, fun hroom hnone => ?_, fun hroom hlevel => ?_, fun hlast hlevel => ?_⟩,
        fun hselect hlevel => ⟨fun hfull => ?_, fun hroom => ?_⟩⟩
      · exact hheld (link := s.link) (selected := s.change.selectPlaced) (placeEntry_stuck hport hselect hfull)
      · exact hpassed ((placeEntry_selecting hport hselect hroom).trans (if_pos hnone))
      · exact hpassed ((placeEntry_selecting hport hselect (by omega)).trans
          ((if_neg hlevel).trans (if_pos hroom)))
      · exact hheld ((placeEntry_selecting hport hselect (by omega)).trans
          ((if_neg hlevel).trans (if_neg (by omega))))
      · exact hheld (link := s.link) (selected := s.change.selectPlaced)
          ((placeEntry_leveling hport hselect hlevel).trans (if_neg (Nat.not_lt.mpr hfull)))
      · exact hpassed ((placeEntry_leveling hport hselect hlevel).trans (if_pos hroom))
  · rw [exec_burstPlace hpower, placeBursts_over hover, endChange_queued hqueued]
  · refine ⟨by rw [exec_burstPlace hpower, placeBursts_over hover, exec_changeEnd hpower], _, exec_changeEnd hpower, ?_⟩
    exact endChange_taken hstate ((burstDone_iff s).mpr ⟨hover, hempty⟩)
  · rw [exec_changeEnd hpower, endChange_queued hqueued]

end Sys2Proof

end

section
/-! SUPPORT. KEEP ADJUSTMENTS (R134, R135, R156, R193): what a run of bytes written over a page leaves, the captured
fields as bytes of the page, the page check, and the load step. -/

namespace Sys2Proof.Machine

/-! ### Runs of bytes (R135) -/

/-- The byte that a run of bytes from `start` on puts at an address, none outside the run. -/
def runByte (start : Nat) (bytes : List Byte) (a : Nat) : Option Byte :=
  if start ≤ a then bytes[a - start]? else none

theorem runByte_outside {start : Nat} {bytes : List Byte} {a : Nat} (h : a < start ∨ start + bytes.length ≤ a) :
    runByte start bytes a = none := by
  unfold runByte
  split
  · exact List.getElem?_eq_none (by omega)
  · rfl

theorem runByte_inside {start : Nat} {bytes : List Byte} {a : Nat} (hlow : start ≤ a)
    (hhigh : a < start + bytes.length) :
    runByte start bytes a = some (bytes.getD (a - start) 0#8) := by
  have hplace : a - start < bytes.length := by omega
  unfold runByte
  rw [if_pos hlow, List.getElem?_eq_getElem hplace, List.getD_eq_getElem _ _ hplace]

/-- A run written reads as its bytes, and outside it as what stood there. -/
theorem read_writeRun_runByte {m : Memory} (hm : Memory.wf m) (start : Nat) (bytes : List Byte) (a : Nat) :
    Memory.read (m.writeRun start bytes) a = (runByte start bytes a).getD (Memory.read m a) := by
  rw [Memory.read_writeRun hm]
  by_cases h : start ≤ a ∧ a < start + bytes.length
  · rw [if_pos h, runByte_inside h.1 h.2]
    rfl
  · rw [if_neg h, runByte_outside (by omega)]
    rfl

/-- Two runs, the second written where the first ends, are one. -/
theorem writeRun_append (m : Memory) (start : Nat) (xs ys : List Byte) :
    Memory.writeRun (m.writeRun start xs) (start + xs.length) ys = m.writeRun start (xs ++ ys) := by
  induction xs generalizing m start with
  | nil => rfl
  | cons x xs ih =>
    have hend : start + (xs.length + 1) = start + 1 + xs.length := by omega
    rw [List.length_cons, List.cons_append, Memory.writeRun, Memory.writeRun, ← ih, hend]

/-! ### The captured fields as bytes (R135, R193) -/

theorem zoneBytes_eq (z : Zone) : zoneBytes z = keptZone z := by
  unfold zoneBytes keptZone
  cases z.enabled <;> rfl

theorem keptZone_length (z : Zone) : (keptZone z).length = 19 := rfl

theorem keptTempo_length (r : TempoRecord) : (keptTempo r).length = 7 := rfl

theorem tempoBytes_eq (r : TempoRecord) : tempoBytes r = keptTempo r := by
  unfold tempoBytes keptTempo
  cases r.form <;> rfl

theorem sceneFields_eq (b : SceneBlock) :
    b.name
        ++ ([absentOr Fin.val b.tempoSlot, natByte b.changePoint.code, natByte b.leave.code, b.muteSet]
          ++ b.overrides.toList.map (absentOr Override.code)
          ++ [natByte (boolNat b.autoStart), natByte b.zones.length, natByte b.bursts.length])
      = keptFields b := by
  have hoverride : absentOr Override.code = fun o : Option Override =>
      match o with
      | none => 0xFF#8
      | some .normal => 0#8
      | some .beatsOnly => 1#8
      | some .silent => 2#8 := by
    funext o
    rcases o with _ | o
    · rfl
    · cases o <;> rfl
  have hpoint : natByte b.changePoint.code = match b.changePoint with
      | .immediate => 0#8
      | .beat => 1#8
      | .bar => 2#8
      | .phrase2 => 3#8
      | .phrase4 => 4#8
      | .phrase8 => 5#8 := by cases b.changePoint <;> rfl
  have hleave : natByte b.leave.code = match b.leave with
      | .carry => 0#8
      | .cut => 1#8 := by cases b.leave <;> rfl
  have hstart : natByte (boolNat b.autoStart) = if b.autoStart then 1#8 else 0#8 := by cases b.autoStart <;> rfl
  have hslot : absentOr Fin.val b.tempoSlot = match b.tempoSlot with
      | none => 0xFF#8
      | some slot => BitVec.ofNat 8 slot.val := by cases b.tempoSlot <;> rfl
  unfold keptFields
  rw [hoverride, hpoint, hleave, hstart, hslot, List.append_assoc, List.append_assoc, List.append_assoc]
  rfl

theorem keptFields_length {b : SceneBlock} (hname : b.name.length = 12) : (keptFields b).length = 27 := by
  rw [← sceneFields_eq]
  simp [hname]

/-- Records of one length, one after the other. -/
theorem length_flatMap_const {α : Type} {f : α → List Byte} {k : Nat} (hf : ∀ x, (f x).length = k) (l : List α) :
    (l.flatMap f).length = l.length * k := by
  simp [List.length_flatMap, hf]

/-- R135: a scene block's captured fields written over the block of a page. -/
theorem patchScene_eq (image : Memory) (scene : Nat) {b : SceneBlock} (hname : b.name.length = 12) :
    patchScene image scene b
      = (((image.writeRun (sceneBase scene) (keptFields b)).writeRun (sceneBase scene + 27)
          (b.zones.flatMap keptZone)).writeRun (sceneBase scene + 331) (b.bursts.flatMap burstBytes)) := by
  have hzones : b.zones.flatMap zoneBytes = b.zones.flatMap keptZone := List.flatMap_congr fun z _ => zoneBytes_eq z
  have hfields := writeRun_append image (sceneBase scene) b.name
    ([absentOr Fin.val b.tempoSlot, natByte b.changePoint.code, natByte b.leave.code, b.muteSet]
      ++ b.overrides.toList.map (absentOr Override.code)
      ++ [natByte (boolNat b.autoStart), natByte b.zones.length, natByte b.bursts.length])
  rw [hname, sceneFields_eq] at hfields
  unfold patchScene
  dsimp only
  rw [hfields, hzones]

theorem wf_patchScene {image : Memory} (h : Memory.wf image) (scene : Nat) (b : SceneBlock) :
    Memory.wf (patchScene image scene b) :=
  Memory.wf_writeRun (Memory.wf_writeRun (Memory.wf_writeRun (Memory.wf_writeRun h _ _) _ _) _ _) _ _

theorem wf_patchSlots {image : Memory} (h : Memory.wf image) (slots : List TempoRecord) :
    Memory.wf (patchSlots image slots) := by
  have hrun : Memory.wf (image.writeRun 20 (slots.flatMap tempoBytes)) := Memory.wf_writeRun h _ _
  unfold patchSlots
  dsimp only
  split
  · exact Memory.wf_write hrun _ _
  · exact hrun

theorem read_patchScene {image : Memory} (h : Memory.wf image) (scene : Nat) {b : SceneBlock}
    (hname : b.name.length = 12) (a : Nat) :
    Memory.read (patchScene image scene b) a
      = (runByte (sceneBase scene + 331) (b.bursts.flatMap burstBytes) a).getD
          ((runByte (sceneBase scene + 27) (b.zones.flatMap keptZone) a).getD
            ((runByte (sceneBase scene) (keptFields b) a).getD (Memory.read image a))) := by
  rw [patchScene_eq image scene hname, read_writeRun_runByte (Memory.wf_writeRun (Memory.wf_writeRun h _ _) _ _),
    read_writeRun_runByte (Memory.wf_writeRun h _ _), read_writeRun_runByte h]

/-- R135: captured slots written over the tempo records of a page, and their count raised where it was lower. -/
theorem read_patchSlots {image : Memory} (h : Memory.wf image) (slots : List TempoRecord) (a : Nat) :
    Memory.read (patchSlots image slots) a
      = (runByte 20 (slots.flatMap keptTempo) a).getD
          (if a = 19 ∧ (Memory.read image 19).toNat < slots.length then BitVec.ofNat 8 slots.length
           else Memory.read image a) := by
  have hslots : slots.flatMap tempoBytes = slots.flatMap keptTempo := List.flatMap_congr fun r _ => tempoBytes_eq r
  have hrun : Memory.wf (image.writeRun 20 (slots.flatMap keptTempo)) := Memory.wf_writeRun h _ _
  have hcount : Memory.read (image.writeRun 20 (slots.flatMap keptTempo)) 19 = Memory.read image 19 := by
    rw [read_writeRun_runByte h, runByte_outside (.inl (by decide))]
    rfl
  unfold patchSlots
  dsimp only
  rw [hslots, hcount]
  by_cases hraised : (Memory.read image 19).toNat < slots.length
  · rw [if_pos hraised, Memory.read_write hrun, read_writeRun_runByte h]
    by_cases ha : a = 19
    · subst ha
      rw [if_pos rfl, if_pos ⟨rfl, hraised⟩, runByte_outside (.inl (by decide))]
      rfl
    · rw [if_neg ha, if_neg fun h => ha h.1]
  · rw [if_neg hraised, if_neg fun h => hraised h.2, read_writeRun_runByte h]

/-! ### The page check (R157, R193) -/

/-- A write at or above an address leaves the pairs below it. -/
theorem filter_write_of_le {n a : Nat} (h : n ≤ a) (b : Byte) (m : Memory) :
    (m.write a b).filter (fun c => c.1 < n) = m.filter fun c => c.1 < n := by
  have hwritten (rest : Memory) : ((a, b) :: rest).filter (fun c => c.1 < n) = rest.filter fun c => c.1 < n :=
    List.filter_cons_of_neg (by simpa using h)
  induction m with
  | nil =>
    unfold Memory.write
    split
    · rfl
    · exact hwritten []
  | cons c cs ih =>
    unfold Memory.write
    split
    · split
      · rfl
      · exact hwritten (c :: cs)
    · split
      · next ha =>
        have hc : (c :: cs).filter (fun d => d.1 < n) = cs.filter fun d => d.1 < n :=
          List.filter_cons_of_neg (by simpa [← ha] using h)
        rw [hc]
        split
        · rfl
        · exact hwritten cs
      · rw [List.filter_cons, List.filter_cons, ih]

theorem sumBelow_write_of_le {n a : Nat} (h : n ≤ a) (b : Byte) (m : Memory) :
    Memory.sumBelow (m.write a b) n = Memory.sumBelow m n := by
  unfold Memory.sumBelow
  rw [filter_write_of_le h]

/-- R193: the check written into a page leaves its sum. -/
theorem pageSum_sealPage (image : Memory) : pageSum (sealPage image) = pageSum image := by
  unfold sealPage
  generalize BitVec.ofNat 8 (pageSum image / 256) = high
  generalize BitVec.ofNat 8 (pageSum image % 256) = low
  unfold pageSum
  rw [sumBelow_write_of_le (Nat.le_succ _), sumBelow_write_of_le (Nat.le_refl _)]

/-- R193: the check that stands in a sealed page is the page's sum. -/
theorem storedCheck_sealPage {image : Memory} (h : Memory.wf image) :
    storedCheck (sealPage image) = pageSum (sealPage image) := by
  have hsum : pageSum image < 65536 := Nat.mod_lt _ (by decide)
  rw [pageSum_sealPage]
  unfold storedCheck sealPage
  rw [Memory.read_write (Memory.wf_write h _ _), Memory.read_write (Memory.wf_write h _ _), if_pos rfl,
    if_neg (by decide), Memory.read_write h, if_pos rfl, BitVec.toNat_ofNat, BitVec.toNat_ofNat]
  omega

/-! ### The page that is kept (R135) -/

theorem wf_patched (c : KeepCapture) {image : Memory} (h : Memory.wf image) :
    Memory.wf (patchSlots (patchScene image c.scene c.block) c.slots) := wf_patchSlots (wf_patchScene h ..) _

/-- R135: the page that a KEEP ADJUSTMENTS commits, byte by byte below its check: the runs written lie apart from each
other, so each stands over the page alone. -/
theorem read_patchBuffer {c : KeepCapture} {image : Memory} {page : Nat → Byte} {a : Nat} (himage : Memory.wf image)
    (hpage : ∀ i, i < 4094 → Memory.read image i = page i) (hname : c.block.name.length = 12)
    (hzones : c.block.zones.length ≤ 16) (hslots : c.slots.length ≤ 4) (ha : a < 4094) :
    Memory.read (patchBuffer c image) a = keptByte c page a := by
  have hbase : sceneBase c.scene = 48 + (c.scene - 1) * 427 := rfl
  have hfieldsLength : (keptFields c.block).length = 27 := keptFields_length hname
  have hzonesLength : (c.block.zones.flatMap keptZone).length = c.block.zones.length * 19 :=
    length_flatMap_const keptZone_length _
  have hslotsLength : (c.slots.flatMap keptTempo).length = c.slots.length * 7 :=
    length_flatMap_const keptTempo_length _
  have hkept : keptByte c page a
      = ((runByte (sceneBase c.scene) (keptFields c.block) a).or
          ((runByte (sceneBase c.scene + 27) (c.block.zones.flatMap keptZone) a).or
            ((runByte (sceneBase c.scene + 331) (c.block.bursts.flatMap burstBytes) a).or
              (runByte 20 (c.slots.flatMap keptTempo) a)))).getD
        (if a = 19 ∧ (page 19).toNat < c.slots.length then BitVec.ofNat 8 c.slots.length else page a) := rfl
  have hscene (i : Nat) (hi : i < 48) :
      Memory.read (patchScene image c.scene c.block) i = page i := by
    rw [read_patchScene himage _ hname, runByte_outside (.inl (by omega)), runByte_outside (.inl (by omega)),
      runByte_outside (.inl (by omega))]
    exact hpage i (by omega)
  unfold patchBuffer
  rw [hkept, read_sealPage (wf_patched c himage) (Nat.ne_of_lt ha) (Nat.ne_of_lt (Nat.lt_succ_of_lt ha)),
    read_patchSlots (wf_patchScene himage ..), hscene 19 (by decide)]
  by_cases hhead : a < 48
  · rw [hscene a hhead, runByte_outside (start := sceneBase c.scene) (.inl (by omega)),
      runByte_outside (start := sceneBase c.scene + 27) (.inl (by omega)),
      runByte_outside (start := sceneBase c.scene + 331) (.inl (by omega))]
    rfl
  · rw [runByte_outside (start := 20) (.inr (by omega)), if_neg (by omega), if_neg (by omega),
      read_patchScene himage _ hname, hpage a ha, Option.or_none]
    by_cases hblock : a < sceneBase c.scene + 27
    · rw [runByte_outside (start := sceneBase c.scene + 27) (.inl hblock),
        runByte_outside (start := sceneBase c.scene + 331) (.inl (by omega)), Option.or_none, Option.or_none]
      rfl
    · rw [runByte_outside (start := sceneBase c.scene) (.inr (by omega)), Option.none_or]
      by_cases hzone : a < sceneBase c.scene + 331
      · rw [runByte_outside (start := sceneBase c.scene + 331) (.inl hzone), Option.or_none]
        rfl
      · rw [runByte_outside (start := sceneBase c.scene + 27) (.inr (by omega)), Option.none_or]
        rfl

/-! ### KEEP ADJUSTMENTS accepted (R134, R156) -/

theorem exec_keepAdjustments {h : Head} {s t : State} {o : Outcome} (hready : Ready h s)
    (hop : opKeep s = (t, bare o)) :
    exec (.keepAdjustments h) s = .next (replied h 0x42#8 o [] t) :=
  exec_performed (r := .keepAdjustments) rfl rfl hready rfl (show (0x42#8 : Byte) ≠ restartCode by decide) hop

theorem beginOperation_accepted (kind : OperationKind) (s : State) :
    beginOperation kind s = accepted kind s.store.buffer s := by
  unfold beginOperation accepted fetchHoldsCells
  cases s.store.fetch with
  | none => rfl
  | some f =>
    dsimp only
    rw [beq_eq_decide]
    rfl

theorem opKeep_empty {s : State} (h : s.change.active.source = none) : opKeep s = refuse .noSet s := by
  unfold opKeep State.emptyActive
  rw [h]
  rfl

/-- R134: KEEP ADJUSTMENTS of a scene with a page. -/
theorem opKeep_page {s : State} {p : Page} (hsource : s.change.active.source ≠ none)
    (hpage : s.change.cursorPage = some p) :
    opKeep s
      = if s.store.operation ≠ none then refuse .busy s
        else if s.store.protect[p] = true then refuse .pageProtected s
        else
          (accepted
            (.keepLoad
              { page := p, scene := s.change.cursorScene, block := s.change.active.block
                slots := capturedSlots s.tempo })
            s.store.buffer { s with change := { s.change with keepStale := false } }, bare .started) := by
  have hempty : s.emptyActive = false := by
    unfold State.emptyActive
    rwa [Option.isNone_eq_false_iff, Option.isSome_iff_ne_none]
  have hbusy : (!s.storeIdle) = true ↔ s.store.operation ≠ none := by
    unfold State.storeIdle
    cases s.store.operation <;> simp
  unfold opKeep
  rw [hempty, hpage]
  dsimp only
  rw [beginOperation_accepted]
  exact if_congr hbusy rfl rfl

/-! ### The load step (R135, R156) -/

theorem sceneCountOf_image (s : State) (p : Page) : sceneCountOf (s.store.image p) = (pageByte s p 17).toNat := by
  unfold sceneCountOf
  rw [Store.read_image _ _ _ (by decide)]
  rfl

section Load
variable {s : State} {c : KeepCapture} (hfetch : s.store.fetch = none)
  (hload : s.store.operation = some { kind := .keepLoad c, begun := true, suspended := false })
include hfetch hload

/-- R135, R156: the end of the load step with no fetch waiting for it. -/
theorem endKeepLoad_unfetched :
    endKeepLoad s
      = if s.store.classes[c.page] ≠ .good ∨ (pageByte s c.page 17).toNat < c.scene then
          faultOperation (loadBuffer c.page s)
        else
          { s with
            store :=
              { s.store with
                buffer := patchBuffer c (s.store.image c.page)
                operation := some { kind := .keepCommit c, begun := true, suspended := false } } } := by
  have hrunning : runningOperation? s = some (.keepLoad c) := by
    unfold runningOperation?
    rw [hload]
    rfl
  have hkept {t : State} (ht : t.store.fetch = none) : redecideFetch t = t := by
    unfold redecideFetch
    rw [ht]
  unfold endKeepLoad
  rw [hrunning, ← sceneCountOf_image]
  dsimp only
  rw [hkept (by split <;> exact hfetch)]
  rfl

end Load

end Sys2Proof.Machine

namespace Sys2Proof
open Machine

/-- Settles O40: the refusals in `opKeep`'s order, and the two ends of the load step, the page that is kept read byte by
byte. -/
theorem keepAdjustments : Obligations.KeepAdjustments := by
  refine ⟨fun h s hready => ⟨fun hempty => ?_, fun p hsource hpage => ⟨fun hbusy => ?_, fun hidle hprot => ?_,
    fun hidle hfree => ?_⟩⟩, fun s c hpower hfetch hload => ⟨fun hfault => ?_, ?_⟩⟩
  · exact exec_keepAdjustments hready (opKeep_empty hempty)
  · exact exec_keepAdjustments hready ((opKeep_page hsource hpage).trans (if_pos hbusy))
  · exact exec_keepAdjustments hready
      ((opKeep_page hsource hpage).trans ((if_neg (not_not.mpr hidle)).trans (if_pos hprot)))
  · exact exec_keepAdjustments hready ((opKeep_page hsource hpage).trans
      ((if_neg (not_not.mpr hidle)).trans (if_neg (Bool.eq_false_iff.mp hfree))))
  · have hend := endKeepLoad_unfetched hfetch hload
    rw [if_pos hfault] at hend
    exact (powered_of_power hpower).trans (congrArg _ hend)
  · rintro hgood hwithin - - ⟨hcells, -⟩ hname hzones - hslots
    have himage : Memory.wf (s.store.image c.page) := Store.wf_image hcells c.page
    have hend := endKeepLoad_unfetched hfetch hload
    rw [if_neg (not_or.mpr ⟨not_not.mpr hgood, Nat.not_lt.mpr hwithin⟩)] at hend
    refine ⟨patchBuffer c (s.store.image c.page), (powered_of_power hpower).trans (congrArg _ hend),
      storedCheck_sealPage (wf_patched c himage), fun a ha => ?_⟩
    have hbytes (i : Nat) (hi : i < 4094) : Memory.read (s.store.image c.page) i = pageByte s c.page i :=
      Store.read_image _ _ _ (Nat.lt_trans hi (by decide))
    exact read_patchBuffer himage hbytes hname hzones hslots ha

end Sys2Proof

end

section
/-! SUPPORT. Contacts and pedal records written (R138–R140, R147–R149): the debouncers' candidates, the values that make
a pedal record, and the two steps of a reassignment. -/

namespace Sys2Proof.Machine

/-! ### Contacts (R139, R149) -/

/-- R139: a candidate has run its debounce. -/
theorem Debouncer.due_iff (d : Debouncer) (debounce now : Nat) :
    d.due debounce now = true ↔ d.settled ≠ some d.raw ∧ d.since + debounce * 1000 ≤ now := by
  unfold Debouncer.due Debouncer.timing
  simp

/-- R149: the show-lock candidate settles once it has held for 20 ms. -/
theorem showLockSettle_eq (s : State) :
    showLockSettle s
      = s.setPedals
          { s.pedals with
            showLock :=
              if s.pedals.showLock.settled ≠ some s.pedals.showLock.raw ∧ s.pedals.showLock.since + 20000 ≤ s.now then
                s.pedals.showLock.settle
              else s.pedals.showLock } := by
  have hdue := s.pedals.showLock.due_iff Config.showLockDebounce s.now
  rw [show Config.showLockDebounce * 1000 = 20000 from rfl] at hdue
  unfold showLockSettle
  simp only [hdue]
  split
  · rfl
  · rfl

/-- Settles O23: a contact change is `Debouncer.contact` by definition, the show-lock switch settles by
`showLockSettle_eq`. -/
theorem contacts : Obligations.Contacts := by
  intro i level moment s
  refine ⟨rfl, rfl, fun hpower => ?_⟩
  have hexec : exec (.showlockSettled moment) s = .next (showLockSettle (advanceTo moment s)) :=
    powered_of_power (f := fun s => showLockSettle (advanceTo moment s)) hpower
  rw [hexec, showLockSettle_eq]
  rfl

/-! ### The fields of a pedal record (R138, R147, R179) -/

theorem functionOfNat?_eq_some {n : Nat} {x : PedalFunction} : functionOfNat? n = some x ↔ n = x.code := by
  constructor
  · unfold functionOfNat?
    split <;> rintro ⟨⟩ <;> rfl
  · rintro rfl
    cases x with
    | tempoBit k => fin_cases k <;> rfl
    | _ => rfl

theorem polarityOfNat?_eq_some {n : Nat} {x : Polarity} : polarityOfNat? n = some x ↔ n = x.code := by
  constructor
  · unfold polarityOfNat?
    split <;> rintro ⟨⟩ <;> rfl
  · rintro rfl
    cases x <;> rfl

/-- The numbers that name a pedal function. -/
theorem functionCode_exists {n : Nat} : (∃ x : PedalFunction, n = x.code) ↔ n ≤ 14 := by
  refine ⟨?_, fun h => ?_⟩
  · rintro ⟨x, rfl⟩
    cases x with
    | tempoBit k =>
      show 9 + k.val ≤ 14
      omega
    | _ => decide
  · have hsome : ∀ m : Fin 15, (functionOfNat? m.val).isSome = true := by decide
    obtain ⟨x, hx⟩ := Option.isSome_iff_exists.mp (hsome ⟨n, by omega⟩)
    exact ⟨x, functionOfNat?_eq_some.mp hx⟩

/-- The numbers that name a polarity. -/
theorem polarityCode_exists {n : Nat} : (∃ x : Polarity, n = x.code) ↔ n ≤ 1 := by
  refine ⟨?_, fun h => ?_⟩
  · rintro ⟨x, rfl⟩
    cases x <;> decide
  · rcases Nat.le_one_iff_eq_zero_or_eq_one.mp h with rfl | rfl
    · exact ⟨.normal, rfl⟩
    · exact ⟨.inverted, rfl⟩

/-- The numbers from 1 on name the places of a table. -/
theorem place_exists {k n : Nat} : (∃ x : Fin k, n = x.val + 1) ↔ 1 ≤ n ∧ n ≤ k := by
  refine ⟨?_, fun ⟨hlow, hhigh⟩ => ⟨⟨n - 1, by omega⟩, ?_⟩⟩
  · rintro ⟨x, rfl⟩
    exact ⟨Nat.le_add_left 1 _, x.isLt⟩
  · exact (Nat.sub_add_cancel hlow).symm

/-- R138: the nearer end for a debounce outside 2–50 ms. -/
theorem clampDebounce_eq (n : Nat) : clampDebounce n = if n < 2 then 2 else if 50 < n then 50 else n := by
  unfold clampDebounce
  split_ifs <;> omega

/-- R138, R147, R179: five values make a pedal record exactly where each but the debounce is in its range. -/
theorem pedalOfFields?_eq_some {function polarity debounce port lane : Nat} {r : PedalRecord} :
    pedalOfFields? [function, polarity, debounce, port, lane] = some r
      ↔ r.fields = [function, polarity, clampDebounce debounce, port, lane] := by
  unfold pedalOfFields? PedalRecord.fields
  simp only [bind, pure, Option.bind_eq_some_iff, functionOfNat?_eq_some, polarityOfNat?_eq_some, portOfNat?_eq_some,
    laneOfNat?_eq_some, Option.some.injEq, List.cons.injEq, and_true]
  constructor
  · rintro ⟨x, rfl, y, rfl, p, rfl, l, rfl, rfl⟩
    exact ⟨rfl, rfl, rfl, rfl, rfl⟩
  · obtain ⟨x, y, d, p, l⟩ := r
    rintro ⟨rfl, rfl, rfl, rfl, rfl⟩
    exact ⟨x, rfl, y, rfl, p, rfl, l, rfl, rfl⟩

/-- R138, R147: the values that make no pedal record. -/
theorem pedalOfFields?_eq_none {function polarity debounce port lane : Nat} :
    pedalOfFields? [function, polarity, debounce, port, lane] = none
      ↔ 14 < function ∨ 1 < polarity ∨ port = 0 ∨ 8 < port ∨ lane = 0 ∨ 32 < lane := by
  have hmade : (∃ r, pedalOfFields? [function, polarity, debounce, port, lane] = some r)
      ↔ function ≤ 14 ∧ polarity ≤ 1 ∧ (1 ≤ port ∧ port ≤ 8) ∧ 1 ≤ lane ∧ lane ≤ 32 := by
    rw [← functionCode_exists, ← polarityCode_exists, ← place_exists, ← place_exists]
    simp only [pedalOfFields?_eq_some]
    constructor
    · rintro ⟨r, hfields⟩
      simp only [PedalRecord.fields, List.cons.injEq, and_true] at hfields
      obtain ⟨hfunction, hpolarity, -, hport, hlane⟩ := hfields
      exact ⟨⟨_, hfunction.symm⟩, ⟨_, hpolarity.symm⟩, ⟨_, hport.symm⟩, _, hlane.symm⟩
    · rintro ⟨⟨x, rfl⟩, ⟨y, rfl⟩, ⟨p, rfl⟩, l, rfl⟩
      exact ⟨⟨x, y, clampDebounce debounce, p, l⟩, rfl⟩
  rw [Option.eq_none_iff_forall_ne_some, ← not_exists, hmade]
  omega

/-! ### The steps of a reassignment (R147, R148) -/

theorem reassigns_iff {old new : PedalRecord} :
    reassigns old new = true
      ↔ new.function ≠ old.function ∨ new.polarity ≠ old.polarity ∨ new.argPort ≠ old.argPort
        ∨ new.argLane ≠ old.argLane := by
  unfold reassigns
  simp only [Bool.or_eq_true, bne_iff_ne, or_assoc, ne_comm]

section Operations
variable (r : PedalRecord) (s : State)

@[simp] theorem letGo_power : (letGo r s).power = s.power := by
  unfold letGo
  split <;> simp

@[simp] theorem letGo_now : (letGo r s).now = s.now := by
  unfold letGo
  split <;> simp

@[simp] theorem letGo_settings : (letGo r s).settings = s.settings := by
  unfold letGo
  split <;> simp

@[simp] theorem holdFunction_power : (holdFunction r s).power = s.power := by
  unfold holdFunction
  split <;> simp

@[simp] theorem holdFunction_now : (holdFunction r s).now = s.now := by
  unfold holdFunction
  split <;> simp

end Operations

/-- R148: the first step of a reassignment: a pressed pedal is let go of by its old record. -/
def letsGo (reassigned : Bool) (old : PedalRecord) (d : Debouncer) (s : State) : State :=
  if reassigned && pressedAs old d then letGo old s else s

/-- R148: the second step of a reassignment: a pressed pedal is taken hold of by its new record. -/
def takesHold (reassigned : Bool) (new : PedalRecord) (d : Debouncer) (s : State) : State :=
  if reassigned && pressedAs new d then holdFunction new s else s

section Steps
variable (reassigned : Bool) (r : PedalRecord) (d : Debouncer) (s : State)

@[simp] theorem letsGo_power : (letsGo reassigned r d s).power = s.power := by
  unfold letsGo
  split <;> simp

@[simp] theorem letsGo_now : (letsGo reassigned r d s).now = s.now := by
  unfold letsGo
  split <;> simp

@[simp] theorem letsGo_settings : (letsGo reassigned r d s).settings = s.settings := by
  unfold letsGo
  split <;> simp

@[simp] theorem takesHold_power : (takesHold reassigned r d s).power = s.power := by
  unfold takesHold
  split <;> simp

@[simp] theorem takesHold_now : (takesHold reassigned r d s).now = s.now := by
  unfold takesHold
  split <;> simp

/-- R148: a pedal that acts in a step of its reassignment: a pressed SUSTAIN. -/
def ActsInStep : Prop := reassigned = true ∧ r.function = .sustain ∧ pressedAs r d = true

variable {reassigned r d}

/-- R143, R148: the old record of a pressed SUSTAIN lets go with a sustain up. -/
theorem letsGo_sustain (h : ActsInStep reassigned r d) : SustainedUp r.argPort r.argLane s (letsGo reassigned r d s) := by
  obtain ⟨hreassigned, hfunction, hpressed⟩ := h
  unfold letsGo
  rw [hreassigned, hpressed]
  exact letGo_sustain hfunction s

/-- R143, R148: the new record of a pressed SUSTAIN takes hold with a sustain down. -/
theorem takesHold_sustain (h : ActsInStep reassigned r d) :
    SustainedDown r.argPort r.argLane s (takesHold reassigned r d s) := by
  obtain ⟨hreassigned, hfunction, hpressed⟩ := h
  unfold takesHold
  rw [hreassigned, hpressed]
  exact holdFunction_sustain hfunction s

theorem letsGo_other (h : ¬ActsInStep reassigned r d) : letsGo reassigned r d s = s := by
  unfold letsGo
  split
  · next hpressed =>
    obtain ⟨hreassigned, hpressed⟩ := Bool.and_eq_true_iff.mp hpressed
    exact letGo_other (fun hfunction => h ⟨hreassigned, hfunction, hpressed⟩) s
  · rfl

theorem takesHold_other (h : ¬ActsInStep reassigned r d) : takesHold reassigned r d s = s := by
  unfold takesHold
  split
  · next hpressed =>
    obtain ⟨hreassigned, hpressed⟩ := Bool.and_eq_true_iff.mp hpressed
    exact holdFunction_other (fun hfunction => h ⟨hreassigned, hfunction, hpressed⟩) s
  · rfl

end Steps

/-! ### A pedal record written (R139, R147, R148) -/

section Stages
variable (i : Pedal) (new : PedalRecord) (s : State)

/-- R147: whether a record written reassigns its pedal. -/
def reassignedBy : Bool := reassigns s.settings.pedals[i] new

/-- R148: the part once the old record has let go. -/
def liftedBy : State := letsGo (reassignedBy i new s) s.settings.pedals[i] s.pedals.contacts[i] s

/-- R147: the part with the new record put in place. -/
def putBy : State := setPedalRecord i new (liftedBy i new s)

/-- R148: the part once the new record has taken hold. -/
def pressedBy : State := takesHold (reassignedBy i new s) new s.pedals.contacts[i] (putBy i new s)

theorem putBy_eq :
    putBy i new s
      = { liftedBy i new s with settings := { s.settings with pedals := s.settings.pedals.set i new } } := by
  have hsettings : (liftedBy i new s).settings = s.settings := letsGo_settings ..
  unfold putBy setPedalRecord modifySettings
  rw [hsettings]
  rfl

@[simp] theorem pressedBy_power : (pressedBy i new s).power = s.power := by
  simp [pressedBy, putBy, liftedBy, setPedalRecord]

@[simp] theorem pressedBy_now : (pressedBy i new s).now = s.now := by
  simp [pressedBy, putBy, liftedBy, setPedalRecord]

/-- R139, R147, R148: a pedal record written is the two steps around the record put in place, and then the candidate
under a new debounce. -/
theorem writePedal_eq :
    writePedal i new s
      = if s.settings.pedals[i].debounce ≠ new.debounce then settleIfDue i (pressedBy i new s)
        else pressedBy i new s := by
  unfold writePedal reassignPedal pressedBy putBy liftedBy letsGo takesHold reassignedBy
  dsimp only
  cases reassigns s.settings.pedals[i] new <;> rfl

end Stages

/-- R140, R147: the pedals that act in a step, in the terms of the records. -/
theorem actsInStep_iff {old new r : PedalRecord} {d : Debouncer} :
    ActsInStep (reassigns old new) r d
      ↔ (new.function ≠ old.function ∨ new.polarity ≠ old.polarity ∨ new.argPort ≠ old.argPort
          ∨ new.argLane ≠ old.argLane)
        ∧ r.function = .sustain ∧ d.settled = some (pressedLevel r) := by
  unfold ActsInStep
  rw [reassigns_iff, pressedAs_iff]

/-- R139: PEDAL_SETTLED at a moment that the part has been told of. -/
theorem exec_pedalSettled_told {i : Pedal} {moment : Nat} {s : State} (hpower : s.power = true)
    (htold : moment ≤ s.now) : exec (.pedalSettled i moment) s = .next (settleIfDue i s) := by
  have hsame : advanceTo moment s = s := by
    unfold advanceTo
    rw [max_eq_left htold]
    rfl
  rw [exec_settleIfDue i moment hpower, hsame]

/-! ### WRITE SETTING of a pedal record (R147, R148, R180) -/

theorem pedalOfNat?_of_out {n : Nat} (h : n = 0 ∨ 6 < n) : pedalOfNat? n = none :=
  dif_neg (by omega)

theorem pedalOfNat?_of_eq {n : Nat} {i : Pedal} (h : n = i.val + 1) : pedalOfNat? n = some i := by
  subst h
  unfold pedalOfNat?
  rw [dif_pos (by omega)]
  rfl

section Ready
variable {h : Head} {s : State} (hready : Ready h s) {index start : Byte} {values : List Half} (moment : Nat)
  (hone : 1 ≤ values.length) (hlength : values.length ≤ 27)
include hready hone hlength

theorem exec_writeSettingPedal_ready :
    exec (.writeSettingPedal h index start values moment) s
      = .next (replied h 0x11#8 (opWritePedal index start values (advanceTo moment s)).2.outcome
          (opWritePedal index start values (advanceTo moment s)).2.data
          (opWritePedal index start values (advanceTo moment s)).1) := by
  have hserved := serve_of_ready (r := .writeSetting 3#8 index start values)
    (op := opWritePedal index start values) (s := advanceTo moment s) hready
    (by simp [Request.formOk, hone, hlength]) (.inl (show (0x11#8 : Byte) ≠ restartCode by decide))
  rw [powered_of_power (show (advanceTo moment s).power = true from hready.1)] at hserved
  exact (powered_of_power (f := fun s => serve h _ (opWritePedal index start values) (advanceTo moment s))
    hready.1).trans hserved

theorem exec_writeSettingPedal_absent (hindex : index.toNat = 0 ∨ 6 < index.toNat) :
    exec (.writeSettingPedal h index start values moment) s
      = .next (replied h 0x11#8 .range [] (advanceTo moment s)) := by
  have hrefused (t : State) : opWritePedal index start values t = refuse .range t := by
    unfold opWritePedal
    rw [pedalOfNat?_of_out hindex]
  rw [exec_writeSettingPedal_ready hready moment hone hlength, hrefused]
  rfl

/-- R180, R181: a ready row of a pedal, under the rules of any setting record. -/
theorem exec_writeSettingPedal_record {i : Pedal} (hindex : index.toNat = i.val + 1) :
    exec (.writeSettingPedal h index start values moment) s
      = .next (settingWritten h pedalOfFields? PedalRecord.fields s.settings.pedals[i]
          (fun r => writePedal i r (advanceTo moment s)) start values (advanceTo moment s)) := by
  have hop (t : State) : opWritePedal index start values t
      = writeRecord pedalOfFields? PedalRecord.fields (writePedal i) t.settings.pedals[i] start values t := by
    unfold opWritePedal
    rw [pedalOfNat?_of_eq hindex]
  rw [exec_writeSettingPedal_ready hready moment hone hlength, hop, replied_writeRecord]
  rfl

end Ready

end Sys2Proof.Machine

namespace Sys2Proof
open Machine

/-- Settles O31: a record written is the two steps of `writePedal_eq`, each a SUSTAIN's alone, under the rules of any
setting record; the ranges of its fields are `pedalOfFields?_eq_some` and its contrary. -/
theorem writePedal : Obligations.WritePedal := by
  refine ⟨fun h index start values moment s hready hone hlength =>
    ⟨exec_writeSettingPedal_absent hready moment hone hlength, fun i hindex => ?_⟩,
    fun function polarity debounce port lane => ⟨pedalOfFields?_eq_none, fun r hr => ?_⟩⟩
  · have hexec := exec_writeSettingPedal_record (start := start) hready moment hone hlength hindex
    unfold settingWritten at hexec
    refine ⟨fun hnone => ?_, fun new hnew => ?_⟩
    · rw [hnone] at hexec
      exact hexec
    · rw [hnew] at hexec
      let told := advanceTo moment s
      have hput := putBy_eq i new told
      have hpower : (pressedBy i new told).power = true := (pressedBy_power i new told).trans hready.1
      have htold : moment ≤ (pressedBy i new told).now := (pressedBy_now i new told).symm ▸ le_max_right s.now moment
      have hwritten := writePedal_eq i new told
      refine ⟨liftedBy i new told, pressedBy i new told, _, hexec, ⟨fun hacts => ?_, fun hacts => ?_⟩,
        ⟨fun hacts => ?_, fun hacts => ?_⟩, fun hsame => ?_, fun hother => ?_⟩
      · exact letsGo_sustain told (actsInStep_iff.mpr hacts)
      · exact letsGo_other told fun hstep => hacts (actsInStep_iff.mp hstep)
      · exact hput ▸ takesHold_sustain (putBy i new told) (actsInStep_iff.mpr hacts)
      · exact (takesHold_other (putBy i new told) fun hstep => hacts (actsInStep_iff.mp hstep)).trans hput
      · exact hwritten.trans (if_neg (not_not.mpr hsame.symm))
      · rw [exec_pedalSettled_told hpower htold]
        exact congrArg _ (hwritten.trans (if_pos hother.symm)).symm
  · rw [← clampDebounce_eq]
    exact pedalOfFields?_eq_some.mp hr

end Sys2Proof

end

section
/-! SUPPORT. The set store along every command (R161, R165, R168): the part of it that only the store's own requests,
the ends of its operations and the supply can change, and what one command can make of that part. -/

namespace Sys2Proof.Machine

/-! ### The part of the store that is guarded -/

/-- Of the store: the two memories, the protection, and the kind of the operation in flight. Scene fetches, which change
the rest, leave it alone. -/
structure Vault where
  cells   : Memory
  buffer  : Memory
  protect : Vector Bool 66
  lock    : Bool
  kind    : Option OperationKind

def Store.vault (st : Store) : Vault :=
  { cells := st.cells, buffer := st.buffer, protect := st.protect, lock := st.lock
    kind := st.operation.map (·.kind) }

/-! ### Scene fetches and the change controller (spec 06; spec 08, 8.4) -/

@[simp] theorem closeFetch_vault (s : State) : (closeFetch s).store.vault = s.store.vault := by
  simp [closeFetch, modifyStore, resumeOperation, Store.vault, Function.comp_def]

@[simp] theorem abandonFetch_vault (s : State) : (abandonFetch s).store.vault = s.store.vault := by
  unfold abandonFetch
  split
  · rfl
  · dsimp only
    split
    · rw [closeFetch_vault]
      rfl
    · rw [closeFetch_vault]

@[simp] theorem redecideFetch_vault (s : State) : (redecideFetch s).store.vault = s.store.vault := by
  unfold redecideFetch
  split
  · split <;> rfl
  · rfl

@[simp] theorem beginFetch_vault (tg : Target) (src : FetchSource) (s : State) :
    (beginFetch tg src s).store.vault = s.store.vault := rfl

@[simp] theorem takeAll_vault (rs : List ChangeRequest) (s : State) :
    (takeAll rs s).store.vault = s.store.vault := by
  induction rs generalizing s with
  | nil => rfl
  | cons r rs ih =>
    unfold takeAll
    dsimp only
    repeat' split
    · rw [ih, endRequest_store]
    · rw [ih, endRequest_store]
    · rw [ih, endRequest_store]
    · rfl

@[simp] theorem takeNext_vault (s : State) : (takeNext s).store.vault = s.store.vault := takeAll_vault ..

@[simp] theorem offerStep_vault (k : StepKind) (n : Nat) (x : Origin) (s : State) :
    (offerStep k n x s).store.vault = s.store.vault := by
  unfold offerStep
  dsimp only
  repeat' split
  · rw [takeNext_vault, modifyChange_store]
  · rfl
  · rfl

@[simp] theorem abandonChange_vault (s : State) : (abandonChange s).store.vault = s.store.vault := by
  rw [abandonChange, modifyChange_store, abandonFetch_vault]

@[simp] theorem offerGoto_vault (k : GotoKind) (n : Nat) (x : Origin) (s : State) :
    (offerGoto k n x s).store.vault = s.store.vault := by
  unfold offerGoto
  dsimp only
  split
  · rw [takeAll_vault]
  · rw [takeAll_vault, abandonChange_vault]
  · rw [takeAll_vault, abandonChange_vault]
  · rfl

@[simp] theorem placeBursts_store (s : State) : (placeBursts s).store = s.store := by
  obtain ⟨link, cursor, selected, hworked⟩ := placeBursts_worked s
  rw [hworked]

@[simp] theorem endChange_vault (s : State) : (endChange s).store.vault = s.store.vault := by
  unfold endChange
  split
  · rw [takeNext_vault, modifyChange_store]
  · rfl

@[simp] theorem handedOver_store (copy : SceneCopy) (tg : Target) (s : State) :
    (handedOver copy tg s).store = s.store := rfl

@[simp] theorem switchMade_store (m : SwitchMoment) (copy : SceneCopy) (tg : Target) (s : State) :
    (switchMade m copy tg s).store = s.store := by
  unfold switchMade autoStart
  split <;> split <;> simp

@[simp] theorem doSwitch_vault (m : SwitchMoment) (s : State) : (doSwitch m s).store.vault = s.store.vault := by
  cases hstaged : s.change.staged with
  | none => simp [doSwitch, hstaged]
  | some copy =>
    cases htarget : s.change.target with
    | none => simp [doSwitch, hstaged, htarget]
    | some tg => simp [doSwitch_eq hstaged htarget]

@[simp] theorem doFetchEnd_vault (m : SwitchMoment) (s : State) : (doFetchEnd m s).store.vault = s.store.vault := by
  unfold doFetchEnd
  split
  · split
    · dsimp only
      split
      · simp
      · split <;> simp
    · rfl
  · rfl

@[simp] theorem giveStop_vault (s : State) : (giveStop s).store.vault = s.store.vault := by
  unfold giveStop
  split <;> simp

/-! ### The clock (spec 05) -/

@[simp] theorem doStop_vault (s : State) : (doStop s).store.vault = s.store.vault := by
  unfold doStop
  split <;> simp

@[simp] theorem doClickToggle_vault (s : State) : (doClickToggle s).store.vault = s.store.vault := by
  unfold doClickToggle
  split <;> simp

@[simp] theorem doTap_store (m : Nat) (s : State) : (doTap m s).store = s.store := by
  unfold doTap
  dsimp only
  split
  · split <;> rfl
  · rfl

@[simp] theorem doSubTick_store (s : State) : (doSubTick s).store = s.store := by
  unfold doSubTick
  split <;> simp

@[simp] theorem advancePosition_store (s : State) : (advancePosition s).store = s.store := by
  unfold advancePosition
  dsimp only
  split <;> simp

@[simp] theorem doBoundary_vault (s : State) : (doBoundary s).store.vault = s.store.vault := by
  unfold doBoundary
  split
  · dsimp only
    split <;> split <;> simp
  · rfl

/-! ### The rig link (spec 01) -/

@[simp] theorem passRequest_store (p : Port) (w : Waiting) (s : State) : (passRequest p w s).store = s.store := by
  unfold passRequest
  split <;> simp

@[simp] theorem placeRequest_store (p : Port) (w : Waiting) (s : State) : (placeRequest p w s).store = s.store := by
  unfold placeRequest
  split <;> rfl

@[simp] theorem classifyRequest_store (p : Port) (w : Waiting) (s : State) :
    (classifyRequest p w s).store = s.store := by
  unfold classifyRequest
  split <;> simp

@[simp] theorem playSelect_vault (p : Port) (b : Byte) (s : State) :
    (playSelect p b s).store.vault = s.store.vault := by
  unfold playSelect
  repeat' split
  all_goals simp

theorem clockAction_vault {a : Byte} {f : State → State} (h : clockAction? a = some f) (s : State) :
    (f s).store.vault = s.store.vault := by
  unfold clockAction? at h
  split at h <;> cases h
  · rw [doStart_store]
  · exact doStop_vault s
  · rw [doContinue_store]

@[simp] theorem playTransport_vault (p : Port) (a : Byte) (s : State) :
    (playTransport p a s).store.vault = s.store.vault := by
  unfold playTransport
  split
  · split
    · next f hf => exact clockAction_vault hf s
    · rfl
  · rfl

theorem onLane_store {f : Lane → State → State} (h : ∀ l s, (f l s).store = s.store) (lane : Byte) (s : State) :
    (onLane lane f s).store = s.store := by
  unfold onLane
  split
  · exact h ..
  · rfl

theorem onKey_store {f : Lane → Key → State → State} (h : ∀ l k s, (f l k s).store = s.store) (lane key : Byte)
    (s : State) : (onKey lane key f s).store = s.store := by
  unfold onKey
  split
  · exact h ..
  · rfl

theorem playFrameControl_store (p : Port) (l : Lane) (number : Byte) (v : Half) (s : State) :
    (playFrameControl p l number v s).store = s.store := by
  unfold playFrameControl
  split <;> simp

@[simp] theorem playFrame_vault (p : Port) (f : Frame) (s : State) :
    (playFrame p f s).store.vault = s.store.vault := by
  have hkept {t : State} (h : t.store = s.store) : t.store.vault = s.store.vault := congrArg Store.vault h
  cases f with
  | strikeLong lane key v => exact hkept (onKey_store (fun l k s => zoneStrike_store s p l k (.long v)) lane key s)
  | strikeShort lane key v => exact hkept (onKey_store (fun l k s => zoneStrike_store s p l k (.short v)) lane key s)
  | releaseLong lane key v => exact hkept (onKey_store (fun l k s => zoneRelease_store s p l k (.long v)) lane key s)
  | releaseShort lane key v => exact hkept (onKey_store (fun l k s => zoneRelease_store s p l k (.short v)) lane key s)
  | control lane number v => exact hkept (onLane_store (fun l s => playFrameControl_store p l number v s) lane s)
  | soundSelect lane bank sound => exact playSelect_vault p sound s
  | transport action bar beat => exact playTransport_vault p action s
  | beatTick | click | portSilence | request | reply => rfl

@[simp] theorem thruFrame_store (p : Port) (f : Frame) (s : State) : (thruFrame p f s).store = s.store := by
  unfold thruFrame
  split <;> simp

@[simp] theorem arrive_vault (p : Port) (f : Frame) (s : State) : (arrive p f s).store.vault = s.store.vault := by
  unfold arrive
  split
  · rw [classifyRequest_store]
  · rw [passOn_store]
  · split <;> simp

@[simp] theorem setReceiver_store (p : Port) (r : Receiver) (s : State) : (setReceiver p r s).store = s.store := rfl

@[simp] theorem reject_store (p : Port) (r : Receiver) (s : State) : (reject p r s).store = s.store := rfl

@[simp] theorem complete_vault (p : Port) (bytes : List Byte) (failed : Bool) (s : State) :
    (complete p bytes failed s).store.vault = s.store.vault := by
  unfold complete
  repeat' split
  · rfl
  · rw [arrive_vault, setReceiver_store]
  · rfl

@[simp] theorem receive_vault (p : Port) (c : Byte) (stop : Bool) (s : State) :
    (receive p c stop s).store.vault = s.store.vault := by
  unfold receive
  split
  · rfl
  · split <;> rfl
  · dsimp only
    split
    · rfl
    · exact complete_vault ..

@[simp] theorem resync_store (p : Port) (s : State) : (resync p s).store = s.store := by
  unfold resync
  split <;> rfl

@[simp] theorem cutShort_store (p : Port) (s : State) : (cutShort p s).store = s.store := by
  unfold cutShort
  split <;> rfl

@[simp] theorem startFrame_vault (p : Port) (s : State) : (startFrame p s).store.vault = s.store.vault := by
  unfold startFrame
  split
  · split
    · rfl
    · dsimp only
      split <;> simp
  · rfl

@[simp] theorem endFrame_store (p : Port) (s : State) : (endFrame p s).store = s.store := by
  unfold endFrame
  split
  · rfl
  · dsimp only
    split <;> rfl

@[simp] theorem doFlush_vault (p : Port) (s : State) : (doFlush p s).store.vault = s.store.vault := by
  unfold doFlush flushChange
  dsimp only
  split
  · split <;> simp
  · simp

/-! ### Pedals (spec 07) -/

@[simp] theorem holdFunction_store (r : PedalRecord) (s : State) : (holdFunction r s).store = s.store := by
  unfold holdFunction
  split <;> simp

@[simp] theorem letGo_store (r : PedalRecord) (s : State) : (letGo r s).store = s.store := by
  unfold letGo
  split <;> simp

@[simp] theorem pressPedal_vault (r : PedalRecord) (s : State) : (pressPedal r s).store.vault = s.store.vault := by
  unfold pressPedal
  split <;> simp [turnToggle]

@[simp] theorem settledEdge_vault (r : PedalRecord) (d d' : Debouncer) (s : State) :
    (settledEdge r d d' s).store.vault = s.store.vault := by
  unfold settledEdge
  repeat' split
  all_goals simp

@[simp] theorem settleIfDue_vault (i : Pedal) (s : State) : (settleIfDue i s).store.vault = s.store.vault := by
  unfold settleIfDue settlePedal
  split <;> simp

@[simp] theorem pressedBy_store (i : Pedal) (new : PedalRecord) (s : State) :
    (pressedBy i new s).store = s.store := by
  unfold pressedBy takesHold putBy setPedalRecord liftedBy letsGo
  split <;> split <;> simp

@[simp] theorem writePedal_vault (i : Pedal) (new : PedalRecord) (s : State) :
    (writePedal i new s).store.vault = s.store.vault := by
  rw [writePedal_eq]
  split <;> simp

end Sys2Proof.Machine

end

section
/-! SUPPORT. What one command can make of the guarded part of the set store (R161, R165–R168), from its own requests
and the ends of its operations up to every command, and the two statements that follow. -/

namespace Sys2Proof.Machine

/-! ### The steps of the guarded part -/

/-- The page that an operation of a kind writes, now or once its load has ended. -/
def OperationKind.written? : OperationKind → Option Page
  | .load _ => none
  | .commit p => some p
  | .clear p => some p
  | .keepLoad c => some c.page
  | .keepCommit c => some c.page

/-- The page that the operation in flight writes. -/
def Vault.written? (v : Vault) : Option Page := v.kind.bind OperationKind.written?

theorem writtenPage?_eq (s : State) : writtenPage? s = s.store.vault.written? := by
  unfold writtenPage? Vault.written? Store.vault
  cases s.store.operation with
  | none => rfl
  | some op =>
    change _ = op.kind.written?
    dsimp only
    cases op.kind <;> rfl

/-- The cells once the page that the operation in flight writes has been replaced. -/
def PageWritten (v : Vault) (cells : Memory) : Prop :=
  ∃ (p : Page) (image : Memory), v.written? = some p ∧ (Memory.wf v.cells → Memory.wf v.buffer → Memory.wf image)
    ∧ cells = Memory.splice v.cells (pageBase p) pageSize image

/-- What one command makes of the guarded part while power stays, with the level of the show-lock switch: the buffer and
the operation in flight change, and an operation is accepted on no protected page; an operation ends with its page
written; protect flags change under a clear lock flag, but not that of a page being written; the lock flag changes, to
clear only with the switch OFF. -/
inductive VaultStep (switchOn : Bool) (v : Vault) : Vault → Prop where
  | work (buffer : Memory) (kind : Option OperationKind)
      (hbuffer : Memory.wf v.cells → Memory.wf v.buffer → Memory.wf buffer)
      (hkind : ∀ p, kind.bind OperationKind.written? = some p → v.written? = some p ∨ v.protect[p] = false) :
      VaultStep switchOn v { v with buffer := buffer, kind := kind }
  | write (cells : Memory) (hcells : PageWritten v cells) :
      VaultStep switchOn v { v with cells := cells, kind := none }
  | protect (flags : Vector Bool 66) (hlock : v.lock = false)
      (hflags : ∀ p, v.written? = some p → flags[p] = v.protect[p]) :
      VaultStep switchOn v { v with protect := flags }
  | lock (flag : Bool) (hflag : flag = false → switchOn = false) : VaultStep switchOn v { v with lock := flag }

/-- A command that works on the store, in the terms of the part before and after it. -/
def StoreStep (s t : State) : Prop := VaultStep s.switchOn s.store.vault t.store.vault

theorem StoreStep.of_vault {s t : State} (h : t.store.vault = s.store.vault) : StoreStep s t := by
  unfold StoreStep
  rw [h]
  exact .work s.store.vault.buffer s.store.vault.kind (fun _ hb => hb) fun p hp => .inl hp

theorem StoreStep.refl (s : State) : StoreStep s s := .of_vault rfl

/-- What neither the guarded part nor the switch level sees, before and after a step. -/
theorem StoreStep.between {s s' t t' : State} (h : StoreStep s' t') (hbefore : s'.store.vault = s.store.vault)
    (hpedals : s'.pedals = s.pedals) (hafter : t.store.vault = t'.store.vault) : StoreStep s t := by
  have hswitch : s'.switchOn = s.switchOn := by
    unfold State.switchOn
    rw [hpedals]
  unfold StoreStep
  rw [hafter, ← hbefore, ← hswitch]
  exact h

/-- The guarded part meets its rules: canonical memories, and the page of a commit or clear unprotected. -/
structure Vault.Sound (v : Vault) : Prop where
  cells : Memory.wf v.cells
  buffer : Memory.wf v.buffer
  written : ∀ p, v.written? = some p → v.protect[p] = false

theorem sound_iff (s : State) : s.store.vault.Sound ↔ MemoryInv s ∧ ProtectInv s := by
  constructor
  · rintro ⟨hcells, hbuffer, hwritten⟩
    exact ⟨⟨hcells, hbuffer⟩, fun p hp => hwritten p (by rwa [← writtenPage?_eq])⟩
  · rintro ⟨⟨hcells, hbuffer⟩, hprotect⟩
    exact ⟨hcells, hbuffer, fun p hp => hprotect p (by rwa [writtenPage?_eq])⟩

theorem PageWritten.wf {v : Vault} {cells : Memory} (h : PageWritten v cells) (hv : v.Sound) : Memory.wf cells := by
  obtain ⟨p, image, -, himage, rfl⟩ := h
  exact Memory.wf_splice hv.cells (himage hv.cells hv.buffer) _ _

/-- R165: the page written is unprotected, and every other keeps its bytes. -/
theorem PageWritten.protected_pages {v : Vault} {cells : Memory} (h : PageWritten v cells) (hv : v.Sound) {q : Page}
    (hq : v.protect[q] = true) {i : Nat} (hi : i < 4096) :
    Memory.read cells (q.val * 4096 + i) = Memory.read v.cells (q.val * 4096 + i) := by
  obtain ⟨p, image, hpage, -, rfl⟩ := h
  have hne : q.val ≠ p.val := fun he => by
    rw [Fin.ext he, hv.written p hpage] at hq
    cases hq
  rw [Memory.read_splice, if_neg]
  unfold pageBase pageSize
  omega

/-- R161, R165: every step keeps the rules of the guarded part. -/
theorem VaultStep.sound {on : Bool} {v w : Vault} (h : VaultStep on v w) (hv : v.Sound) : w.Sound := by
  cases h with
  | work buffer kind hbuffer hkind =>
    exact ⟨hv.cells, hbuffer hv.cells hv.buffer, fun p hp => (hkind p hp).elim (hv.written p) id⟩
  | write cells hcells => exact ⟨hcells.wf hv, hv.buffer, fun q hq => by cases hq⟩
  | protect flags hlock hflags => exact ⟨hv.cells, hv.buffer, fun p hp => (hflags p hp).trans (hv.written p hp)⟩
  | lock flag hflag => exact ⟨hv.cells, hv.buffer, hv.written⟩

/-- R165: no step changes a byte of a protected page. -/
theorem VaultStep.protected_pages {on : Bool} {v w : Vault} (h : VaultStep on v w) (hv : v.Sound) {q : Page}
    (hq : v.protect[q] = true) {i : Nat} (hi : i < 4096) :
    Memory.read w.cells (q.val * 4096 + i) = Memory.read v.cells (q.val * 4096 + i) := by
  cases h with
  | write cells hcells => exact hcells.protected_pages hv hq hi
  | work | protect | lock => rfl

/-- R168: under the hard lock no step changes the lock flag or a protect flag. -/
theorem VaultStep.hard_lock {v w : Vault} (h : VaultStep true v w) (hlock : v.lock = true) :
    w.lock = true ∧ w.protect = v.protect := by
  cases h with
  | work | write => exact ⟨hlock, rfl⟩
  | protect flags hclear =>
    rw [hlock] at hclear
    cases hclear
  | lock flag hflag =>
    cases flag with
    | true => exact ⟨rfl, rfl⟩
    | false => cases hflag rfl

/-! ### The store's requests (R153–R159, R134, R165–R168) -/

theorem storeIdle_kind {s : State} (h : ¬(!s.storeIdle) = true) : s.store.vault.kind = none := by
  have hidle : s.store.operation = none := by simpa [State.storeIdle] using h
  unfold Store.vault
  rw [hidle]
  rfl

theorem opBufferWrite_step (offset : Half) (bytes : List Byte) (s : State) :
    StoreStep s (opBufferWrite offset bytes s).1 := by
  unfold opBufferWrite
  repeat' split
  · exact .refl s
  · exact .refl s
  · exact .work (writeWrapped s.store.buffer offset.toNat bytes) s.store.vault.kind
      (fun _ hb => Memory.wf_writeWrapped hb _ _) fun p hp => .inl hp

/-- R156: an operation accepted with a buffer prepared for it, on a page that is not protected. -/
theorem beginOperation_step {kind : OperationKind} {buffer : Memory} {s t : State}
    (ht : t.store.vault = { s.store.vault with buffer := buffer })
    (hbuffer : Memory.wf s.store.buffer → Memory.wf buffer)
    (hfree : ∀ p, kind.written? = some p → s.store.protect[p] = false) :
    StoreStep s (beginOperation kind t) := by
  have hbegun : (beginOperation kind t).store.vault
      = { s.store.vault with buffer := buffer, kind := some kind } :=
    congrArg (fun v : Vault => { v with kind := some kind }) ht
  unfold StoreStep
  rw [hbegun]
  exact .work buffer (some kind) (fun _ hb => hbuffer hb) fun p hp => .inr (hfree p hp)

theorem opBufferLoad_step (page : Byte) (s : State) : StoreStep s (opBufferLoad page s).1 := by
  unfold opBufferLoad
  repeat' split
  · exact .refl s
  · exact .refl s
  · exact beginOperation_step (buffer := s.store.buffer) rfl id fun p hp => by cases hp

/-- R157, R159: a commit accepted of a buffer that is canonical wherever the one it replaces is. -/
theorem beginCommit_step {p : Page} {buffer : Memory} {s t : State}
    (ht : t.store.vault = { s.store.vault with buffer := buffer })
    (hbuffer : Memory.wf s.store.buffer → Memory.wf buffer) (hfree : ¬s.store.protect[p] = true) :
    StoreStep s (beginCommit p t) := by
  have hsealed : (modifyStore (fun st => { st with buffer := sealPage st.buffer }) t).store.vault
      = { s.store.vault with buffer := sealPage buffer } :=
    congrArg (fun v : Vault => { v with buffer := sealPage v.buffer }) ht
  refine beginOperation_step hsealed (fun hb => wf_sealPage (hbuffer hb)) fun q hq => ?_
  cases hq
  exact eq_false_of_ne_true hfree

theorem opCommit_step (page : Byte) (s : State) : StoreStep s (opCommit page s).1 := by
  unfold opCommit
  repeat' split
  · exact .refl s
  · exact .refl s
  · exact .refl s
  · next hfree => exact beginCommit_step (buffer := s.store.buffer) rfl id hfree

theorem opClear_step (page : Byte) (s : State) : StoreStep s (opClear page s).1 := by
  unfold opClear
  repeat' split
  · exact .refl s
  · exact .refl s
  · exact .refl s
  · next hfree =>
    refine beginOperation_step (buffer := s.store.buffer) rfl id fun q hq => ?_
    cases hq
    exact eq_false_of_ne_true hfree

theorem storeBuilt_step (p : Page) (bytes : List Byte) (s : State) : StoreStep s (storeBuilt p bytes s).1 := by
  unfold storeBuilt
  repeat' split
  · exact .refl s
  · exact .refl s
  · next hfree => exact beginCommit_step rfl (fun _ => Memory.wf_ofBytes 0 bytes) hfree

theorem opKeep_step (s : State) : StoreStep s (opKeep s).1 := by
  unfold opKeep
  repeat' split
  · exact .refl s
  · exact .refl s
  · next hfree =>
    refine beginOperation_step (buffer := s.store.buffer) rfl id fun q hq => ?_
    cases hq
    exact eq_false_of_ne_true hfree
  · exact .refl s

/-- The page that an operation writes is the page under operation. -/
theorem page_of_written {kind : OperationKind} {p : Page} (h : kind.written? = some p) : kind.page = p := by
  cases kind <;> cases h <;> rfl

theorem underOperation_of_written {s : State} {p : Page} (h : s.store.vault.written? = some p) :
    underOperation p s = true := by
  obtain ⟨kind, hkind, hwritten⟩ := Option.bind_eq_some_iff.mp h
  obtain ⟨op, hop, rfl⟩ := Option.map_eq_some_iff.mp hkind
  unfold underOperation
  rw [hop]
  exact beq_iff_eq.mpr (page_of_written hwritten)

/-- R165: the page under operation keeps its flag. -/
theorem opProtectOne_step (on : Bool) (page : Byte) (s : State) : StoreStep s (opProtectOne on page s).1 := by
  unfold opProtectOne
  repeat' split
  · exact .refl s
  · exact .refl s
  · exact .refl s
  · exact .refl s
  · next hlock _ p hpage hunder hflag =>
    refine .protect (upd s.store.protect p fun _ => on) (eq_false_of_ne_true hlock) fun q hq => ?_
    have hother : q ≠ p := fun he => hunder (he ▸ underOperation_of_written hq)
    rw [upd_getElem, if_neg hother]
    rfl

/-- R166: no operation is in flight. -/
theorem opProtectAll_step (on : Bool) (s : State) : StoreStep s (opProtectAll on s).1 := by
  unfold opProtectAll
  repeat' split
  · exact .refl s
  · exact .refl s
  · exact .refl s
  · next hlock hidle _ =>
    refine .protect (Vector.replicate 66 on) (eq_false_of_ne_true hlock) fun q hq => ?_
    unfold Vault.written? at hq
    rw [storeIdle_kind hidle] at hq
    cases hq

theorem opLock_step (s : State) : StoreStep s (opLock s).1 := by
  unfold opLock
  split
  · exact .refl s
  · exact .lock true fun h => by cases h

theorem opUnlock_step (s : State) : StoreStep s (opUnlock s).1 := by
  unfold opUnlock
  repeat' split
  · exact .refl s
  · exact .refl s
  · next hswitch => exact .lock false fun _ => eq_false_of_ne_true hswitch

/-! ### The other requests (spec 09) -/

/-- A WRITE SETTING leaves the guarded part as its record's writing does. -/
theorem writeRecord_vault {α : Type} {of? : List Nat → Option α} {fieldsOf : α → List Nat}
    {write : α → State → State} {old : α} {start : Byte} {values : List Half} {s : State}
    (h : ∀ new, (write new s).store.vault = s.store.vault) :
    (writeRecord of? fieldsOf write old start values s).1.store.vault = s.store.vault := by
  unfold writeRecord
  split
  · rfl
  · split
    · rfl
    · exact h _

theorem opWriteSetting_vault (item index start : Byte) (values : List Half) (s : State) :
    (opWriteSetting item index start values s).1.store.vault = s.store.vault := by
  unfold opWriteSetting
  split
  · unfold opWriteInbound
    split
    · rfl
    · exact writeRecord_vault fun _ => rfl
  · unfold opWriteOutbound
    split
    · rfl
    · refine writeRecord_vault fun new => ?_
      unfold writeOutbound
      dsimp only
      split <;> rfl
  · unfold opWritePedal
    split
    · rfl
    · exact writeRecord_vault fun new => writePedal_vault ..
  · unfold opWriteFeed
    split
    · rfl
    · exact writeRecord_vault fun _ => rfl
  · unfold opWriteSlot
    split
    · rfl
    · exact writeRecord_vault fun _ => rfl
  · unfold opWriteUnit
    split
    · exact writeRecord_vault fun _ => rfl
    · rfl
  · unfold opWriteSource
    split
    · exact writeRecord_vault fun _ => rfl
    · rfl
  · rfl

theorem opReadStatus_store (c : Option Byte) (s : State) : (opReadStatus c s).1.store = s.store := by
  unfold opReadStatus
  dsimp only
  split <;> rfl

theorem opReadCounters_store (sel c : Byte) (s : State) : (opReadCounters sel c s).1.store = s.store := by
  unfold opReadCounters
  split
  · dsimp only
    split <;> rfl
  · rfl

theorem opReadSetting_store (item index start count : Byte) (s : State) :
    (opReadSetting item index start count s).1.store = s.store := by
  unfold opReadSetting
  split
  · rfl
  · dsimp only
    split <;> rfl

theorem opReadCurve_store (part start count : Byte) (s : State) :
    (opReadCurve part start count s).1.store = s.store := by
  unfold opReadCurve
  split <;> rfl

theorem opWriteCurve_store (part start : Byte) (points : List Half) (s : State) :
    (opWriteCurve part start points s).1.store = s.store := by
  unfold opWriteCurve
  repeat' split
  all_goals rfl

theorem opReadSetList_store (start count : Byte) (s : State) : (opReadSetList start count s).1.store = s.store := by
  unfold opReadSetList
  split <;> rfl

theorem opWriteSetList_vault (pages : List (BitVec 7)) (s : State) :
    (opWriteSetList pages s).1.store.vault = s.store.vault := by
  unfold opWriteSetList replaceSetList emptySetList
  repeat' split
  · rfl
  · rfl
  · rfl
  · simp [applyLeave_eq]
  · simp

theorem opBufferRead_store (offset : Half) (count : Byte) (s : State) :
    (opBufferRead offset count s).1.store = s.store := by
  unfold opBufferRead
  split <;> rfl

theorem opPageRead_store (page : Byte) (offset : Half) (count : Byte) (s : State) :
    (opPageRead page offset count s).1.store = s.store := by
  unfold opPageRead
  repeat' split
  all_goals rfl

theorem opChange_vault (kind number : Byte) (s : State) : (opChange kind number s).1.store.vault = s.store.vault := by
  unfold opChange
  split
  · exact offerStep_vault ..
  · exact offerStep_vault ..
  · exact offerStep_vault ..
  · exact offerStep_vault ..
  · exact offerGoto_vault ..
  · exact offerGoto_vault ..
  · rfl

theorem adjustZone_store (pos : Byte) (inRange holds : Zone → Bool) (set : Zone → Zone) (s : State) :
    (adjustZone pos inRange holds set s).1.store = s.store := by
  unfold adjustZone
  repeat' split
  all_goals rfl

theorem opAdjust_store (item target : Byte) (v : Half) (s : State) : (opAdjust item target v s).1.store = s.store := by
  unfold opAdjust
  split
  · exact adjustZone_store ..
  · exact adjustZone_store ..
  · exact adjustZone_store ..
  · exact adjustZone_store ..
  · unfold opAdjustMuteSet
    repeat' split
    all_goals rfl
  · unfold opAdjustOverride
    repeat' split
    all_goals rfl
  · unfold opAdjustTempo
    dsimp only
    repeat' split
    all_goals rfl
  · rfl

theorem opClick_vault (action : Byte) (s : State) : (opClick action s).1.store.vault = s.store.vault := by
  unfold opClick opClickStart opClickStop opClickContinue
  repeat' split
  all_goals simp

theorem opSelectTempo_store (slot : Byte) (s : State) : (opSelectTempo slot s).1.store = s.store := by
  unfold opSelectTempo
  repeat' split
  all_goals rfl

theorem opMute_store (port state : Byte) (s : State) : (opMute port state s).1.store = s.store := by
  unfold opMute
  repeat' split
  all_goals rfl

theorem opFlush_vault (port : Byte) (s : State) : (opFlush port s).1.store.vault = s.store.vault := by
  unfold opFlush
  split
  · exact doFlush_vault ..
  · rfl

theorem opRestart_store (s : State) : (opRestart s).1.store = s.store := by
  unfold opRestart
  split <;> rfl

theorem StoreStep.of_store {s t : State} (h : t.store = s.store) : StoreStep s t :=
  .of_vault (congrArg Store.vault h)

/-- Every request of the catalogue. -/
theorem perform_step (r : Request) (s : State) : StoreStep s (perform r s).1 := by
  cases r with
  | identify | readProtection => exact .refl s
  | readStatus => exact .of_store (opReadStatus_store ..)
  | readCounters => exact .of_store (opReadCounters_store ..)
  | readSetting => exact .of_store (opReadSetting_store ..)
  | writeSetting => exact .of_vault (opWriteSetting_vault ..)
  | storeSettings | storeCurves => exact storeBuilt_step ..
  | readCurve => exact .of_store (opReadCurve_store ..)
  | writeCurve => exact .of_store (opWriteCurve_store ..)
  | readSetList => exact .of_store (opReadSetList_store ..)
  | writeSetList => exact .of_vault (opWriteSetList_vault ..)
  | bufferWrite => exact opBufferWrite_step ..
  | bufferRead => exact .of_store (opBufferRead_store ..)
  | bufferLoad => exact opBufferLoad_step ..
  | pageRead => exact .of_store (opPageRead_store ..)
  | commit => exact opCommit_step ..
  | clear => exact opClear_step ..
  | protect | unprotect => exact opProtectOne_step ..
  | protectAll | unprotectAll => exact opProtectAll_step ..
  | lock => exact opLock_step s
  | unlock => exact opUnlock_step s
  | change => exact .of_vault (opChange_vault ..)
  | adjust => exact .of_store (opAdjust_store ..)
  | keepAdjustments => exact opKeep_step s
  | click => exact .of_vault (opClick_vault ..)
  | selectTempo => exact .of_store (opSelectTempo_store ..)
  | panic => exact .of_store (doPanic_store s)
  | mute => exact .of_store (opMute_store ..)
  | flush => exact .of_vault (opFlush_vault ..)
  | restart => exact .of_store (opRestart_store s)

/-- R176: a request in bytes is a request of the catalogue or changes nothing. -/
theorem performBytes_step (code : Byte) (params : List Byte) (s : State) :
    StoreStep s (performBytes code params s).1 := by
  unfold performBytes
  cases parseRequest code params with
  | none => exact .refl s
  | some r =>
    dsimp only
    unfold checkedForm
    split
    · exact perform_step r s
    · exact .refl s

/-! ### The service unit (R173, R174) -/

@[simp] theorem passRequest_pedals (p : Port) (w : Waiting) (s : State) : (passRequest p w s).pedals = s.pedals := by
  unfold passRequest
  split <;> simp

theorem takeRequest_step {p : Port} {unit tag code : Byte} {op : State → State × Answer} {s : State}
    (hop : StoreStep s (op s).1) : StoreStep s (takeRequest p unit tag code op s) := by
  unfold takeRequest
  split
  · exact hop.between rfl rfl rfl
  · exact .refl s

theorem serveCode_step {h : Head} {code : Byte} {params : List Byte} {op : State → State × Answer} {s : State}
    (hop : ∀ s, StoreStep s (op s).1) : StoreStep s (serveCode h code params op s) := by
  unfold serveCode
  dsimp only
  split
  · exact (takeRequest_step (hop _)).between (congrArg Store.vault (passRequest_store ..)) (passRequest_pedals ..) rfl
  · exact .of_store (classifyRequest_store ..)

theorem serviceTake_step (s : State) : StoreStep s (serviceTake s) := by
  unfold serviceTake
  repeat' split
  · exact .refl s
  · exact .refl s
  · next p _ _ w _ =>
    have htaken := takeRequest_step (p := p) (unit := w.unit) (tag := w.tag) (code := w.code)
      (performBytes_step w.code w.params (modifyService (fun u => { u with places := upd u.places p fun _ => none }) s))
    exact htaken.between (congrArg Store.vault (modifyService_store ..)) (modifyService_pedals ..) rfl
  · exact .refl s

/-! ### The ends of store operations (R156–R160, R163) -/

theorem suspendOperation_vault (s : State) : (suspendOperation s).store.vault = s.store.vault := by
  unfold suspendOperation
  split
  · rfl
  · split
    · simp [modifyStore, Store.vault, Function.comp_def]
    · rfl

/-- The operation at work is the one in flight. -/
theorem kind_of_running {s : State} {kind : OperationKind} (h : runningOperation? s = some kind) :
    s.store.vault.kind = some kind := by
  unfold runningOperation? at h
  split at h
  · cases h
  · next op hop =>
    split at h
    · cases h
      exact congrArg (Option.map (·.kind)) hop
    · cases h

theorem written_of_running {s : State} {kind : OperationKind} (h : runningOperation? s = some kind) :
    s.store.vault.written? = kind.written? := by
  unfold Vault.written?
  rw [kind_of_running h]
  rfl

/-- R156: the buffer replaced by a page, and no operation left. -/
theorem ended_step {s t : State} (p : Page)
    (ht : t.store.vault = { s.store.vault with buffer := s.store.image p, kind := none }) : StoreStep s t := by
  unfold StoreStep
  rw [ht]
  exact .work _ none (fun hcells _ => Store.wf_image (st := s.store) hcells p) fun q hq => by cases hq

theorem endLoad_step (s : State) : StoreStep s (endLoad s) := by
  unfold endLoad
  split
  · next p _ =>
    refine ended_step p ?_
    rw [redecideFetch_vault]
    split <;> rfl
  · exact .refl s

theorem wf_patchBuffer (c : KeepCapture) {image : Memory} (h : Memory.wf image) : Memory.wf (patchBuffer c image) :=
  wf_sealPage (wf_patched c h)

/-- R135: the commit of a KEEP ADJUSTMENTS writes the page that its load was accepted for. -/
theorem endKeepLoad_step (s : State) : StoreStep s (endKeepLoad s) := by
  unfold endKeepLoad
  split
  · next c hrunning =>
    dsimp only
    split
    · refine ended_step c.page ?_
      rw [redecideFetch_vault]
      rfl
    · unfold StoreStep
      rw [redecideFetch_vault]
      refine .work (patchBuffer c (s.store.image c.page)) (some (.keepCommit c))
        (fun hcells _ => wf_patchBuffer c (Store.wf_image (st := s.store) hcells c.page)) fun p hp => ?_
      rw [written_of_running hrunning]
      exact .inl hp
  · exact .refl s

/-- The end of an operation that writes a page. -/
theorem written_step {s t : State} {p : Page} {image : Memory} (hpage : s.store.vault.written? = some p)
    (himage : Memory.wf s.store.buffer → Memory.wf image)
    (ht : t.store.vault
      = { s.store.vault with cells := Memory.splice s.store.cells (pageBase p) pageSize image, kind := none }) :
    StoreStep s t := by
  unfold StoreStep
  rw [ht]
  exact .write _ ⟨p, image, hpage, fun _ => himage, rfl⟩

theorem finishCommit_step {s : State} {p : Page} (hpage : s.store.vault.written? = some p)
    (deviations : List Host.Cell) : StoreStep s (finishCommit p deviations s) := by
  refine written_step hpage (image := Memory.overlay s.store.buffer (inPage deviations))
    (fun hb => Memory.wf_overlay hb _) ?_
  unfold finishCommit
  dsimp only
  split <;> rfl

theorem keepEnded_store (s : State) : (keepEnded s).store = s.store := by
  unfold keepEnded
  split <;> rfl

theorem endCommit_step (deviations : List Host.Cell) (s : State) : StoreStep s (endCommit deviations s) := by
  unfold endCommit
  split
  · next p hrunning => exact finishCommit_step (written_of_running hrunning) deviations
  · next c hrunning =>
    exact (finishCommit_step (written_of_running hrunning) deviations).between rfl rfl
      (congrArg Store.vault (keepEnded_store _))
  · exact .refl s

theorem endClear_step (deviations : List Host.Cell) (s : State) : StoreStep s (endClear deviations s) := by
  unfold endClear
  split
  · next p hrunning =>
    refine written_step (written_of_running hrunning) (image := Memory.overlay [] (inPage deviations))
      (fun _ => Memory.wf_overlay Memory.wf_nil _) ?_
    dsimp only
    split <;> rfl
  · exact .refl s

/-! ### Every command while power stays -/

theorem powered_step {f : State → State} {s t : State} (hf : StoreStep s (f s)) (h : powered f s = .next t) :
    StoreStep s t := by
  unfold powered at h
  cases h
  split
  · exact hf
  · exact .refl s

/-- A command that carries its moment tells the part of it first. -/
theorem poweredAt_step (m : Nat) {f : State → State} {s t : State} (hf : ∀ s, StoreStep s (f s))
    (h : powered (fun s => f (advanceTo m s)) s = .next t) : StoreStep s t :=
  powered_step (f := fun s => f (advanceTo m s)) ((hf (advanceTo m s)).between rfl rfl rfl) h

/-- The request rows: each is its request in bytes. -/
theorem requestRow_step {c : Instr} {x : Head × Byte × List Byte} (hc : requestOf c = some x) {s t : State}
    (h : exec c s = .next t) : StoreStep s t := by
  rw [exec_requestRow hc] at h
  exact poweredAt_step (momentOf c) (fun _ => serveCode_step (performBytes_step _ _)) h

/-- The commands that begin work again or take power away: they set protection as a whole. -/
def Resets (c : Instr) : Prop := c = .powerUp ∨ (∃ m, c = .restartMade m) ∨ ∃ torn, c = .lossOfPower torn

/-- R161, R165, R168: what every other command makes of the guarded part. -/
theorem exec_step {c : Instr} {s t : State} (hc : ¬Resets c) (h : exec c s = .next t) : StoreStep s t := by
  cases c with
  | powerUp => exact absurd (.inl rfl) hc
  | restartMade m => exact absurd (.inr (.inl ⟨m, rfl⟩)) hc
  | lossOfPower torn => exact absurd (.inr (.inr ⟨torn, rfl⟩)) hc
  | character => exact powered_step (.of_vault (receive_vault ..)) h
  | idleResync => exact powered_step (.of_store (resync_store ..)) h
  | frameCutShort => exact powered_step (.of_store (cutShort_store ..)) h
  | strike | release | control | sustainControl | soundSelect | transport | thruFrame | serviceRequest
  | serviceReply => exact powered_step (.of_vault (arrive_vault ..)) h
  | serviceTake m => exact poweredAt_step m serviceTake_step h
  | serviceTimeEnd => exact powered_step (.of_store rfl) h
  | frameStart => exact powered_step (.of_vault (startFrame_vault ..)) h
  | frameEnd => exact powered_step (.of_store (endFrame_store ..)) h
  | pacingGapEnd | settleWindowEnd => exact powered_step (.of_store rfl) h
  | releaseDrain => exact powered_step (.of_store (drainTimes_store ..)) h
  | fetchEnd => exact powered_step (.of_vault (doFetchEnd_vault ..)) h
  | burstPlace =>
    refine powered_step (f := fun s => endChange (placeBursts s)) (.of_vault ?_) h
    rw [endChange_vault, placeBursts_store]
  | changeEnd => exact powered_step (.of_vault (endChange_vault s)) h
  | operationSuspended => exact powered_step (.of_vault (suspendOperation_vault s)) h
  | bufferLoadEnd => exact powered_step (endLoad_step s) h
  | keepLoadEnd => exact powered_step (endKeepLoad_step s) h
  | commitEnd deviations => exact powered_step (endCommit_step deviations s) h
  | clearEnd deviations => exact powered_step (endClear_step deviations s) h
  | subTick => exact powered_step (.of_store (doSubTick_store s)) h
  | beatBoundary => exact powered_step (.of_vault (doBoundary_vault s)) h
  | pedalContactChange | showlockContactChange =>
    cases h
    exact .of_store rfl
  | pedalSettled i m => exact poweredAt_step m (fun s => .of_vault (settleIfDue_vault i s)) h
  | showlockSettled m =>
    refine poweredAt_step m (fun s => .of_store ?_) h
    rw [showLockSettle_eq, State.setPedals_store]
  | readStatus head clear => cases clear <;> exact requestRow_step rfl h
  | changeStep head kind n => cases kind <;> exact requestRow_step rfl h
  | changeGoto head kind n => cases kind <;> exact requestRow_step rfl h
  | _ => exact requestRow_step rfl h

/-! ### Power-up, restart and loss of power (R152, R165, R167, R170) -/

/-- What beginning work again or losing power makes of the guarded part: every flag set and nothing in flight, and of
the cells at most the page being written changed. -/
structure VaultReset (v w : Vault) : Prop where
  cells : w.cells = v.cells ∨ PageWritten v w.cells
  buffer : w.buffer = []
  protect : w.protect = Vector.replicate 66 true
  lock : w.lock = true
  kind : w.kind = none

theorem VaultReset.sound {v w : Vault} (h : VaultReset v w) (hv : v.Sound) : w.Sound := by
  refine ⟨?_, h.buffer ▸ Memory.wf_nil, fun p hp => ?_⟩
  · rcases h.cells with he | hwritten
    · exact he ▸ hv.cells
    · exact hwritten.wf hv
  · unfold Vault.written? at hp
    rw [h.kind] at hp
    cases hp

theorem VaultReset.protected_pages {v w : Vault} (h : VaultReset v w) (hv : v.Sound) {q : Page}
    (hq : v.protect[q] = true) {i : Nat} (hi : i < 4096) :
    Memory.read w.cells (q.val * 4096 + i) = Memory.read v.cells (q.val * 4096 + i) := by
  rcases h.cells with he | hwritten
  · rw [he]
  · exact hwritten.protected_pages hv hq hi

theorem boot_reset (outs : Vector OutPort 8) (flags : Status) {s t : State}
    (h : t.store.vault.cells = s.store.vault.cells ∨ PageWritten s.store.vault t.store.vault.cells) :
    VaultReset s.store.vault (boot outs flags t).store.vault :=
  ⟨h, rfl, rfl, rfl, rfl⟩

/-- R152: the page that a loss of power cuts off is the one being written. -/
theorem written_of_cutPage {st : Store} {p : Page} (h : cutPage? st = some p) : st.vault.written? = some p := by
  unfold cutPage? at h
  unfold Vault.written? Store.vault
  cases hop : st.operation with
  | none =>
    rw [hop] at h
    cases h
  | some op =>
    rw [hop] at h
    dsimp only at h
    split at h
    · change op.kind.written? = some p
      cases hkind : op.kind <;> rw [hkind] at h <;> cases h <;> rfl
    · cases h

theorem losePower_reset (torn : List Host.Cell) (s : State) :
    VaultReset s.store.vault (losePower torn s).store.vault := by
  refine ⟨?_, rfl, rfl, rfl, rfl⟩
  change (cutOff torn s.store).cells = s.store.cells ∨ _
  cases hpage : cutPage? s.store with
  | none =>
    left
    unfold cutOff
    rw [hpage]
  | some p =>
    refine .inr ⟨p, Memory.overlay (s.store.image p) (inPage torn), written_of_cutPage hpage,
      fun hcells _ => Memory.wf_overlay (Store.wf_image (st := s.store) hcells p) _, ?_⟩
    change (cutOff torn s.store).cells = _
    unfold cutOff
    rw [hpage]
    rfl

theorem classified_vault (classes : Vector PageClass 66) (s : State) :
    (modifyStore (fun st => { st with classes := classes }) s).store.vault = s.store.vault := rfl

theorem doPowerUp_reset (s : State) : VaultReset s.store.vault (doPowerUp s).store.vault := by
  unfold doPowerUp
  dsimp only
  refine boot_reset _ _ ?_
  rw [classified_vault, State.setNow_store]
  split
  · exact (losePower_reset [] s).cells
  · exact .inl rfl

/-- The commands that begin work again or take power away: a restart that is not due, or a loss of power without power,
changes nothing. -/
theorem exec_reset {c : Instr} {s t : State} (hc : Resets c) (h : exec c s = .next t) :
    t.store.vault = s.store.vault ∨ VaultReset s.store.vault t.store.vault := by
  rcases hc with rfl | ⟨m, rfl⟩ | ⟨torn, rfl⟩ <;> cases h
  · exact .inr (doPowerUp_reset s)
  · split
    · dsimp only
      unfold makeRestart
      split
      · exact .inr (boot_reset (s := s) (t := advanceTo m s) _ _ (.inl rfl))
      · exact .inl rfl
    · exact .inl rfl
  · split
    · exact .inr (losePower_reset torn s)
    · exact .inl rfl

/-! ### Protected pages and the hard lock -/

/-- R161, R165: what every command keeps of the memories and the protected pages. -/
theorem exec_protected {c : Instr} {s t : State} (h : exec c s = .next t) (hs : s.store.vault.Sound) :
    t.store.vault.Sound
      ∧ ∀ (p : Page) (i : Nat), s.store.protect[p] = true → i < 4096 → pageByte t p i = pageByte s p i := by
  by_cases hc : Resets c
  · rcases exec_reset hc h with hsame | hreset
    · have hcells : t.store.cells = s.store.cells := congrArg Vault.cells hsame
      refine ⟨hsame ▸ hs, fun p i _ _ => ?_⟩
      unfold pageByte
      rw [hcells]
    · exact ⟨hreset.sound hs, fun p i hp hi => hreset.protected_pages hs hp hi⟩
  · have hstep := exec_step hc h
    exact ⟨hstep.sound hs, fun p i hp hi => hstep.protected_pages hs hp hi⟩

/-- R149, R168: a switch that is not settled OFF reads as ON. -/
theorem switchOn_of_not_off {s : State} (h : s.pedals.showLock.settled ≠ some .opened) : s.switchOn = true := by
  unfold State.switchOn
  split
  · next hoff => exact absurd hoff h
  · rfl

end Sys2Proof.Machine

namespace Sys2Proof
open Machine

/-- Settles O59: every command keeps the memories, the flags of pages being written and the protected pages
(`exec_protected`), and a step carries out one command on the part with the queue's rest, or idles. -/
theorem protectedPagesKept : Obligations.ProtectedPagesKept := by
  intro s t hmemory hprotect hstep
  have hs : s.store.vault.Sound := (sound_iff s).mpr ⟨hmemory, hprotect⟩
  unfold step at hstep
  split at hstep
  · cases hstep
    exact ⟨hmemory, hprotect, fun _ _ _ _ => rfl⟩
  · obtain ⟨ht, hpages⟩ := exec_protected hstep hs
    obtain ⟨hmemory', hprotect'⟩ := (sound_iff t).mp ht
    exact ⟨hmemory', hprotect', hpages⟩

/-- Settles O60: no step of the guarded part opens a hard lock (`VaultStep.hard_lock`), and what begins work again or
takes power away sets every flag. -/
theorem hardLock : Obligations.HardLock := by
  intro c s t hswitch hlock h
  by_cases hc : Resets c
  · rcases exec_reset hc h with hsame | hreset
    · exact ⟨(congrArg Vault.lock hsame).trans hlock, .inl (congrArg Vault.protect hsame)⟩
    · have hflags : t.store.protect = Vector.replicate 66 true := hreset.protect
      refine ⟨hreset.lock, .inr ⟨hc, fun p => ?_⟩⟩
      simp [hflags]
  · have hstep := exec_step hc h
    unfold StoreStep at hstep
    rw [switchOn_of_not_off hswitch] at hstep
    obtain ⟨hlocked, hflags⟩ := hstep.hard_lock hlock
    exact ⟨hlocked, .inl hflags⟩

end Sys2Proof

end

section
/-! SUPPORT. The set store's requests that read and write bytes (R153–R155): the page buffer written and read, and pages
read. -/

namespace Sys2Proof.Machine

/-! ### Pages by their numbers -/

theorem pageOfNat?_of_out {n : Nat} (h : n = 0 ∨ 66 < n) : pageOfNat? n = none := dif_neg (by omega)

theorem pageOfNat?_of_eq {n : Nat} {p : Page} (h : n = p.val + 1) : pageOfNat? n = some p := by
  subst h
  unfold pageOfNat?
  rw [dif_pos (by omega)]
  rfl

theorem storeIdle_iff (s : State) : s.storeIdle = true ↔ s.store.operation = none := Option.isNone_iff_eq_none

theorem storeIdle_eq_false {s : State} (h : s.store.operation ≠ none) : s.storeIdle = false :=
  eq_false_of_ne_true fun hidle => h ((storeIdle_iff s).mp hidle)

/-! ### The page buffer (R153–R155) -/

/-- What a run of bytes written with the wrap reads as: it is no longer than a page, so no byte falls on another. -/
theorem read_writeWrapped {m : Memory} (hm : Memory.wf m) {offset : Nat} (hoffset : offset < 4096) (bytes : List Byte)
    (hlength : bytes.length ≤ 4096) (a : Nat) :
    Memory.read (writeWrapped m offset bytes) a
      = if a < 4096 ∧ (a + 4096 - offset) % 4096 < bytes.length then
          bytes.getD ((a + 4096 - offset) % 4096) 0#8
        else Memory.read m a := by
  induction bytes generalizing m offset with
  | nil => simp [writeWrapped]
  | cons b bs ih =>
    rw [List.length_cons] at hlength
    have hnext : nextOffset offset = if offset = 4095 then 0 else offset + 1 := by
      unfold nextOffset pageSize
      split <;> omega
    have hbelow : nextOffset offset < 4096 := by
      rw [hnext]
      split <;> omega
    rw [writeWrapped, ih (Memory.wf_write hm offset b) hbelow (by omega), Memory.read_write hm]
    by_cases ha : a < 4096
    · by_cases hat : a = offset
      · subst hat
        have hfirst : (a + 4096 - a) % 4096 = 0 := by omega
        have hlast : (a + 4096 - nextOffset a) % 4096 = 4095 := by
          rw [hnext]
          split <;> omega
        rw [hfirst, hlast, if_neg (by omega), if_pos rfl, if_pos ⟨ha, Nat.succ_pos _⟩]
        rfl
      · obtain ⟨k, hk⟩ : ∃ k, (a + 4096 - offset) % 4096 = k + 1 := Nat.exists_eq_succ_of_ne_zero (by omega)
        have hrest : (a + 4096 - nextOffset offset) % 4096 = k := by
          rw [hnext]
          split <;> omega
        rw [hk, hrest, if_neg hat, List.length_cons]
        simp only [Nat.add_lt_add_iff_right, List.getD_cons_succ]
    · rw [if_neg fun h => ha h.1, if_neg (show ¬a = offset by omega), if_neg fun h => ha h.1]

theorem countOk_iff (count : Byte) : countOk count = true ↔ 1 ≤ count.toNat ∧ count.toNat ≤ 56 := by
  unfold countOk
  simp

section BufferWrite
variable {offset : Half} {bytes : List Byte} {s : State}

theorem opBufferWrite_range (h : 4095 < offset.toNat) : opBufferWrite offset bytes s = refuse .range s :=
  if_pos (show pageSize ≤ offset.toNat from h)

theorem opBufferWrite_busy (h : offset.toNat ≤ 4095) (hbusy : s.store.operation ≠ none) :
    opBufferWrite offset bytes s = refuse .busy s := by
  unfold opBufferWrite
  rw [if_neg (show ¬pageSize ≤ offset.toNat by unfold pageSize; omega), storeIdle_eq_false hbusy]
  rfl

theorem opBufferWrite_idle (h : offset.toNat ≤ 4095) (hidle : s.store.operation = none) :
    opBufferWrite offset bytes s
      = ({ s with store := { s.store with buffer := writeWrapped s.store.buffer offset.toNat bytes } }, bare .ok) := by
  unfold opBufferWrite
  rw [if_neg (show ¬pageSize ≤ offset.toNat by unfold pageSize; omega), (storeIdle_iff s).mpr hidle]
  rfl

end BufferWrite

/-- R154, R155: offset and count as both reads check them. -/
theorem readRange_iff {offset : Half} {count : Byte} :
    (pageSize ≤ offset.toNat ∨ (!countOk count) = true)
      ↔ 4095 < offset.toNat ∨ count.toNat = 0 ∨ 56 < count.toNat := by
  rw [Bool.not_eq_true', ← Bool.not_eq_true, countOk_iff]
  unfold pageSize
  omega

theorem opBufferRead_eq (offset : Half) (count : Byte) (s : State) :
    opBufferRead offset count s
      = if 4095 < offset.toNat ∨ count.toNat = 0 ∨ 56 < count.toNat then refuse .range s
        else (s, { outcome := .ok, data := readWrapped s.store.buffer offset.toNat count.toNat }) := by
  unfold opBufferRead
  exact if_congr readRange_iff rfl rfl

section PageRead
variable {page : Byte} {offset : Half} {count : Byte} {s : State}

theorem opPageRead_busy (hbusy : s.store.operation ≠ none) : opPageRead page offset count s = refuse .busy s := by
  unfold opPageRead
  rw [storeIdle_eq_false hbusy]
  rfl

theorem opPageRead_absent (hidle : s.store.operation = none) (hpage : page.toNat = 0 ∨ 66 < page.toNat) :
    opPageRead page offset count s = refuse .range s := by
  unfold opPageRead
  rw [(storeIdle_iff s).mpr hidle, pageOfNat?_of_out hpage]
  rfl

theorem opPageRead_page {p : Page} (hidle : s.store.operation = none) (hpage : page.toNat = p.val + 1) :
    opPageRead page offset count s
      = if 4095 < offset.toNat ∨ count.toNat = 0 ∨ 56 < count.toNat then refuse .range s
        else
          (s, { outcome := .ok
                data := s.store.classes[p].code :: readWrapped (s.store.image p) offset.toNat count.toNat }) := by
  unfold opPageRead
  rw [(storeIdle_iff s).mpr hidle, pageOfNat?_of_eq hpage, Bool.not_true, if_neg Bool.false_ne_true]
  exact if_congr readRange_iff rfl rfl

end PageRead

/-- R155: the bytes of a page, read with the wrap. -/
theorem readWrapped_image (s : State) (p : Page) (offset count : Nat) :
    readWrapped (s.store.image p) offset count
      = (List.range count).map fun j => pageByte s p ((offset + j) % 4096) := by
  unfold readWrapped
  exact List.map_congr_left fun j _ => Store.read_image _ _ _ (Nat.mod_lt _ (by decide))

theorem bufferWrite_formOk {offset : Half} {bytes : List Byte} (hone : 1 ≤ bytes.length) (hlength : bytes.length ≤ 56) :
    (Request.bufferWrite offset bytes).formOk = true := by
  simp [Request.formOk, hone, hlength]

end Sys2Proof.Machine

namespace Sys2Proof
open Machine

/-- Settles O34: each request by its equations, and the written buffer byte by byte (`read_writeWrapped`). -/
theorem bufferAndPageReads : Obligations.BufferAndPageReads := by
  refine ⟨fun h offset bytes s hready hone hlength => ?_, fun h offset count s hready => ?_,
    fun h page offset count s hready => ?_⟩
  · have hwrite {t : State} {o : Outcome} (hop : opBufferWrite offset bytes s = (t, bare o)) :
        exec (.bufferWrite h offset bytes) s = .next (replied h 0x28#8 o [] t) :=
      exec_performed (r := .bufferWrite offset bytes) rfl rfl hready (bufferWrite_formOk hone hlength)
        (show (0x28#8 : Byte) ≠ restartCode by decide) hop
    refine ⟨fun hrange => hwrite (opBufferWrite_range hrange),
      fun hrange hbusy => hwrite (opBufferWrite_busy hrange hbusy), fun hrange hidle hbuffer => ?_⟩
    exact ⟨_, hwrite (opBufferWrite_idle hrange hidle), Memory.wf_writeWrapped hbuffer _ _,
      read_writeWrapped hbuffer (Nat.lt_succ_of_le hrange) bytes (by omega)⟩
  · have hread {a : Answer} (hop : opBufferRead offset count s = (s, a)) :
        exec (.bufferRead h offset count) s = .next (replied h 0x29#8 a.outcome a.data s) :=
      exec_performed (r := .bufferRead offset count) rfl rfl hready rfl
        (show (0x29#8 : Byte) ≠ restartCode by decide) hop
    refine ⟨fun hrange => hread ((opBufferRead_eq ..).trans (if_pos hrange)), fun hoffset hone hcount => ?_⟩
    exact hread ((opBufferRead_eq ..).trans (if_neg (by omega)))
  · have hread {a : Answer} (hop : opPageRead page offset count s = (s, a)) :
        exec (.pageRead h page offset count) s = .next (replied h 0x2B#8 a.outcome a.data s) :=
      exec_performed (r := .pageRead page offset count) rfl rfl hready rfl
        (show (0x2B#8 : Byte) ≠ restartCode by decide) hop
    refine ⟨fun hbusy => hread (opPageRead_busy hbusy), fun hidle hout => ?_,
      fun p hidle hpage hoffset hone hcount => ?_⟩
    · by_cases habsent : page.toNat = 0 ∨ 66 < page.toNat
      · exact hread (opPageRead_absent hidle habsent)
      · have hpage : page.toNat = (⟨page.toNat - 1, by omega⟩ : Page).val + 1 := by
          show page.toNat = page.toNat - 1 + 1
          omega
        exact hread ((opPageRead_page hidle hpage).trans (if_pos (by omega)))
    · rw [← readWrapped_image]
      exact hread ((opPageRead_page hidle hpage).trans (if_neg (by omega)))

end Sys2Proof

end

section
/-! SUPPORT. The store operations accepted (R156–R159, R163), and protection (R165–R169). -/

namespace Sys2Proof.Machine

/-! ### Operations accepted (R156–R159, R163) -/

theorem not_storeIdle_iff (s : State) : (!s.storeIdle) = true ↔ s.store.operation ≠ none := by
  rw [Bool.not_eq_true', ← Bool.not_eq_true, storeIdle_iff]

theorem beginCommit_accepted (p : Page) (s : State) :
    beginCommit p s = accepted (.commit p) (sealPage s.store.buffer) s := by
  unfold beginCommit
  rw [beginOperation_accepted]
  rfl

/-- R157, R158: a request that writes a page of the store: refused while an operation is in flight or the page is
protected, else started. -/
def startedUnlessProtected (p : Page) (started s : State) : State × Answer :=
  if s.store.operation ≠ none then refuse .busy s
  else if s.store.protect[p] = true then refuse .pageProtected s
  else (started, bare .started)

section Page
variable {page : Byte} {p : Page} {s : State} (hpage : page.toNat = p.val + 1)
include hpage

theorem opBufferLoad_page :
    opBufferLoad page s
      = if s.store.operation ≠ none then refuse .busy s
        else (accepted (.load p) s.store.buffer s, bare .started) := by
  unfold opBufferLoad
  rw [pageOfNat?_of_eq hpage]
  dsimp only
  rw [beginOperation_accepted]
  exact if_congr (not_storeIdle_iff s) rfl rfl

theorem opCommit_page :
    opCommit page s = startedUnlessProtected p (accepted (.commit p) (sealPage s.store.buffer) s) s := by
  unfold opCommit
  rw [pageOfNat?_of_eq hpage]
  dsimp only
  rw [beginCommit_accepted]
  exact if_congr (not_storeIdle_iff s) rfl rfl

theorem opClear_page : opClear page s = startedUnlessProtected p (accepted (.clear p) s.store.buffer s) s := by
  unfold opClear
  rw [pageOfNat?_of_eq hpage]
  dsimp only
  rw [beginOperation_accepted]
  exact if_congr (not_storeIdle_iff s) rfl rfl

end Page

theorem storeBuilt_eq (p : Page) (bytes : List Byte) (s : State) :
    storeBuilt p bytes s
      = startedUnlessProtected p (accepted (.commit p) (sealPage (Memory.ofBytes 0 bytes)) s) s := by
  unfold storeBuilt
  rw [beginCommit_accepted]
  exact if_congr (not_storeIdle_iff s) rfl rfl

theorem opBufferLoad_absent {page : Byte} (h : page.toNat = 0 ∨ 66 < page.toNat) (s : State) :
    opBufferLoad page s = refuse .range s := by
  unfold opBufferLoad
  rw [pageOfNat?_of_out h]

theorem opCommit_absent {page : Byte} (h : page.toNat = 0 ∨ 66 < page.toNat) (s : State) :
    opCommit page s = refuse .range s := by
  unfold opCommit
  rw [pageOfNat?_of_out h]

theorem opClear_absent {page : Byte} (h : page.toNat = 0 ∨ 66 < page.toNat) (s : State) :
    opClear page s = refuse .range s := by
  unfold opClear
  rw [pageOfNat?_of_out h]

section Rows
variable {h : Head} {s t : State} {o : Outcome} {page : Byte} (hready : Ready h s)
include hready

theorem exec_bufferLoad (hop : opBufferLoad page s = (t, bare o)) :
    exec (.bufferLoad h page) s = .next (replied h 0x2A#8 o [] t) :=
  exec_performed (r := .bufferLoad page) rfl rfl hready rfl (show (0x2A#8 : Byte) ≠ restartCode by decide) hop

theorem exec_commit (hop : opCommit page s = (t, bare o)) :
    exec (.commit h page) s = .next (replied h 0x2C#8 o [] t) :=
  exec_performed (r := .commit page) rfl rfl hready rfl (show (0x2C#8 : Byte) ≠ restartCode by decide) hop

theorem exec_clear (hop : opClear page s = (t, bare o)) :
    exec (.clear h page) s = .next (replied h 0x2D#8 o [] t) :=
  exec_performed (r := .clear page) rfl rfl hready rfl (show (0x2D#8 : Byte) ≠ restartCode by decide) hop

theorem exec_storeSettings (hop : opStoreSettings s = (t, bare o)) :
    exec (.storeSettings h) s = .next (replied h 0x12#8 o [] t) :=
  exec_performed (r := .storeSettings) rfl rfl hready rfl (show (0x12#8 : Byte) ≠ restartCode by decide) hop

theorem exec_storeCurves (hop : opStoreCurves s = (t, bare o)) :
    exec (.storeCurves h) s = .next (replied h 0x1A#8 o [] t) :=
  exec_performed (r := .storeCurves) rfl rfl hready rfl (show (0x1A#8 : Byte) ≠ restartCode by decide) hop

end Rows

/-- R157, R158: what a row replies whose request is refused on a protected page, with no operation in flight. -/
theorem replied_unlessProtected {c : Instr} {h : Head} {code : Byte} {op : State × Answer} {p : Page}
    {s started : State}
    (hexec : ∀ {t o}, op = (t, bare o) → exec c s = .next (replied h code o [] t))
    (hop : op = startedUnlessProtected p started s) (hidle : s.store.operation = none) :
    exec c s
      = .next
        (if s.store.protect[p] then replied h code .pageProtected [] s else replied h code .started [] started) := by
  have hop' := hop.trans (if_neg (not_not.mpr hidle))
  split
  · next hprotected => exact hexec (hop'.trans (if_pos hprotected))
  · next hfree => exact hexec (hop'.trans (if_neg hfree))

end Sys2Proof.Machine

namespace Sys2Proof
open Machine

/-- Settles O35: the number of the page first, then `startedUnlessProtected`'s order. -/
theorem storeOperationsAccepted : Obligations.StoreOperationsAccepted := by
  intro h page s hready
  refine ⟨fun hout => ⟨exec_bufferLoad hready (opBufferLoad_absent hout s), exec_commit hready (opCommit_absent hout s),
      exec_clear hready (opClear_absent hout s)⟩,
    fun p hpage hbusy => ⟨exec_bufferLoad hready ((opBufferLoad_page hpage).trans (if_pos hbusy)),
      exec_commit hready ((opCommit_page hpage).trans (if_pos hbusy)),
      exec_clear hready ((opClear_page hpage).trans (if_pos hbusy))⟩,
    fun hbusy => ⟨exec_storeSettings hready ((storeBuilt_eq ..).trans (if_pos hbusy)),
      exec_storeCurves hready ((storeBuilt_eq ..).trans (if_pos hbusy))⟩,
    fun p hpage hidle => ⟨exec_bufferLoad hready ((opBufferLoad_page hpage).trans (if_neg (not_not.mpr hidle))),
      replied_unlessProtected (exec_commit hready) (opCommit_page hpage) hidle,
      replied_unlessProtected (exec_clear hready) (opClear_page hpage) hidle⟩,
    fun hidle => ⟨replied_unlessProtected (exec_storeSettings hready) (storeBuilt_eq ..) hidle,
      replied_unlessProtected (exec_storeCurves hready) (storeBuilt_eq ..) hidle⟩⟩

end Sys2Proof

namespace Sys2Proof.Machine

/-! ### Protection (R165, R166) -/

/-- R165: the part with the flag of a page set or cleared. -/
def flagged (on : Bool) (p : Page) (s : State) : State :=
  { s with store := { s.store with protect := s.store.protect.set p on } }

/-- R166: the part with every flag set or cleared. -/
def allFlagged (on : Bool) (s : State) : State :=
  { s with store := { s.store with protect := Vector.replicate 66 on } }

section One
variable {on : Bool} {page : Byte} {s : State}

theorem opProtectOne_locked (hlock : s.store.lock = true) : opProtectOne on page s = refuse .locked s := if_pos hlock

theorem opProtectOne_absent (hlock : s.store.lock = false) (h : page.toNat = 0 ∨ 66 < page.toNat) :
    opProtectOne on page s = refuse .range s := by
  unfold opProtectOne
  rw [hlock, pageOfNat?_of_out h]
  rfl

theorem underOperation_iff (p : Page) (s : State) :
    underOperation p s = true ↔ ∃ op, s.store.operation = some op ∧ op.kind.page = p := by
  unfold underOperation
  cases s.store.operation <;> simp

theorem opProtectOne_page {p : Page} (hlock : s.store.lock = false) (hpage : page.toNat = p.val + 1) :
    opProtectOne on page s
      = if underOperation p s = true then refuse .busy s
        else if s.store.protect[p] = on then refuse .noChange s
        else (flagged on p s, bare .ok) := by
  unfold opProtectOne
  rw [hlock, pageOfNat?_of_eq hpage]
  rfl

end One

section All
variable {on : Bool} {s : State}

theorem opProtectAll_locked (hlock : s.store.lock = true) : opProtectAll on s = refuse .locked s := if_pos hlock

theorem opProtectAll_busy (hlock : s.store.lock = false) (hbusy : s.store.operation ≠ none) :
    opProtectAll on s = refuse .busy s := by
  unfold opProtectAll
  rw [hlock, storeIdle_eq_false hbusy]
  rfl

theorem all_flags_iff (flags : Vector Bool 66) (on : Bool) :
    flags.all (· == on) = true ↔ flags = Vector.replicate 66 on := by
  rw [Vector.all_eq_true, Vector.ext_iff]
  simp

theorem opProtectAll_idle (hlock : s.store.lock = false) (hidle : s.store.operation = none) :
    opProtectAll on s
      = if s.store.protect = Vector.replicate 66 on then refuse .noChange s else (allFlagged on s, bare .ok) := by
  unfold opProtectAll
  rw [hlock, (storeIdle_iff s).mpr hidle, if_neg Bool.false_ne_true, Bool.not_true, if_neg Bool.false_ne_true]
  exact if_congr (all_flags_iff ..) rfl rfl

end All

section Rows
variable {h : Head} {s t : State} {o : Outcome} {page : Byte} (hready : Ready h s)
include hready

theorem exec_protect (hop : opProtectOne true page s = (t, bare o)) :
    exec (.protect h page) s = .next (replied h 0x30#8 o [] t) :=
  exec_performed (r := .protect page) rfl rfl hready rfl (show (0x30#8 : Byte) ≠ restartCode by decide) hop

theorem exec_unprotect (hop : opProtectOne false page s = (t, bare o)) :
    exec (.unprotect h page) s = .next (replied h 0x31#8 o [] t) :=
  exec_performed (r := .unprotect page) rfl rfl hready rfl (show (0x31#8 : Byte) ≠ restartCode by decide) hop

theorem exec_protectAll (hop : opProtectAll true s = (t, bare o)) :
    exec (.protectAll h) s = .next (replied h 0x32#8 o [] t) :=
  exec_performed (r := .protectAll) rfl rfl hready rfl (show (0x32#8 : Byte) ≠ restartCode by decide) hop

theorem exec_unprotectAll (hop : opProtectAll false s = (t, bare o)) :
    exec (.unprotectAll h) s = .next (replied h 0x33#8 o [] t) :=
  exec_performed (r := .unprotectAll) rfl rfl hready rfl (show (0x33#8 : Byte) ≠ restartCode by decide) hop

theorem exec_lock (hop : opLock s = (t, bare o)) : exec (.lock h) s = .next (replied h 0x34#8 o [] t) :=
  exec_performed (r := .lock) rfl rfl hready rfl (show (0x34#8 : Byte) ≠ restartCode by decide) hop

theorem exec_unlock (hop : opUnlock s = (t, bare o)) : exec (.unlock h) s = .next (replied h 0x35#8 o [] t) :=
  exec_performed (r := .unlock) rfl rfl hready rfl (show (0x35#8 : Byte) ≠ restartCode by decide) hop

/-- R165: PROTECT of a page that is not under operation. -/
theorem exec_protect_page {p : Page} (hlock : s.store.lock = false) (hpage : page.toNat = p.val + 1)
    (hfree : ¬underOperation p s = true) :
    exec (.protect h page) s
      = .next
        (if s.store.protect[p] then replied h 0x30#8 .noChange [] s
          else replied h 0x30#8 .ok [] (flagged true p s)) := by
  have hop := (opProtectOne_page (on := true) hlock hpage).trans (if_neg hfree)
  split
  · next hset => exact exec_protect hready (hop.trans (if_pos hset))
  · next hclear => exact exec_protect hready (hop.trans (if_neg hclear))

/-- R165: UNPROTECT of a page that is not under operation. -/
theorem exec_unprotect_page {p : Page} (hlock : s.store.lock = false) (hpage : page.toNat = p.val + 1)
    (hfree : ¬underOperation p s = true) :
    exec (.unprotect h page) s
      = .next
        (if s.store.protect[p] then replied h 0x31#8 .ok [] (flagged false p s)
          else replied h 0x31#8 .noChange [] s) := by
  have hop := (opProtectOne_page (on := false) hlock hpage).trans (if_neg hfree)
  split
  · next hset => exact exec_unprotect hready (hop.trans (if_neg (by simp [hset])))
  · next hclear => exact exec_unprotect hready (hop.trans (if_pos (eq_false_of_ne_true hclear)))

end Rows

/-! ### READ PROTECTION (R169) -/

/-- The number that the first `n` flags spell, each at its own bit. -/
def flagSum (f : Nat → Bool) (n : Nat) : Nat := ((List.range n).map fun b => if f b then 2 ^ b else 0).sum

theorem flagSum_succ (f : Nat → Bool) (n : Nat) :
    flagSum f (n + 1) = (if f n then 2 ^ n else 0) + flagSum f n := by
  unfold flagSum
  rw [List.range_succ, List.map_append, List.sum_append, List.map_singleton, List.sum_singleton, Nat.add_comm]

theorem flagSum_lt (f : Nat → Bool) (n : Nat) : flagSum f n < 2 ^ n := by
  induction n with
  | zero => exact Nat.one_pos
  | succ n ih =>
    rw [flagSum_succ, pow_succ]
    split <;> omega

/-- Each flag is its bit of the number. -/
theorem flagSum_testBit (f : Nat → Bool) {n b : Nat} (hb : b < n) : (flagSum f n).testBit b = f b := by
  induction n with
  | zero => cases hb
  | succ n ih =>
    rw [flagSum_succ]
    rcases Nat.lt_succ_iff_lt_or_eq.mp hb with hlt | rfl
    · split
      · rw [Nat.testBit_two_pow_add_gt hlt, ih hlt]
      · rw [Nat.zero_add, ih hlt]
    · have habove : (flagSum f b).testBit b = false := Nat.testBit_lt_two_pow (flagSum_lt f b)
      split
      · next hset => rw [Nat.testBit_two_pow_add_eq, habove, hset]; rfl
      · next hclear => rw [Nat.zero_add, habove, eq_false_of_ne_true hclear]

/-- R169: page p is bit (p − 1) mod 8 of byte (p − 1) div 8. -/
theorem protectByte_getLsbD (flags : Vector Bool 66) (i : Nat) {b : Nat} (hb : b < 8) :
    (protectByte flags i).getLsbD b = flags[8 * i + b]?.getD false := by
  have hbyte : protectByte flags i = natByte (flagSum (fun b => flags[8 * i + b]?.getD false) 8) := rfl
  rw [hbyte, natByte, BitVec.getLsbD_ofNat, flagSum_testBit _ hb, decide_eq_true hb, Bool.true_and]

/-- R169: the nine bytes of the protect flags. -/
def protectBytes (flags : Vector Bool 66) : List Byte := (List.range 9).map (protectByte flags)

theorem protectBytes_getD (flags : Vector Bool 66) {i : Nat} (hi : i < 9) :
    (protectBytes flags).getD i 0#8 = protectByte flags i := by
  simp [protectBytes, List.getD_eq_getElem?_getD, hi]

theorem protectBytes_page (flags : Vector Bool 66) (p : Page) :
    ((protectBytes flags).getD (p.val / 8) 0#8).getLsbD (p.val % 8) = flags[p] := by
  rw [protectBytes_getD flags (by omega), protectByte_getLsbD flags _ (Nat.mod_lt _ (by decide)), Nat.div_add_mod]
  simp

/-- R169: the bits of the last byte beyond page 66 are clear. -/
theorem protectBytes_beyond (flags : Vector Bool 66) {b : Nat} (hlow : 2 ≤ b) (hhigh : b < 8) :
    ((protectBytes flags).getD 8 0#8).getLsbD b = false := by
  rw [protectBytes_getD flags (by decide), protectByte_getLsbD flags 8 hhigh, Vector.getElem?_eq_none (by omega)]
  rfl

theorem opReadProtection_eq (s : State) :
    opReadProtection s
      = (s, { outcome := .ok
              data := protectBytes s.store.protect
                ++ [if s.store.lock then 1#8 else 0#8, if s.switchOn then 1#8 else 0#8] }) := by
  unfold opReadProtection
  cases s.store.lock <;> cases s.switchOn <;> rfl

/-! ### LOCK and UNLOCK (R167, R168) -/

theorem switchOn_of_off {s : State} (h : s.pedals.showLock.settled = some .opened) : s.switchOn = false := by
  unfold State.switchOn
  rw [h]

section Lock
variable {s : State}

theorem opUnlock_clear (hlock : s.store.lock = false) : opUnlock s = refuse .noChange s := by
  unfold opUnlock
  rw [hlock]
  rfl

theorem opUnlock_set (hlock : s.store.lock = true) :
    opUnlock s
      = if s.switchOn = true then refuse .locked s
        else ({ s with store := { s.store with lock := false } }, bare .ok) := by
  unfold opUnlock
  rw [hlock]
  rfl

end Lock

end Sys2Proof.Machine

namespace Sys2Proof
open Machine

/-- Settles O37: the refusals in the order of `opProtectOne` and `opProtectAll`, and the flags read bit by bit. -/
theorem protection : Obligations.Protection := by
  intro h s hready
  refine ⟨fun page => ⟨fun hlock => ?_, fun hlock hout => ?_, fun p hlock hpage => ⟨fun hunder => ?_, fun hfree => ?_⟩⟩,
    fun hlock => ?_, fun hlock hbusy => ?_, fun hlock hidle => ?_, ?_⟩
  · exact ⟨exec_protect hready (opProtectOne_locked hlock), exec_unprotect hready (opProtectOne_locked hlock)⟩
  · exact ⟨exec_protect hready (opProtectOne_absent hlock hout), exec_unprotect hready (opProtectOne_absent hlock hout)⟩
  · have hbusy := (underOperation_iff p s).mpr hunder
    exact ⟨exec_protect hready ((opProtectOne_page hlock hpage).trans (if_pos hbusy)),
      exec_unprotect hready ((opProtectOne_page hlock hpage).trans (if_pos hbusy))⟩
  · have hapart : ¬underOperation p s = true := fun hunder => by
      obtain ⟨op, hop, hpage⟩ := (underOperation_iff p s).mp hunder
      exact hfree op hop hpage
    exact ⟨exec_protect_page hready hlock hpage hapart, exec_unprotect_page hready hlock hpage hapart⟩
  · exact ⟨exec_protectAll hready (opProtectAll_locked hlock), exec_unprotectAll hready (opProtectAll_locked hlock)⟩
  · exact ⟨exec_protectAll hready (opProtectAll_busy hlock hbusy),
      exec_unprotectAll hready (opProtectAll_busy hlock hbusy)⟩
  · have hall (on : Bool) := opProtectAll_idle (on := on) hlock hidle
    refine ⟨?_, ?_⟩
    · split
      · next hset => exact exec_protectAll hready ((hall true).trans (if_pos hset))
      · next hclear => exact exec_protectAll hready ((hall true).trans (if_neg hclear))
    · split
      · next hset => exact exec_unprotectAll hready ((hall false).trans (if_pos hset))
      · next hclear => exact exec_unprotectAll hready ((hall false).trans (if_neg hclear))
  · exact ⟨protectBytes s.store.protect,
      exec_performed (r := .readProtection) rfl rfl hready rfl (show (0x36#8 : Byte) ≠ restartCode by decide)
        (opReadProtection_eq s),
      by simp [protectBytes], protectBytes_page _, fun b => protectBytes_beyond _⟩

/-- Settles O38: LOCK by the flag, UNLOCK by the flag and then by the switch level. -/
theorem lockAndUnlock : Obligations.LockAndUnlock := by
  intro h s hready
  refine ⟨?_, fun hlock => exec_unlock hready (opUnlock_clear hlock), fun hlock hswitch => ?_, fun hlock hswitch => ?_⟩
  · split
    · next hset => exact exec_lock hready (if_pos hset)
    · next hclear => exact exec_lock hready (if_neg hclear)
  · exact exec_unlock hready ((opUnlock_set hlock).trans (if_pos (switchOn_of_not_off hswitch)))
  · have hoff : ¬s.switchOn = true := by simp [switchOn_of_off hswitch]
    exact exec_unlock hready ((opUnlock_set hlock).trans (if_neg hoff))

end Sys2Proof

end

section
/-! SUPPORT. The ends of store operations (R152, R156–R158, R160, R163): what a page reads back as once it
has been written, and the operations that end, stand suspended, or are not at work. -/

namespace Sys2Proof.Machine

/-! ### Cells that read back otherwise (R157, R158, log entry 10) -/

theorem readBack_concat (cells : List Host.Cell) (c : Host.Cell) (byte : Nat → Byte) (i : Nat) :
    readBack (cells ++ [c]) byte i = if i = c.1 then c.2 else readBack cells byte i := by
  unfold readBack
  rw [List.reverse_append, List.reverse_singleton, List.singleton_append, List.find?_cons]
  by_cases h : i = c.1
  · rw [if_pos h, beq_iff_eq.mpr h.symm]
  · rw [if_neg h, beq_eq_false_iff_ne.mpr fun he => h he.symm]

/-- Cells written one after the other: the last one at an address stands. -/
theorem read_overlay {m : Memory} (hm : Memory.wf m) (cells : List Host.Cell) (i : Nat) :
    Memory.read (Memory.overlay m cells) i = readBack cells (Memory.read m) i := by
  induction cells using List.reverseRecOn with
  | nil => rfl
  | append_singleton cells c ih =>
    have hlast : Memory.overlay m (cells ++ [c]) = (Memory.overlay m cells).write c.1 c.2 := by
      simp [Memory.overlay, List.foldl_append]
    rw [hlast, Memory.read_write (Memory.wf_overlay hm cells), ih, readBack_concat]

/-- Only the cells in the page count for an address in it. -/
theorem readBack_inPage (cells : List Host.Cell) (byte : Nat → Byte) {i : Nat} (hi : i < 4096) :
    readBack (inPage cells) byte i = readBack cells byte i := by
  have hsame (c : Host.Cell) : decide (decide (c.1 < pageSize) = true ∧ (c.1 == i) = true) = (c.1 == i) := by
    by_cases h : c.1 = i
    · simp [h, pageSize, hi]
    · simp [h]
  unfold readBack inPage
  rw [← List.filter_reverse, List.find?_filter]
  simp only [hsame]

/-- No cell in the page counts for an address beyond it. -/
theorem readBack_beyond (cells : List Host.Cell) (byte : Nat → Byte) {i : Nat} (hi : 4096 ≤ i) :
    readBack (inPage cells) byte i = byte i := by
  have hnone : (inPage cells).reverse.find? (fun c => c.1 == i) = none := by
    rw [List.find?_eq_none]
    intro c hc
    have hin : c.1 < 4096 := of_decide_eq_true (List.mem_filter.mp (List.mem_reverse.mp hc)).2
    simpa using Nat.ne_of_lt (Nat.lt_of_lt_of_le hin hi)
  unfold readBack
  rw [hnone]

/-- The bytes of a page once `m` has been written there and `deviations` read back. -/
def heldBack (m : Memory) (deviations : List Host.Cell) : Memory := Memory.overlay m (inPage deviations)

theorem read_heldBack {m : Memory} (hm : Memory.wf m) (deviations : List Host.Cell) {i : Nat} (hi : i < 4096) :
    Memory.read (heldBack m deviations) i = readBack deviations (Memory.read m) i :=
  (read_overlay hm _ i).trans (readBack_inPage deviations _ hi)

/-- R157, R158: a page holds what was written exactly when no byte of it reads back otherwise. -/
theorem heldBack_eq_iff {m : Memory} (hm : Memory.wf m) (deviations : List Host.Cell) :
    heldBack m deviations = m
      ↔ ¬∃ i, i < 4096 ∧ readBack deviations (Memory.read m) i ≠ Memory.read m i := by
  constructor
  · rintro heq ⟨i, hi, hwrong⟩
    exact hwrong (by rw [← read_heldBack hm deviations hi, heq])
  · intro hright
    refine Memory.ext_read (Memory.wf_overlay hm _) hm fun i => ?_
    by_cases hi : i < 4096
    · rw [read_heldBack hm deviations hi]
      exact by_contra fun hwrong => hright ⟨i, hi, hwrong⟩
    · exact (read_overlay hm _ i).trans (readBack_beyond deviations _ (Nat.le_of_not_lt hi))

/-! ### A page written (R152, R157, R158, R160) -/

/-- The part once an operation that wrote a page has ended with an outcome. -/
def pageEnded (p : Page) (image : Memory) (c : PageClass) (o : StoreOutcome) (s : State) : State :=
  endOperation o (setPage p image c s)

section PageEnded
variable {p q : Page} {image : Memory} {c : PageClass} {o : StoreOutcome} {s : State}

theorem pageEnded_class : (pageEnded p image c o s).store.classes[p] = c := by
  change (upd s.store.classes p fun _ => c)[p] = c
  rw [upd_getElem, if_pos rfl]

theorem pageEnded_otherClass (hq : q ≠ p) : (pageEnded p image c o s).store.classes[q] = s.store.classes[q] := by
  change (upd s.store.classes p fun _ => c)[q] = s.store.classes[q]
  rw [upd_getElem, if_neg hq]

theorem pageEnded_byte {i : Nat} (hi : i < 4096) : pageByte (pageEnded p image c o s) p i = Memory.read image i :=
  Store.read_setImage s.store p image i hi

theorem pageEnded_otherByte (hq : q ≠ p) {i : Nat} (hi : i < 4096) :
    pageByte (pageEnded p image c o s) q i = pageByte s q i :=
  Store.read_setImage_of_ne s.store hq image i hi

end PageEnded

theorem committedClass_eq (p : Page) (image : Memory) :
    committedClass p image
      = if p.val < 64 ∧ ((Memory.read image 17).toNat = 0 ∨ 8 < (Memory.read image 17).toNat) then .invalid
        else .good := by
  unfold committedClass isSongPage sceneCountOf
  simp only [Bool.and_eq_true, Bool.or_eq_true, decide_eq_true_eq]

theorem finishCommit_right {p : Page} {deviations : List Host.Cell} {s : State}
    (h : heldBack s.store.buffer deviations = s.store.buffer) :
    finishCommit p deviations s = pageEnded p s.store.buffer (committedClass p s.store.buffer) .ok s := by
  change (if heldBack s.store.buffer deviations = s.store.buffer then
    pageEnded p (heldBack s.store.buffer deviations) (committedClass p (heldBack s.store.buffer deviations)) .ok s
    else _) = _
  rw [if_pos h, h]

theorem finishCommit_wrong {p : Page} {deviations : List Host.Cell} {s : State}
    (h : heldBack s.store.buffer deviations ≠ s.store.buffer) :
    finishCommit p deviations s = flagStore (pageEnded p (heldBack s.store.buffer deviations) .damaged .fault s) :=
  if_neg h

/-- R152, R157, R160: the end of a commit. -/
theorem finishCommit_committed {s : State} (p : Page) (deviations : List Host.Cell)
    (hbuffer : Memory.wf s.store.buffer) : PageCommitted p deviations s (finishCommit p deviations s) := by
  have hright := heldBack_eq_iff hbuffer deviations
  by_cases h : heldBack s.store.buffer deviations = s.store.buffer
  · rw [finishCommit_right h]
    refine ⟨rfl, rfl, rfl, rfl, rfl, rfl, fun q hq => ⟨pageEnded_otherClass hq, fun i => pageEnded_otherByte hq⟩,
      fun i hi => ?_, fun _ => ⟨rfl, rfl, pageEnded_class.trans (committedClass_eq ..)⟩,
      fun hwrong => absurd hwrong (hright.mp h)⟩
    rw [pageEnded_byte hi, ← read_heldBack hbuffer deviations hi, h]
  · rw [finishCommit_wrong h]
    exact ⟨rfl, rfl, rfl, rfl, rfl, rfl, fun q hq => ⟨pageEnded_otherClass hq, fun i => pageEnded_otherByte hq⟩,
      fun i hi => (pageEnded_byte hi).trans (read_heldBack hbuffer deviations hi),
      fun hno => absurd (hright.mpr hno) h, fun _ => ⟨rfl, rfl, pageEnded_class⟩⟩

/-- R136: what the end of a KEEP ADJUSTMENTS makes of the adjusted flag. -/
theorem keepEnded_eq (s : State) :
    keepEnded s
      = s.setChange (if s.store.lastOutcome = .ok then
          { s.change with adjusted := s.change.adjusted && s.change.keepStale } else s.change) := by
  unfold keepEnded
  by_cases hok : s.store.lastOutcome = .ok
  · cases hstale : s.change.keepStale with
    | false => simp [modifyChange, State.setChange, hok]
    | true =>
      rw [if_pos hok, Bool.and_true, if_neg (by simp)]
      rfl
  · rw [if_neg hok, if_neg (by simp [hok])]
    rfl

/-! ### The operation at work -/

theorem runningOperation?_eq_some {s : State} {kind : OperationKind} :
    runningOperation? s = some kind
      ↔ ∃ op, s.store.operation = some op ∧ op.kind = kind ∧ op.begun = true ∧ op.suspended = false := by
  unfold runningOperation?
  cases s.store.operation with
  | none => simp
  | some op => simp [and_comm, and_assoc, and_left_comm]

theorem running_of_operation {s : State} {kind : OperationKind}
    (h : s.store.operation = some { kind := kind, begun := true, suspended := false }) :
    runningOperation? s = some kind :=
  runningOperation?_eq_some.mpr ⟨_, h, rfl, rfl, rfl⟩

theorem redecideFetch_unfetched {s : State} (h : s.store.fetch = none) : redecideFetch s = s := by
  unfold redecideFetch
  rw [h]

/-- R156: the end of a load with no fetch waiting for it. -/
theorem endLoad_unfetched {s : State} {p : Page} (hfetch : s.store.fetch = none)
    (hrunning : runningOperation? s = some (.load p)) :
    endLoad s
      = if s.store.classes[p] = .damaged then faultOperation (loadBuffer p s)
        else endOperation .ok (loadBuffer p s) := by
  unfold endLoad
  rw [hrunning]
  exact redecideFetch_unfetched (by split <;> exact hfetch)

theorem endCommit_commit {s : State} {p : Page} (h : runningOperation? s = some (.commit p))
    (deviations : List Host.Cell) : endCommit deviations s = finishCommit p deviations s := by
  unfold endCommit
  rw [h]

theorem endCommit_keep {s : State} {c : KeepCapture} (h : runningOperation? s = some (.keepCommit c))
    (deviations : List Host.Cell) : endCommit deviations s = keepEnded (finishCommit c.page deviations s) := by
  unfold endCommit
  rw [h]

theorem endClear_right {s : State} {p : Page} {deviations : List Host.Cell} (h : runningOperation? s = some (.clear p))
    (hright : heldBack [] deviations = []) : endClear deviations s = pageEnded p [] .empty .ok s := by
  unfold endClear
  rw [h]
  change (if heldBack [] deviations = [] then pageEnded p (heldBack [] deviations) .empty .ok s else _) = _
  rw [if_pos hright, hright]

theorem endClear_wrong {s : State} {p : Page} {deviations : List Host.Cell} (h : runningOperation? s = some (.clear p))
    (hwrong : heldBack [] deviations ≠ []) :
    endClear deviations s = flagStore (pageEnded p (heldBack [] deviations) .damaged .fault s) := by
  unfold endClear
  rw [h]
  exact if_neg hwrong

/-- R163: an operation that a fetch waits for stands SUSPENDED; one that does already is left as it is. -/
theorem suspendOperation_cells {s : State} {op : Operation} {f : Fetch} (hop : s.store.operation = some op)
    (hfetch : s.store.fetch = some f) (hcells : f.source = .cells) :
    suspendOperation s = { s with store := { s.store with operation := some { op with suspended := true } } } := by
  unfold suspendOperation awaitsSuspension
  rw [hfetch, hop]
  dsimp only
  by_cases hsuspended : op.suspended = true
  · have hsame : some { op with suspended := true } = s.store.operation := by rw [hop, ← hsuspended]
    rw [if_neg (by simp [hsuspended]), hsame]
  · rw [if_pos (by simp [hcells, hsuspended]), modifyStore, hop]
    rfl

theorem suspendOperation_idle {s : State}
    (h : s.store.operation = none ∨ s.store.fetch = none ∨ ∃ f, s.store.fetch = some f ∧ f.source ≠ .cells) :
    suspendOperation s = s := by
  unfold suspendOperation awaitsSuspension
  rcases h with hidle | hnone | ⟨f, hfetch, hsource⟩
  · rw [hidle]
    split
    · rfl
    · rw [if_neg (by simp)]
  · rw [hnone]
  · rw [hfetch]
    dsimp only
    rw [if_neg (by simp [hsource])]

section NotAtWork
variable {s : State} (deviations : List Host.Cell)

theorem endLoad_idle (h : ∀ p, runningOperation? s ≠ some (.load p)) : endLoad s = s := by
  unfold endLoad
  split
  · next p hrunning => exact absurd hrunning (h p)
  · rfl

theorem endKeepLoad_idle (h : ∀ c, runningOperation? s ≠ some (.keepLoad c)) : endKeepLoad s = s := by
  unfold endKeepLoad
  split
  · next c hrunning => exact absurd hrunning (h c)
  · rfl

theorem endCommit_idle (hcommit : ∀ p, runningOperation? s ≠ some (.commit p))
    (hkeep : ∀ c, runningOperation? s ≠ some (.keepCommit c)) : endCommit deviations s = s := by
  unfold endCommit
  split
  · next p hrunning => exact absurd hrunning (hcommit p)
  · next c hrunning => exact absurd hrunning (hkeep c)
  · rfl

theorem endClear_idle (h : ∀ p, runningOperation? s ≠ some (.clear p)) : endClear deviations s = s := by
  unfold endClear
  split
  · next p hrunning => exact absurd hrunning (h p)
  · rfl

end NotAtWork

/-- R158: the end of a clear. -/
theorem endClear_cleared {s : State} {p : Page} (deviations : List Host.Cell)
    (h : runningOperation? s = some (.clear p)) :
    let t := endClear deviations s
    let wrong : Prop := ∃ i, i < 4096 ∧ readBack deviations (fun _ => 0xFF#8) i ≠ 0xFF#8
    t.store.operation = none ∧ t.store.buffer = s.store.buffer ∧ t.store.protect = s.store.protect
      ∧ (∀ q : Page, q ≠ p → t.store.classes[q] = s.store.classes[q] ∧ ∀ i, i < 4096 → pageByte t q i = pageByte s q i)
      ∧ (∀ i, i < 4096 → pageByte t p i = readBack deviations (fun _ => 0xFF#8) i)
      ∧ (¬wrong → t.store.lastOutcome = .ok ∧ t.status = s.status ∧ t.store.classes[p] = .empty)
      ∧ (wrong →
        t.store.lastOutcome = .fault ∧ t.status = { s.status with store := true } ∧ t.store.classes[p] = .damaged) := by
  have hread {i : Nat} (hi : i < 4096) :
      Memory.read (heldBack [] deviations) i = readBack deviations (fun _ => 0xFF#8) i :=
    read_heldBack Memory.wf_nil deviations hi
  have hright : heldBack [] deviations = []
      ↔ ¬∃ i, i < 4096 ∧ readBack deviations (fun _ => 0xFF#8) i ≠ 0xFF#8 :=
    heldBack_eq_iff Memory.wf_nil deviations
  dsimp only
  by_cases hheld : heldBack [] deviations = []
  · rw [endClear_right h hheld]
    refine ⟨rfl, rfl, rfl, fun q hq => ⟨pageEnded_otherClass hq, fun i => pageEnded_otherByte hq⟩,
      fun i hi => ?_, fun _ => ⟨rfl, rfl, pageEnded_class⟩, fun hwrong => absurd hwrong (hright.mp hheld)⟩
    rw [pageEnded_byte hi, ← hread hi, hheld]
  · rw [endClear_wrong h hheld]
    exact ⟨rfl, rfl, rfl, fun q hq => ⟨pageEnded_otherClass hq, fun i => pageEnded_otherByte hq⟩,
      fun i hi => (pageEnded_byte hi).trans (hread hi), fun hno => absurd (hright.mpr hno) hheld,
      fun _ => ⟨rfl, rfl, pageEnded_class⟩⟩

/-- R136, R152: the end of the commit of a KEEP ADJUSTMENTS. -/
theorem endCommit_kept {s : State} {c : KeepCapture} (deviations : List Host.Cell)
    (h : runningOperation? s = some (.keepCommit c)) :
    endCommit deviations s
      = (finishCommit c.page deviations s).setChange
          (if (finishCommit c.page deviations s).store.lastOutcome = .ok then
            { s.change with adjusted := s.change.adjusted && s.change.keepStale } else s.change) := by
  have hchange : (finishCommit c.page deviations s).change = s.change := by
    unfold finishCommit
    dsimp only
    split <;> rfl
  rw [endCommit_keep h, keepEnded_eq, hchange]

end Sys2Proof.Machine

namespace Sys2Proof
open Machine

/-- Settles O39: each row by the operation at work, a page written by `heldBack_eq_iff`. -/
theorem storeOperationsEnd : Obligations.StoreOperationsEnd := by
  refine ⟨fun s p hpower hfetch hop => ?_, fun s p deviations hpower hop hmemory _ => ?_,
    fun s c hpower hop => ?_, fun s c deviations hpower hop hmemory _ => ?_, fun s p deviations hpower hop _ => ?_,
    fun s op f hpower hop hfetch hcells => ?_, fun s deviations hpower => ?_⟩
  · refine (powered_of_power hpower).trans (congrArg _ ?_)
    rw [endLoad_unfetched hfetch (running_of_operation hop)]
    split <;> rfl
  · have hend := endCommit_commit (running_of_operation hop) deviations
    refine ⟨_, (powered_of_power hpower).trans (congrArg _ hend), finishCommit_committed p deviations hmemory.2, ?_⟩
    unfold finishCommit
    dsimp only
    split <;> rfl
  · have hright : finishCommit c.page [] s
        = pageEnded c.page s.store.buffer (committedClass c.page s.store.buffer) .ok s := finishCommit_right rfl
    have hend := endCommit_kept [] (running_of_operation hop)
    rw [hright] at hend
    exact ⟨_, (powered_of_power hpower).trans (congrArg _ hend), rfl, rfl, rfl⟩
  · have hcommitted := finishCommit_committed c.page deviations hmemory.2
    have hend := endCommit_kept deviations (running_of_operation hop)
    refine ⟨_, (powered_of_power hpower).trans (congrArg _ hend), hcommitted, fun hwrong => ?_, fun hright => ?_⟩
    · obtain ⟨-, -, -, -, -, -, -, -, -, hfault⟩ := hcommitted
      obtain ⟨houtcome, -, -⟩ := hfault hwrong
      rw [State.setChange_change, houtcome]
      rfl
    · obtain ⟨-, -, -, -, -, -, -, -, hok, -⟩ := hcommitted
      obtain ⟨houtcome, -, -⟩ := hok hright
      rw [State.setChange_change, houtcome]
      rfl
  · exact ⟨_, powered_of_power hpower, endClear_cleared deviations (running_of_operation hop)⟩
  · exact (powered_of_power hpower).trans (congrArg _ (suspendOperation_cells hop hfetch hcells))
  · have hidle {f : State → State} (h : f s = s) : powered f s = .next s :=
      (powered_of_power hpower).trans (congrArg _ h)
    have hnot {kind : OperationKind}
        (h : ¬∃ op, s.store.operation = some op ∧ op.kind = kind ∧ op.begun = true ∧ op.suspended = false) :
        runningOperation? s ≠ some kind := fun hrunning => h (runningOperation?_eq_some.mp hrunning)
    exact ⟨fun h => hidle (endLoad_idle fun p => hnot (h p)), fun h => hidle (endKeepLoad_idle fun c => hnot (h c)),
      fun h h' => hidle (endCommit_idle deviations (fun p => hnot (h p)) fun c => hnot (h' c)),
      fun h => hidle (endClear_idle deviations fun p => hnot (h p)), fun h => hidle (suspendOperation_idle h)⟩

end Sys2Proof

end

section
/-! SUPPORT. Power (R151, R152, R170, R171, R137, R139, R149): the page that a loss of power cuts off, the class of a
page by its bytes, and the part as its power-up or restart sequence leaves it. -/

namespace Sys2Proof.Machine

/-! ### Loss of power (R152) -/

/-- R152, log entry 11: the page that a loss of power cuts off. -/
theorem cutPage?_eq_some {s : State} {p : Page} : cutPage? s.store = some p ↔ underCut s p := by
  unfold cutPage? underCut
  cases s.store.operation with
  | none => simp
  | some op =>
    dsimp only
    by_cases hbegun : op.begun = true
    · rw [if_pos hbegun]
      cases hkind : op.kind <;> simp [hbegun, hkind]
    · simp [hbegun]

section LosePower
variable (torn : List Host.Cell)

theorem cutOff_mark {st : Store} {p : Page} (h : cutPage? st = some p) : (cutOff torn st).cutMarks[p] = true := by
  unfold cutOff
  rw [h]
  exact (upd_getElem ..).trans (if_pos rfl)

theorem cutOff_otherPage {st : Store} {q : Page} (h : cutPage? st ≠ some q) :
    (cutOff torn st).cutMarks[q] = st.cutMarks[q]
      ∧ ∀ i, i < pageSize →
        Memory.read (cutOff torn st).cells (pageBase q + i) = Memory.read st.cells (pageBase q + i) := by
  unfold cutOff
  cases hcut : cutPage? st with
  | none => exact ⟨rfl, fun _ _ => rfl⟩
  | some p =>
    have hq : q ≠ p := fun heq => h (by rw [hcut, heq])
    exact ⟨(upd_getElem ..).trans (if_neg hq), fun i hi => Store.read_setImage_of_ne st hq _ i hi⟩

end LosePower

/-! ### The class of a page (R151, R193) -/

/-- The pairs below the next address: those below the address, and its own where it is listed. -/
theorem Memory.filter_lt_succ {m : Memory} (hm : Memory.wf m) (n : Nat) :
    m.filter (fun c => c.1 < n + 1)
      = m.filter (fun c => c.1 < n)
        ++ if Memory.read m n = Config.blankByte then [] else [(n, Memory.read m n)] := by
  induction m with
  | nil => rfl
  | cons c cs ih =>
    obtain ⟨hbyte, hlt, hcs⟩ := Memory.wf_cons.mp hm
    have habove {a : Nat} (ha : a ≤ c.1 + 1) : cs.filter (fun d => d.1 < a) = [] := by
      rw [List.filter_eq_nil_iff]
      intro d hd
      have := hlt d hd
      simp only [decide_eq_true_eq]
      omega
    rcases Nat.lt_trichotomy c.1 n with hbelow | hat | hover
    · rw [List.filter_cons_of_pos (by simp only [decide_eq_true_eq]; omega),
        List.filter_cons_of_pos (by simpa using hbelow), ih hcs, Memory.read, if_neg (Nat.ne_of_lt hbelow)]
      rfl
    · subst hat
      rw [List.filter_cons_of_pos (by simp), List.filter_cons_of_neg (by simp), habove (Nat.le_refl _),
        habove (Nat.le_succ _), Memory.read, if_pos rfl, if_neg hbyte]
      rfl
    · have hread : Memory.read (c :: cs) n = Config.blankByte := Memory.read_of_lt fun d hd => by
        rcases List.mem_cons.mp hd with rfl | hd
        · exact hover
        · exact Nat.lt_trans hover (hlt d hd)
      rw [List.filter_cons_of_neg (by simp only [decide_eq_true_eq]; omega),
        List.filter_cons_of_neg (by simp only [decide_eq_true_eq]; omega), habove (by omega), habove (by omega), hread,
        if_pos rfl]
      rfl

theorem Memory.length_filter_lt_le {m : Memory} (hm : Memory.wf m) (n : Nat) :
    (m.filter fun c => c.1 < n).length ≤ n := by
  induction n with
  | zero => simp
  | succ n ih =>
    rw [Memory.filter_lt_succ hm, List.length_append]
    split <;> simp only [List.length_nil, List.length_singleton] <;> omega

/-- R193: the sum of a page's bytes, one byte more. -/
theorem Memory.sumBelow_succ {m : Memory} (hm : Memory.wf m) (n : Nat) :
    Memory.sumBelow m (n + 1) = Memory.sumBelow m n + (Memory.read m n).toNat := by
  have hlength := Memory.length_filter_lt_le hm n
  have hblank : Config.blankByte.toNat = 255 := rfl
  unfold Memory.sumBelow
  dsimp only
  rw [Memory.filter_lt_succ hm, List.map_append, List.sum_append, List.length_append]
  split
  · next hread =>
    rw [hread, hblank]
    simp only [List.map_nil, List.sum_nil, List.length_nil]
    omega
  · simp only [List.map_cons, List.map_nil, List.sum_singleton, List.length_singleton]
    rw [Nat.add_sub_add_right]
    omega

/-- R193: the sum of the bytes of a canonical memory, address by address. -/
theorem Memory.sumBelow_eq_sum {m : Memory} (hm : Memory.wf m) (n : Nat) :
    Memory.sumBelow m n = ((List.range n).map fun i => (Memory.read m i).toNat).sum := by
  induction n with
  | zero => simp [Memory.sumBelow]
  | succ n ih => rw [Memory.sumBelow_succ hm, ih, List.range_succ, List.map_append, List.sum_append]; simp

/-- R151: a page is blank when every byte of it reads as 0xFF. -/
theorem image_all_blank_iff {st : Store} (h : Memory.wf st.cells) (p : Page) :
    ((st.image p).all fun c => c.2 == Config.blankByte) = true
      ↔ ∀ i, i < pageSize → Memory.read (st.image p) i = Config.blankByte := by
  have himage := Store.wf_image h p
  rw [List.all_eq_true]
  constructor
  · exact fun hall i _ => (Memory.read_eq_blank himage).mpr fun c hc =>
      absurd (beq_iff_eq.mp (hall c hc)) (himage.2 c hc)
  · intro hread c hc
    have hbyte : Memory.read (st.image p) c.1 = c.2 := Memory.read_of_mem himage hc
    exact absurd (hbyte ▸ hread c.1 (Memory.mem_slice hc)) (himage.2 c hc)

theorem storedCheck_image (s : State) (p : Page) :
    storedCheck (s.store.image p) = (pageByte s p 4094).toNat * 256 + (pageByte s p 4095).toNat := by
  unfold storedCheck
  rw [Store.read_image _ _ _ (by decide), Store.read_image _ _ _ (by decide)]
  rfl

theorem pageSum_image {s : State} (h : MemoryInv s) (p : Page) :
    pageSum (s.store.image p) = ((List.range 4094).map fun i => (pageByte s p i).toNat).sum % 65536 := by
  have hbytes (i : Nat) (hi : i ∈ List.range checkAt) :
      (Memory.read (s.store.image p) i).toNat = (pageByte s p i).toNat :=
    congrArg BitVec.toNat (Store.read_image _ _ _ (Nat.lt_trans (List.mem_range.mp hi) (by decide)))
  unfold pageSum
  rw [Memory.sumBelow_eq_sum (Store.wf_image h.1 p), List.map_congr_left hbytes]
  rfl

/-- R151: a page that bears no mark, and reads as 0xFF throughout. -/
theorem classify_blank {s : State} {p : Page} (h : MemoryInv s) (hblank : ∀ i, i < 4096 → pageByte s p i = 0xFF#8) :
    classify p false (s.store.image p) = .empty := by
  have hall := (image_all_blank_iff h.1 p).mpr fun i hi => (Store.read_image _ _ _ hi).trans (hblank i hi)
  unfold classify
  rw [if_neg (by decide), if_pos hall]

/-- R151: a page that bears no mark, with a byte other than 0xFF. -/
theorem classify_written {s : State} {p : Page} (h : MemoryInv s) (hwritten : ∃ i, i < 4096 ∧ pageByte s p i ≠ 0xFF#8) :
    classify p false (s.store.image p)
      = if (pageByte s p 4094).toNat * 256 + (pageByte s p 4095).toNat
          ≠ ((List.range 4094).map fun i => (pageByte s p i).toNat).sum % 65536 then .damaged
        else if p.val < 64 ∧ ((pageByte s p 17).toNat = 0 ∨ 8 < (pageByte s p 17).toNat) then .invalid
        else .good := by
  have hall : ¬((s.store.image p).all fun c => c.2 == Config.blankByte) = true := by
    rw [image_all_blank_iff h.1]
    obtain ⟨i, hi, hbyte⟩ := hwritten
    exact fun hblank => hbyte ((Store.read_image _ _ _ hi).symm.trans (hblank i hi))
  have hscenes : Memory.read (s.store.image p) 17 = pageByte s p 17 := Store.read_image _ _ _ (by decide)
  unfold classify isSongPage sceneCountOf
  rw [if_neg (by decide), if_neg hall, storedCheck_image, pageSum_image h, hscenes]
  simp only [Bool.and_eq_true, Bool.or_eq_true, decide_eq_true_eq]

theorem classifyAll_getElem (st : Store) (p : Page) :
    (classifyAll st)[p] = classify p st.cutMarks[p] (st.image p) := getElem_ofFn _ p

/-- R151, R186: STORE is set exactly when a page is DAMAGED. -/
theorem classifiedFlags_store (classes : Vector PageClass 66) :
    (classifiedFlags classes).store = true ↔ ∃ p : Page, classes[p] = .damaged := by
  unfold classifiedFlags
  dsimp only
  rw [Vector.any_eq_true]
  constructor
  · rintro ⟨i, hi, hclass⟩
    exact ⟨⟨i, hi⟩, beq_iff_eq.mp hclass⟩
  · rintro ⟨p, hclass⟩
    exact ⟨p.val, p.isLt, beq_iff_eq.mpr hclass⟩

/-! ### What the power-up and restart sequence loads (R170, R171, R137) -/

theorem bootScene_nil (st : Store) :
    bootScene st [] = { active := emptyScene, outcome := .noSet, page := none, repairs := 0, failed := false } := rfl

theorem bootScene_good {st : Store} {first : SongPage} (h : st.classes[songPage first] = .good)
    (rest : List SongPage) :
    bootScene st (first :: rest)
      = { active :=
            { block := (sceneAt (Memory.read (st.image (songPage first))) 1).1
              header := (headerAt (Memory.read (st.image (songPage first)))).1
              source := some (songPage first, 1) }
          outcome := .ok, page := some (songPage first)
          repairs :=
            (headerAt (Memory.read (st.image (songPage first)))).2
              + (sceneAt (Memory.read (st.image (songPage first))) 1).2
              + songSlotRepairs (headerAt (Memory.read (st.image (songPage first)))).1.tempos
          failed := false } := by
  unfold bootScene
  dsimp only
  rw [h]

theorem bootScene_bad {st : Store} {first : SongPage} (h : st.classes[songPage first] ≠ .good)
    (rest : List SongPage) :
    bootScene st (first :: rest)
      = bootFailed (match st.classes[songPage first] with
          | .empty => .empty
          | .damaged => .damaged
          | _ => .invalid) := by
  unfold bootScene
  dsimp only
  cases hclass : st.classes[songPage first] with
  | good => exact absurd hclass h
  | empty => rfl
  | damaged => rfl
  | invalid => rfl

theorem songPage_of_val {p : Page} {first : SongPage} (h : p.val = first.val) : p = songPage first := Fin.ext h

theorem bootSlots_getElem (st : Store) (i : Slot) :
    (bootSlots st)[i]
      = if st.classes[(64 : Page)] = .good then (slotsOfPage (Memory.read (st.image 64)))[i]
        else TempoRecord.default := by
  by_cases h : st.classes[(64 : Page)] = .good
  · have hloaded : bootSlots st = slotsOfPage (Memory.read (st.image 64)) := if_pos h
    rw [hloaded, if_pos h]
  · have hdefault : bootSlots st = Vector.replicate 16 TempoRecord.default := if_neg h
    rw [hdefault, if_neg h]
    simp

/-- R83: slot 0 is in effect at power-up. -/
theorem fresh_slot0 (slots : Vector TempoRecord 16) (overrides : Vector Override 8) :
    (Tempo.fresh slots overrides).tempo = (Tempo.fresh slots overrides).slots[(0 : Slot)].t
      ∧ (Tempo.fresh slots overrides).meter = (Tempo.fresh slots overrides).slots[(0 : Slot)].meter := ⟨rfl, rfl⟩

section Boot
variable (outs : Vector OutPort 8) (flags : Status) (s : State)

theorem boot_store : (boot outs flags s).store = bootStore s.store := rfl

theorem boot_storeFlag : (boot outs flags s).status.store = flags.store := rfl

theorem boot_pedals : (boot outs flags s).pedals = bootPedals s.pedals s.now := rfl

theorem boot_now : (boot outs flags s).now = s.now := rfl

theorem boot_outs : (boot outs flags s).link.outs = outs := rfl

theorem boot_receiver (p : Port) : (boot outs flags s).link.receivers[p] = .sync := by simp [boot]

/-- R83, R171: slots 4–15. -/
theorem boot_settingsSlot {i : Slot} (h : 4 ≤ i.val) :
    (boot outs flags s).tempo.slots[i]
      = if s.store.classes[(64 : Page)] = .good then (slotsOfPage (Memory.read (s.store.image 64)))[i]
        else TempoRecord.default :=
  (getElem_ofFn _ i).trans ((if_neg (Nat.not_lt.mpr h)).trans (bootSlots_getElem s.store i))

/-- R83: slots 0–3. -/
theorem boot_songSlot {i : Slot} (h : i.val < 4) :
    (boot outs flags s).tempo.slots[i]
      = (((boot outs flags s).change.active.header.tempos[i.val]?.bind tempoOfRaw?).getD TempoRecord.default) := by
  refine (getElem_ofFn _ i).trans ((if_pos h).trans ?_)
  rw [songSlot_eq]
  rfl

theorem boot_slot0 :
    (boot outs flags s).tempo.tempo = (boot outs flags s).tempo.slots[(0 : Slot)].t
      ∧ (boot outs flags s).tempo.meter = (boot outs flags s).tempo.slots[(0 : Slot)].meter := fresh_slot0 _ _

/-- R102: the feeds' overrides. -/
theorem boot_override (f : Port) :
    (boot outs flags s).tempo.feeds[f].override = (boot outs flags s).settings.feeds[f].override := by
  simp [boot, Tempo.fresh]

/-- R137, R170: everything that the sequence loads. -/
theorem boot_bootedFrom : BootedFrom flags.change (boot outs flags s) := by
  have hzero (p : Port) : (Vector.replicate 8 0)[p] = 0 := by simp
  obtain ⟨htempo, hmeter⟩ := boot_slot0 outs flags s
  refine ⟨rfl, fun i => boot_settingsSlot outs flags s, rfl, boot_override outs flags s,
    fun i => boot_songSlot outs flags s, rfl, rfl, rfl, htempo, hmeter, rfl, rfl, rfl, rfl, rfl,
    fun p => ⟨hzero p, hzero p, hzero p, hzero p⟩, rfl, rfl, fun hlist => ?_, fun first rest p hlist hp => ?_⟩
  · have hscene : bootScene s.store (bootSettings s.store).setList = _ :=
      (congrArg (bootScene s.store) hlist).trans (bootScene_nil s.store)
    exact ⟨congrArg (·.active) hscene, congrArg (·.outcome) hscene, congrArg (·.page) hscene,
      (congrArg (fun b : BootScene => flags.change || b.failed) hscene).trans (Bool.or_false _),
      congrArg (fun b : BootScene => min b.repairs Config.counterLimit) hscene⟩
  · obtain rfl := songPage_of_val hp
    refine ⟨fun hgood => ?_, fun hbad => ?_⟩
    · have hscene : bootScene s.store (bootSettings s.store).setList = _ :=
        (congrArg (bootScene s.store) hlist).trans (bootScene_good hgood rest)
      exact ⟨congrArg (·.active) hscene, congrArg (·.outcome) hscene, congrArg (·.page) hscene,
        (congrArg (fun b : BootScene => flags.change || b.failed) hscene).trans (Bool.or_false _),
        congrArg (fun b : BootScene => min b.repairs Config.counterLimit) hscene⟩
    · have hscene : bootScene s.store (bootSettings s.store).setList = _ :=
        (congrArg (bootScene s.store) hlist).trans (bootScene_bad hbad rest)
      exact ⟨congrArg (·.active) hscene, congrArg (·.page) hscene,
        (congrArg (fun b : BootScene => flags.change || b.failed) hscene).trans (Bool.or_true _),
        congrArg (fun b : BootScene => min b.repairs Config.counterLimit) hscene, congrArg (·.outcome) hscene⟩

end Boot

/-- R171, R137: without a GOOD settings page there are the defaults, no set list and no fetch. -/
theorem BootedFrom.unloaded {before : Bool} {t : State} (h : BootedFrom before t)
    (hclass : t.store.classes[(64 : Page)] ≠ .good) :
    t.settings = Settings.default ∧ t.change.active = emptyScene ∧ t.change.outcome = .noSet
      ∧ t.status.change = before ∧ t.status.fetchRepairs = 0 := by
  obtain ⟨hsettings, -, -, -, -, -, -, -, -, -, -, -, -, -, -, -, -, -, hempty, -⟩ := h
  have hdefault : t.settings = Settings.default := hsettings.trans (if_neg hclass)
  obtain ⟨hactive, houtcome, -, hchange, hrepairs⟩ := hempty (congrArg Settings.setList hdefault)
  exact ⟨hdefault, hactive, houtcome, hchange, hrepairs⟩

/-- R56, R171: without a GOOD curve page every curve is the straight line. -/
theorem BootedFrom.straight {before : Bool} {t : State} (h : BootedFrom before t)
    (hclass : t.store.classes[(65 : Page)] ≠ .good) (n : Fin 15) (j : Fin 129) :
    t.curves[n][j] = min (8 * j.val) 1023 := by
  obtain ⟨-, -, hcurves, -⟩ := h
  rw [hcurves, if_neg hclass]
  exact straightCurves_point n j

/-- R170: the part that has just been classified, before its sequence is made. -/
def classified (s : State) : State :=
  modifyStore (fun st => { st with classes := classifyAll s.store }) (s.setNow 0)

theorem classified_store (s : State) : (classified s).store = { s.store with classes := classifyAll s.store } := rfl

/-- R170: power applied to a part without power. -/
theorem doPowerUp_unpowered {s : State} (h : s.power = false) :
    doPowerUp s = boot (Vector.replicate 8 .fresh) (classifiedFlags (classifyAll s.store)) (classified s) := by
  unfold doPowerUp
  rw [if_neg (by simp [h])]
  rfl

/-- R151, R153, R165, R167: the store after a power-up. -/
theorem doPowerUp_store {s : State} (h : s.power = false) :
    (doPowerUp s).store = bootStore { s.store with classes := classifyAll s.store } := by
  rw [doPowerUp_unpowered h, boot_store, classified_store]

/-- R139, R149: the contacts after a power-up. -/
theorem doPowerUp_pedals {s : State} (h : s.power = false) : (doPowerUp s).pedals = bootPedals s.pedals 0 := by
  rw [doPowerUp_unpowered h, boot_pedals]
  rfl

theorem doPowerUp_cells {s : State} (h : s.power = false) : (doPowerUp s).store.cells = s.store.cells := by
  rw [doPowerUp_store h]
  simp only [bootStore]

/-- R151: the class of a page after a power-up. -/
theorem doPowerUp_class {s : State} (h : s.power = false) (p : Page) :
    (doPowerUp s).store.classes[p] = classify p s.store.cutMarks[p] (s.store.image p) := by
  rw [doPowerUp_store h]
  exact classifyAll_getElem s.store p

/-- R170: what stands whatever the pages hold. -/
theorem doPowerUp_stands {s : State} (h : s.power = false) :
    let t := doPowerUp s
    t.power = true ∧ t.held = Held.empty ∧ t.tempo.clock = .stopped ∧ t.change.state = .idle ∧ t.change.queue = []
      ∧ t.change.cursorEntry = 1 ∧ t.change.cursorScene = 1 ∧ t.change.origin = none ∧ t.service = Service.fresh
      ∧ t.now = 0 ∧ t.status.link = false ∧ t.status.overrun = false := by
  dsimp only
  rw [doPowerUp_unpowered h]
  exact ⟨rfl, rfl, rfl, rfl, rfl, rfl, rfl, rfl, rfl, boot_now .., rfl, rfl⟩

/-- R186: the STORE flag after a power-up. -/
theorem doPowerUp_storeFlag {s : State} (h : s.power = false) :
    (doPowerUp s).status.store = true ↔ ∃ p : Page, (doPowerUp s).store.classes[p] = .damaged := by
  rw [doPowerUp_store h, doPowerUp_unpowered h, boot_storeFlag]
  exact classifiedFlags_store (classifyAll s.store)

/-- R12, R17: the ports after a power-up. -/
theorem doPowerUp_port {s : State} (h : s.power = false) (p : Port) :
    (doPowerUp s).link.receivers[p] = .sync ∧ (doPowerUp s).link.outs[p] = OutPort.fresh := by
  rw [doPowerUp_unpowered h, boot_outs]
  exact ⟨boot_receiver .., by simp⟩

theorem doPowerUp_bootedFrom {s : State} (h : s.power = false) : BootedFrom false (doPowerUp s) := by
  rw [doPowerUp_unpowered h]
  exact boot_bootedFrom _ (classifiedFlags (classifyAll s.store)) _

end Sys2Proof.Machine

namespace Sys2Proof
open Machine

/-- Settles O51: the page cut off by `cutOff_otherPage`, the classes by `classify_written`, and what is loaded by
`boot_bootedFrom`. -/
theorem powerLossAndPowerUp : Obligations.PowerLossAndPowerUp := by
  refine ⟨fun torn s hpower => ⟨_, powered_of_power hpower, rfl,
    fun p hcut => cutOff_mark torn (cutPage?_eq_some.mpr hcut),
    fun q hq => cutOff_otherPage torn fun hcut => hq (cutPage?_eq_some.mp hcut)⟩, fun s hpower => ?_⟩
  have hstore := doPowerUp_store hpower
  have hpedals := doPowerUp_pedals hpower
  have hclass := doPowerUp_class hpower
  have hbooted := doPowerUp_bootedFrom hpower
  obtain ⟨hon, hheld, hclock, hidle, hqueue, hentry, hscene, horigin, hservice, hnow, hlink, hoverrun⟩ :=
    doPowerUp_stands hpower
  refine ⟨_, rfl, hon, doPowerUp_cells hpower, fun p => ⟨fun hmark => ?_, fun hmark hblank hinv => ?_,
    fun hmark hwritten hinv => ?_⟩, doPowerUp_storeFlag hpower, hlink, hoverrun, hbooted, hbooted.unloaded,
    hbooted.straight, fun p => ?_, congrArg Store.lock hstore, congrArg Store.operation hstore,
    congrArg Store.lastOutcome hstore, fun a => congrArg (fun st => Memory.read st.buffer a) hstore, hheld, hclock,
    hidle, hqueue, hentry, hscene, horigin, hservice, doPowerUp_port hpower, hnow, fun i => ?_,
    congrArg Pedals.showLock hpedals⟩
  · rw [hclass, hmark]
    rfl
  · rw [hclass, hmark, classify_blank hinv hblank]
  · rw [hclass, hmark, classify_written hinv hwritten]
  · rw [hstore]
    simp [bootStore]
  · rw [hpedals]
    simp [bootPedals, Debouncer.fresh]

end Sys2Proof

end

section
/-! SUPPORT. The service unit's own commands (R16, R97, R115, R131, R174, R176, R180): the waiting place that is served
next, and the requests that name nothing. -/

namespace Sys2Proof.Machine

/-! ### The waiting place served next (R174) -/

theorem turnOf_of_distance {pointer p : Port} {n : Nat} (hn : n < 8) (hp : p.val = (pointer.val + 1 + n) % 8) :
    turnOf pointer p = n := by
  unfold turnOf
  omega

theorem val_eq_distance_turnOf (pointer p : Port) : p.val = (pointer.val + 1 + turnOf pointer p) % 8 :=
  (congrArg Fin.val (portOfTurn pointer p (Nat.mod_lt _ (by decide)))).symm

theorem nextServed?_of_distance {u : Service} {p : Port} {w : Waiting} {n : Nat} (hn : n < 8)
    (hp : p.val = (u.pointer.val + 1 + n) % 8) (hplace : u.places[p] = some w)
    (hbefore : ∀ m (q : Port), m < n → q.val = (u.pointer.val + 1 + m) % 8 → u.places[q] = none) :
    nextServed? u = some p := by
  refine nextServed_of_first hplace fun q hq => hbefore _ q ?_ (val_eq_distance_turnOf u.pointer q)
  rwa [turnOf_of_distance hn hp] at hq

theorem nextServed?_eq_none {u : Service} (h : ∀ p : Port, u.places[p] = none) : nextServed? u = none := by
  unfold nextServed?
  rw [List.find?_eq_none]
  intro p _
  rw [h p]
  decide

/-- R174: a unit that is not free, or for which nothing waits, takes nothing. -/
theorem serviceTake_nothing {s : State}
    (h : s.service.busy ≠ none ∨ s.service.restart ≠ .none ∨ ∀ p : Port, s.service.places[p] = none) :
    serviceTake s = s := by
  unfold serviceTake
  split
  · next hfree =>
    obtain ⟨hbusy, hrestart⟩ := (serviceFree_iff s).mp hfree
    rw [nextServed?_eq_none ((h.resolve_left (not_not.mpr hbusy)).resolve_left (not_not.mpr hrestart))]
  · rfl

/-- The part with the waiting place of a port emptied. -/
def placeEmptied (p : Port) (s : State) : State :=
  s.setService { s.service with places := s.service.places.set p none }

/-- R174: a free unit takes the request out of the place served next. -/
theorem serviceTake_next {s : State} {p : Port} {w : Waiting} (hbusy : s.service.busy = none)
    (hrestart : s.service.restart = .none) (hnext : nextServed? s.service = some p)
    (hplace : s.service.places[p] = some w) :
    serviceTake s
      = takeRequest p w.unit w.tag w.code (performBytes w.code w.params) (placeEmptied p s) := by
  unfold serviceTake
  rw [if_pos ((serviceFree_iff s).mpr ⟨hbusy, hrestart⟩), hnext]
  dsimp only
  rw [hplace]
  rfl

theorem exec_serviceTake {s : State} (moment : Nat) (hpower : s.power = true) :
    exec (.serviceTake moment) s = .next (serviceTake (advanceTo moment s)) :=
  powered_of_power (f := fun s => serviceTake (advanceTo moment s)) hpower

/-! ### Requests that fit no form or name nothing (R97, R115, R131, R176, R180) -/

theorem halves_of_even (bytes : List Byte) (heven : bytes.length % 2 = 0) :
    ∃ values, halves bytes = some values ∧ 2 * values.length = bytes.length := by
  induction bytes using halves.induct with
  | case1 => exact ⟨[], rfl, rfl⟩
  | case2 b => cases heven
  | case3 b c rest ih =>
    obtain ⟨values, hvalues, hlength⟩ := ih (by simp only [List.length_cons] at heven; omega)
    refine ⟨half b c :: values, by rw [halves, hvalues]; rfl, ?_⟩
    simp only [List.length_cons]
    omega

theorem performBytes_of_parsed {code : Byte} {params : List Byte} {r : Request}
    (hparsed : parseRequest code params = some r) (hform : r.formOk = true) : performBytes code params = perform r := by
  unfold performBytes checkedForm
  rw [hparsed]
  exact if_pos hform

/-- R176: a request whose code or parameter length fits no form. -/
theorem performBytes_malformed {code : Byte} {params : List Byte}
    (h : parseRequest code params = none ∨ ∃ r, parseRequest code params = some r ∧ r.formOk = false) :
    performBytes code params = refuse .malformed := by
  unfold performBytes checkedForm
  rcases h with hnone | ⟨r, hparsed, hform⟩
  · rw [hnone]
  · rw [hparsed]
    exact if_neg (by rw [hform]; decide)

theorem opClick_unknown {action : Byte} (h : action.toNat = 0 ∨ 3 < action.toNat) (s : State) :
    opClick action s = refuse .range s := by
  unfold opClick
  split <;> [omega; omega; omega; rfl]

theorem opChange_unknown {kind : Byte} (h : kind.toNat = 0 ∨ 6 < kind.toNat) (number : Byte) (s : State) :
    opChange kind number s = refuse .range s := by
  unfold opChange
  split <;> [omega; omega; omega; omega; omega; omega; rfl]

theorem opAdjust_unknown {item : Byte} (h : item.toNat = 0 ∨ 7 < item.toNat) (target : Byte) (value : Half)
    (s : State) : opAdjust item target value s = refuse .range s := by
  unfold opAdjust
  split <;> [omega; omega; omega; omega; omega; omega; omega; rfl]

theorem opWriteSetting_unknown {item : Byte} (h : item.toNat = 0 ∨ 7 < item.toNat) (index start : Byte)
    (values : List Half) (s : State) : opWriteSetting item index start values s = refuse .range s := by
  unfold opWriteSetting
  split <;> [omega; omega; omega; omega; omega; omega; omega; rfl]

/-- R97, R115, R131, R180: a request that fits its form and whose first parameter names nothing. -/
theorem performBytes_unknownItem {code : Byte} {params : List Byte} (h : UnknownItem code params) (s : State) :
    performBytes code params s = refuse .range s := by
  rcases h with ⟨rfl, hlength, hfirst⟩ | ⟨rfl, hlength, hfirst⟩ | ⟨rfl, hlength, hfirst⟩ |
    ⟨rfl, hmin, hodd, hmax, hfirst⟩
  · obtain ⟨action, rfl⟩ := List.length_eq_one_iff.mp hlength
    rw [performBytes_of_parsed (r := .click action) rfl rfl]
    exact opClick_unknown hfirst s
  · obtain ⟨kind, number, rfl⟩ := List.length_eq_two.mp hlength
    rw [performBytes_of_parsed (r := .change kind number) rfl rfl]
    exact opChange_unknown hfirst number s
  · match params, hlength with
    | [item, target, high, low], _ =>
      rw [performBytes_of_parsed (r := .adjust item target (half high low)) rfl rfl]
      exact opAdjust_unknown hfirst target _ s
  · match params, hmin with
    | item :: index :: start :: bytes, hmin =>
      rw [List.length_cons, List.length_cons, List.length_cons] at hmin hodd hmax
      obtain ⟨values, hvalues, hlength⟩ := halves_of_even bytes (by omega)
      have hparsed : parseRequest 0x11#8 (item :: index :: start :: bytes)
          = some (.writeSetting item index start values) :=
        congrArg (Option.map (Request.writeSetting item index start)) hvalues
      have hform : (Request.writeSetting item index start values).formOk = true := by
        simp only [Request.formOk, Bool.and_eq_true, decide_eq_true_eq]
        omega
      rw [performBytes_of_parsed hparsed hform]
      exact opWriteSetting_unknown hfirst index start values s

theorem exec_requestMalformed {h : Head} {code : Byte} {params : List Byte} {s : State} {o : Outcome}
    (hready : Ready h s) (hop : performBytes code params s = refuse o s) (ho : o ≠ .ok) :
    exec (.requestMalformed h code params) s = .next (replied h code o [] s) := by
  have hmoment : momentOf (.requestMalformed h code params) = 0 := rfl
  rw [exec_row_ready rfl hready, hmoment, advanceTo_zero, hop, answered_eq_replied (.inr ho)]
  rfl

end Sys2Proof.Machine

namespace Sys2Proof
open Machine

/-- Settles O26: what the unit takes is decided by `nextServed?`, and what it does with it by `takeRequest`; a request
row is its request in bytes (`exec_row_ready`). -/
theorem serviceTake : Obligations.ServiceTake := by
  refine ⟨fun moment s hpower => ⟨fun hnothing => ?_, fun p w n hbusy hrestart hn hp hplace hbefore => ?_⟩,
    fun c h code params s hrow hready => exec_row_ready hrow hready, fun s hpower => powered_of_power hpower,
    fun h code params s hready => ⟨fun hform => ?_, fun hunknown => ⟨performBytes_unknownItem hunknown s, ?_⟩⟩⟩
  · rw [exec_serviceTake moment hpower, serviceTake_nothing (s := advanceTo moment s) hnothing]
    rfl
  · have htake := serviceTake_next (s := advanceTo moment s) hbusy hrestart
      (nextServed?_of_distance hn hp hplace hbefore) hplace
    rw [exec_serviceTake moment hpower, htake]
    refine ⟨fun hfull => ?_, fun hroom => ?_⟩
    · exact congrArg Host.Outcome.next (takeRequest_of_full (s := placeEmptied p (advanceTo moment s)) hfull)
    · exact congrArg Host.Outcome.next (takeRequest_answered (s := placeEmptied p (advanceTo moment s)) hroom)
  · exact exec_requestMalformed hready (congrFun (performBytes_malformed hform) s) (by decide)
  · exact exec_requestMalformed hready (performBytes_unknownItem hunknown s) (by decide)

end Sys2Proof

end

section
/-! SUPPORT. IDENTIFY, READ STATUS and READ COUNTERS (R178, R186–R191): the three requests by their operations, and the
status record byte by byte. -/

namespace Sys2Proof.Machine

/-! ### The requests (R178, R188, R190) -/

theorem clearFlags_zero (f : Status) : clearFlags 0#8 f = f := by
  simp [clearFlags]

theorem opReadStatus_range {clear : Byte} (h : 16 ≤ clear.toNat) (s : State) :
    opReadStatus (some clear) s = refuse .range s := if_pos h

theorem opReadStatus_clears {clear : Byte} (h : ¬16 ≤ clear.toNat) (s : State) :
    opReadStatus (some clear) s
      = (s.setStatus (clearFlags clear s.status), { outcome := .ok, data := statusRecord s }) := if_neg h

/-- R190: the selector of a port. -/
theorem selector?_of_port {n : Nat} {p : Port} (h : n = p.val + 1) : selector? n = some (some p) := by
  subst h
  exact congrArg (Option.map some) (portOfNat?_of_eq rfl)

theorem selector?_of_above {n : Nat} (h : 8 < n) : selector? n = none := by
  obtain ⟨m, rfl⟩ := Nat.exists_eq_add_one_of_ne_zero (Nat.ne_zero_of_lt h)
  exact congrArg (Option.map some) (portOfNat?_of_out (.inr h))

theorem opReadCounters_range {selector clear : Byte} (h : 8 < selector.toNat ∨ 1 < clear.toNat) (s : State) :
    opReadCounters selector clear s = refuse .range s := by
  unfold opReadCounters
  rcases h with h | h
  · rw [selector?_of_above h]
  · rw [natBool?_of_above h]
    cases selector? selector.toNat <;> rfl

/-- R190: the counters of a selector, and those counters at 0 where the option is on. -/
theorem opReadCounters_of_selector {selector clear : Byte} {port : Option Port}
    (hport : selector? selector.toNat = some port) (hclear : clear.toNat ≤ 1) (s : State) :
    opReadCounters selector clear s
      = (if clear = 1#8 then s.setStatus (clearCounters port s.status) else s,
          { outcome := .ok, data := (countersOf port s.status).flatMap natBytes }) := by
  unfold opReadCounters
  rw [hport, natBool?_of_byte hclear]
  simp only [beq_iff_eq]

section Ready
variable {h : Head} {s : State} (hready : Ready h s)
include hready

theorem exec_readStatus_ready {clear : Option Byte} {t : State} {o : Outcome} {data : List Byte}
    (hop : opReadStatus clear s = (t, { outcome := o, data := data })) :
    exec (.readStatus h clear) s = .next (replied h 0x02#8 o data t) :=
  exec_performed (r := .readStatus clear) (by cases clear <;> rfl) rfl hready rfl
    (show (0x02#8 : Byte) ≠ restartCode by decide) hop

theorem exec_readCounters_ready {selector clear : Byte} {t : State} {o : Outcome} {data : List Byte}
    (hop : opReadCounters selector clear s = (t, { outcome := o, data := data })) :
    exec (.readCounters h selector clear) s = .next (replied h 0x03#8 o data t) :=
  exec_performed (r := .readCounters selector clear) rfl rfl hready rfl
    (show (0x03#8 : Byte) ≠ restartCode by decide) hop

end Ready

/-! ### The bytes of the status record (R191, spec 11, 11.3) -/

theorem natByte_boolNat (b : Bool) : natByte (boolNat b) = if b then 1#8 else 0#8 := by cases b <;> rfl

theorem storeByte_storeState (s : State) :
    storeByte s.storeState = match s.store.operation with
      | none => 0#8
      | some op =>
        if op.suspended then 4#8
        else match op.kind with
          | .load _ | .keepLoad _ => 1#8
          | .commit _ | .keepCommit _ => 2#8
          | .clear _ => 3#8 := by
  unfold State.storeState
  cases s.store.operation with
  | none => rfl
  | some op =>
    obtain ⟨kind, begun, suspended⟩ := op
    cases suspended with
    | true => rfl
    | false => cases kind <;> rfl

theorem natByte_switchOn (s : State) :
    natByte (boolNat s.switchOn) = if s.pedals.showLock.settled = some .opened then 0#8 else 1#8 := by
  unfold State.switchOn
  rcases s.pedals.showLock.settled with _ | level
  · rfl
  · cases level <;> rfl

/-- Each port's bit of a byte made of one bit per port. -/
theorem byteOfPorts_getLsbD (f : Port → Bool) (p : Port) : (byteOfPorts f).getLsbD p.val = f p := by
  let flag (n : Nat) : Bool := if h : n < 8 then f ⟨n, h⟩ else false
  have hbyte : byteOfPorts f = BitVec.ofNat 8 (flagSum flag 8) := rfl
  have hflag : flag p.val = f p := dif_pos p.isLt
  rw [hbyte, BitVec.getLsbD_ofNat, flagSum_testBit flag p.isLt, hflag, decide_eq_true p.isLt, Bool.true_and]

/-- R191: each flag is its bit of the flags byte. -/
theorem flagsByte_bits : ∀ link overrun store change : Bool,
    let b := natByte (boolNat link + 2 * boolNat overrun + 4 * boolNat store + 8 * boolNat change)
    b.getLsbD 0 = link ∧ b.getLsbD 1 = overrun ∧ b.getLsbD 2 = store ∧ b.getLsbD 3 = change := by
  decide

/-- R187: FAULT is high while a flag is set. -/
theorem faultOutput_iff (s : State) :
    s.faultOutput = true
      ↔ s.status.link = true ∨ s.status.overrun = true ∨ s.status.store = true ∨ s.status.change = true := by
  simp only [State.faultOutput, Bool.or_eq_true, or_assoc]

end Sys2Proof.Machine

namespace Sys2Proof
open Machine

/-- Settles O27: the requests by their operations, the status record entry by entry of its list. -/
theorem identifyAndStatus : Obligations.IdentifyAndStatus := by
  refine ⟨fun h s hready => ⟨?_, ?_, fun c => ?_, fun sel clear hout => ?_, fun clear hclear => ?_,
    fun p sel clear hsel hclear => ?_⟩, fun s r hr => ?_⟩
  · exact exec_performed (r := .identify) rfl rfl hready rfl (show (0x01#8 : Byte) ≠ restartCode by decide) rfl
  · refine exec_readStatus_ready hready ?_
    show (s.setStatus (clearFlags 0#8 s.status), _) = _
    rw [clearFlags_zero]
    rfl
  · split
    · next hrange => exact exec_readStatus_ready hready (opReadStatus_range hrange s)
    · next hclears => exact exec_readStatus_ready hready (opReadStatus_clears hclears s)
  · exact exec_readCounters_ready hready (opReadCounters_range hout s)
  · exact exec_readCounters_ready hready (opReadCounters_of_selector (port := none) rfl hclear s)
  · exact exec_readCounters_ready hready (opReadCounters_of_selector (selector?_of_port hsel) hclear s)
  · subst hr
    obtain ⟨hlink, hoverrun, hstore, hchange⟩ :=
      flagsByte_bits s.status.link s.status.overrun s.status.store s.status.change
    refine ⟨rfl, ?_, rfl, rfl, rfl, natByte_boolNat _, ?_, ?_, storeByte_storeState s, ?_, natByte_boolNat _,
      natByte_switchOn s, ?_, half_hiByte_loByte _, rfl, half_hiByte_loByte _, rfl, rfl, half_hiByte_loByte _, rfl,
      byteOfPorts_getLsbD s.muted, hlink, hoverrun, hstore, hchange, faultOutput_iff s⟩
    · show controllerByte s.change.state = _
      cases s.change.state <;> rfl
    · show (changeOutcomeCode s.change.outcome).code = _
      cases s.change.outcome <;> rfl
    · show originByte s.change.origin = _
      rcases s.change.origin with _ | origin
      · rfl
      · cases origin <;> rfl
    · show (storeOutcomeCode s.store.lastOutcome).code = _
      cases s.store.lastOutcome <;> rfl
    · show clockByte s.tempo.clock = _
      cases s.tempo.clock <;> rfl

end Sys2Proof

end

section
/-! SUPPORT. WRITE SETTING of a port record, a feed record, the unit number and the tempo source (R11, R21, R84, R102,
R172, R179–R181). Each field of a record is a number within bounds or a code that names one thing, so values make a
record exactly where each lies in its range. -/

namespace Sys2Proof.Machine

/-! ### Codes (R179) -/

/-- A code that is read back names one thing. -/
theorem eq_iff_code_of_read {α : Type} {of? : Nat → Option α} {code : α → Nat}
    (hread : ∀ {n x}, of? n = some x ↔ n = code x) {x y : α} : x = y ↔ code x = code y := by
  rw [← hread, hread.mpr rfl, Option.some_inj]

theorem roleOfNat?_eq_some {n : Nat} {x : Role} : roleOfNat? n = some x ↔ n = x.code := by
  constructor
  · unfold roleOfNat?
    split <;> rintro ⟨⟩ <;> rfl
  · rintro rfl
    cases x <;> rfl

theorem roleOfNat?_eq_none : ∀ {n : Nat}, roleOfNat? n = none ↔ 2 < n
  | 0 | 1 | 2 => by decide
  | _ + 3 => iff_of_true rfl (by omega)

theorem fillOfNat?_eq_some {n : Nat} {x : Fill} : fillOfNat? n = some x ↔ n = x.code := by
  constructor
  · unfold fillOfNat?
    split <;> rintro ⟨⟩ <;> rfl
  · rintro rfl
    cases x <;> rfl

theorem fillOfNat?_eq_none : ∀ {n : Nat}, fillOfNat? n = none ↔ 1 < n
  | 0 | 1 => by decide
  | _ + 2 => iff_of_true rfl (by omega)

theorem formOfNat?_eq_some {n : Nat} {x : Form} : formOfNat? n = some x ↔ n = formCode x := by
  constructor
  · unfold formOfNat?
    split <;> rintro ⟨⟩ <;> rfl
  · rintro rfl
    cases x <;> rfl

theorem formOfNat?_eq_none : ∀ {n : Nat}, formOfNat? n = none ↔ 1 < n
  | 0 | 1 => by decide
  | _ + 2 => iff_of_true rfl (by omega)

theorem overrideOfNat?_eq_some {n : Nat} {x : Override} : overrideOfNat? n = some x ↔ n = x.code := by
  constructor
  · unfold overrideOfNat?
    split <;> rintro ⟨⟩ <;> rfl
  · rintro rfl
    cases x <;> rfl

theorem overrideOfNat?_eq_none : ∀ {n : Nat}, overrideOfNat? n = none ↔ 2 < n
  | 0 | 1 | 2 => by decide
  | _ + 3 => iff_of_true rfl (by omega)

theorem tempoSourceOfNat?_eq_some {n : Nat} {x : TempoSource} : tempoSourceOfNat? n = some x ↔ n = x.code := by
  constructor
  · unfold tempoSourceOfNat?
    split <;> rintro ⟨⟩ <;> rfl
  · rintro rfl
    cases x <;> rfl

theorem tempoSourceOfNat?_eq_none : ∀ {n : Nat}, tempoSourceOfNat? n = none ↔ 1 < n
  | 0 | 1 => by decide
  | _ + 2 => iff_of_true rfl (by omega)

theorem natBool?_eq_some {n : Nat} {b : Bool} : natBool? n = some b ↔ n = boolNat b := by
  constructor
  · unfold natBool?
    split <;> rintro ⟨⟩ <;> rfl
  · rintro rfl
    cases b <;> rfl

theorem natBool?_eq_none : ∀ {n : Nat}, natBool? n = none ↔ 1 < n
  | 0 | 1 => by decide
  | _ + 2 => iff_of_true rfl (by omega)

/-! ### Numbers within bounds (R179) -/

theorem within?_eq_none {lo hi n : Nat} : within? lo hi n = none ↔ n < lo ∨ hi < n := by
  simp only [within?, ite_eq_right_iff, reduceCtorEq, imp_false]
  omega

theorem portOfNat?_eq_none {n : Nat} : portOfNat? n = none ↔ n = 0 ∨ 8 < n := by
  simp only [portOfNat?, dite_eq_right_iff, reduceCtorEq, imp_false]
  omega

/-- The number of a pass port field: 0 for none (spec 11, 11.4). -/
def passNumber : Option Port → Nat
  | none => 0
  | some p => p.val + 1

theorem passOfNat?_succ (n : Nat) : passOfNat? (n + 1) = (portOfNat? (n + 1)).map some := rfl

theorem passOfNat?_eq_some {n : Nat} {x : Option Port} : passOfNat? n = some x ↔ n = passNumber x := by
  cases n with
  | zero => cases x <;> simp [passOfNat?, passNumber]
  | succ n => cases x <;> simp [passOfNat?_succ, passNumber, portOfNat?_eq_some]

theorem passOfNat?_eq_none {n : Nat} : passOfNat? n = none ↔ 8 < n := by
  cases n with
  | zero => decide
  | succ n =>
    rw [passOfNat?_succ, Option.map_eq_none_iff, portOfNat?_eq_none]
    omega

/-! ### Records of five fields (R11, R21, R102, R179) -/

/-- A field refused refuses the record; otherwise the rest decides. -/
theorem bind_eq_none_iff_or {α β : Type} {o : Option α} {f : α → Option β} {rest : Prop}
    (h : ∀ x, f x = none ↔ rest) : o.bind f = none ↔ o = none ∨ rest := by
  cases o with
  | none => simp
  | some x => simp [h]

theorem bind_some_eq_none_iff {α β : Type} {o : Option α} (f : α → β) :
    (o.bind fun x => some (f x)) = none ↔ o = none := by
  cases o <;> simp

theorem inboundOfFields?_eq_none {role pass fill select accept : Nat} :
    inboundOfFields? [role, pass, fill, select, accept] = none
      ↔ 2 < role ∨ 8 < pass ∨ 1 < fill ∨ 1 < select ∨ 1 < accept := by
  rw [← roleOfNat?_eq_none, ← passOfNat?_eq_none, ← fillOfNat?_eq_none, ← natBool?_eq_none, ← natBool?_eq_none]
  exact bind_eq_none_iff_or fun _ => bind_eq_none_iff_or fun _ => bind_eq_none_iff_or fun _ =>
    bind_eq_none_iff_or fun _ => bind_some_eq_none_iff _

theorem outboundOfFields?_eq_none {form pacing settle tick mode : Nat} :
    outboundOfFields? [form, pacing, settle, tick, mode] = none
      ↔ 1 < form ∨ 15 < pacing ∨ 255 < settle ∨ 1 < tick ∨ 8 < mode := by
  have hbounds (hi n : Nat) : within? 0 hi n = none ↔ hi < n := within?_eq_none.trans (or_iff_right (Nat.not_lt_zero n))
  rw [← formOfNat?_eq_none, ← hbounds 15, ← hbounds 255, ← natBool?_eq_none, ← hbounds 8]
  exact bind_eq_none_iff_or fun _ => bind_eq_none_iff_or fun _ => bind_eq_none_iff_or fun _ =>
    bind_eq_none_iff_or fun _ => bind_some_eq_none_iff _

theorem feedOfFields?_eq_none {enabled dest subdivision lead override : Nat} :
    feedOfFields? [enabled, dest, subdivision, lead, override] = none
      ↔ 1 < enabled ∨ (dest = 0 ∨ 8 < dest) ∨ (subdivision < 1 ∨ 4 < subdivision) ∨ (lead < 0 ∨ 63 < lead)
        ∨ 2 < override := by
  rw [← natBool?_eq_none, ← portOfNat?_eq_none, ← within?_eq_none, ← within?_eq_none, ← overrideOfNat?_eq_none]
  exact bind_eq_none_iff_or fun _ => bind_eq_none_iff_or fun _ => bind_eq_none_iff_or fun _ =>
    bind_eq_none_iff_or fun _ => bind_some_eq_none_iff _

/-- R11, R179: an inbound record holds the values it is made of. -/
theorem fields_of_inboundOfFields? {role pass fill select accept : Nat} {r : InboundRecord}
    (h : inboundOfFields? [role, pass, fill, select, accept] = some r) :
    r.fields = [role, pass, fill, select, accept] := by
  simp only [inboundOfFields?, bind, pure, Option.bind_eq_some_iff, roleOfNat?_eq_some, passOfNat?_eq_some,
    fillOfNat?_eq_some, natBool?_eq_some, Option.some.injEq] at h
  obtain ⟨role, rfl, pass, rfl, fill, rfl, select, rfl, accept, rfl, rfl⟩ := h
  rfl

/-- R21, R179: an outbound record holds the values it is made of. -/
theorem fields_of_outboundOfFields? {form pacing settle tick mode : Nat} {r : OutboundRecord}
    (h : outboundOfFields? [form, pacing, settle, tick, mode] = some r) :
    r.fields = [form, pacing, settle, tick, mode] := by
  simp only [outboundOfFields?, bind, pure, Option.bind_eq_some_iff, formOfNat?_eq_some, within?_eq_some,
    natBool?_eq_some, Option.some.injEq] at h
  obtain ⟨form, rfl, pacing, ⟨-, rfl⟩, settle, ⟨-, rfl⟩, tick, rfl, mode, ⟨-, rfl⟩, rfl⟩ := h
  rfl

/-- R102, R179: a feed record holds the values it is made of. -/
theorem fields_of_feedOfFields? {enabled dest subdivision lead override : Nat} {r : FeedRecord}
    (h : feedOfFields? [enabled, dest, subdivision, lead, override] = some r) :
    r.fields = [enabled, dest, subdivision, lead, override] := by
  simp only [feedOfFields?, bind, pure, Option.bind_eq_some_iff, natBool?_eq_some, portOfNat?_eq_some, within?_eq_some,
    overrideOfNat?_eq_some, Option.some.injEq] at h
  obtain ⟨enabled, rfl, dest, rfl, subdivision, ⟨-, rfl⟩, lead, ⟨-, rfl⟩, override, rfl, rfl⟩ := h
  rfl

/-! ### Rows of WRITE SETTING (R180, R181) -/

section Rows
variable {c : Instr} {h : Head} (item : Byte) {index start : Byte} {values : List Half} {s : State}
  (hc : requestOf c = some (h, 0x11#8, item :: index :: start :: halfBytes values)) (hmoment : momentOf c = 0)
  (hready : Ready h s) (hone : 1 ≤ values.length) (hlength : values.length ≤ 27)
include hc hmoment hready hone hlength

theorem exec_writeSetting {t : State} {o : Outcome} {data : List Byte}
    (hop : opWriteSetting item index start values s = (t, { outcome := o, data := data })) :
    exec c s = .next (replied h 0x11#8 o data t) :=
  exec_performed (r := .writeSetting item index start values) hc hmoment hready
    (by simp [Request.formOk, hone, hlength]) (show (0x11#8 : Byte) ≠ restartCode by decide) hop

/-- R180: an index that names no record of the item. -/
theorem exec_writeSetting_absent (hop : opWriteSetting item index start values s = refuse .range s) :
    exec c s = .next (replied h 0x11#8 .range [] s) :=
  exec_writeSetting item hc hmoment hready hone hlength hop

/-- R180, R181: a record of any item, under the rules of all of them. -/
theorem exec_writeSetting_record {α : Type} {of? : List Nat → Option α} {fieldsOf : α → List Nat}
    {write : α → State → State} {old : α}
    (hop : opWriteSetting item index start values s = writeRecord of? fieldsOf write old start values s) :
    exec c s = .next (settingWritten h of? fieldsOf old (fun r => write r s) start values s) := by
  rw [← replied_writeRecord, ← hop]
  exact exec_writeSetting item hc hmoment hready hone hlength rfl

end Rows

/-! ### The records written (R11, R21, R84, R102, R172) -/

section Port
variable {index : Byte} (start : Byte) (values : List Half) (s : State)

section Present
variable {i : Port} (hindex : index.toNat = i.val + 1)
include hindex

theorem opWriteInbound_present :
    opWriteInbound index start values s
      = writeRecord inboundOfFields? InboundRecord.fields (writeInbound i) s.settings.inbound[i] start values s := by
  unfold opWriteInbound
  rw [portOfNat?_of_eq hindex]

theorem opWriteOutbound_present :
    opWriteOutbound index start values s
      = writeRecord outboundOfFields? OutboundRecord.fields (writeOutbound i) s.settings.outbound[i] start values
          s := by
  unfold opWriteOutbound
  rw [portOfNat?_of_eq hindex]

theorem opWriteFeed_present :
    opWriteFeed index start values s
      = writeRecord feedOfFields? FeedRecord.fields (writeFeed i) s.settings.feeds[i] start values s := by
  unfold opWriteFeed
  rw [portOfNat?_of_eq hindex]

end Present

section Absent
variable (hindex : index.toNat = 0 ∨ 8 < index.toNat)
include hindex

theorem opWriteInbound_absent : opWriteInbound index start values s = refuse .range s := by
  unfold opWriteInbound
  rw [portOfNat?_of_out hindex]

theorem opWriteOutbound_absent : opWriteOutbound index start values s = refuse .range s := by
  unfold opWriteOutbound
  rw [portOfNat?_of_out hindex]

theorem opWriteFeed_absent : opWriteFeed index start values s = refuse .range s := by
  unfold opWriteFeed
  rw [portOfNat?_of_out hindex]

end Absent
end Port

/-- R21: a new burst mode sets the interleave count to 0, log entry 34: the same one keeps it. -/
theorem writeOutbound_eq (i : Port) (r : OutboundRecord) (s : State) :
    writeOutbound i r s
      = { s with
          settings := { s.settings with outbound := s.settings.outbound.set i r }
          link :=
            if r.burstMode = s.settings.outbound[i].burstMode then s.link
            else { s.link with outs := s.link.outs.set i { s.link.outs[i] with interleave := 0 } } } := by
  unfold writeOutbound
  dsimp only
  split <;> rfl

theorem unitOfFields?_eq :
    unitOfFields? = fun l => match l with
      | [n] => if n ≤ 14 then some n else none
      | _ => none := by
  funext l
  match l with
  | [n] => exact if_congr (and_iff_right (Nat.zero_le n)) rfl rfl
  | [] => rfl
  | _ :: _ :: _ => rfl

theorem sourceOfFields?_eq :
    sourceOfFields? = fun l => match l with
      | [n] => tempoSourceOfNat? n
      | _ => none := by
  funext l
  match l with
  | [n] => rfl
  | [] => rfl
  | _ :: _ :: _ => rfl

end Sys2Proof.Machine

namespace Sys2Proof
open Machine

/-- Settles O28: every row is `exec_writeSetting_record` of its own record, and what makes a record is said field by
field. -/
theorem writeSettingRecords : Obligations.WriteSettingRecords := by
  have roleCode {x y : Role} : x = y ↔ x.code = y.code := eq_iff_code_of_read roleOfNat?_eq_some
  have passCode {x y : Option Port} : x = y ↔ passNumber x = passNumber y := eq_iff_code_of_read passOfNat?_eq_some
  have boolCode {x y : Bool} : x = y ↔ boolNat x = boolNat y := eq_iff_code_of_read natBool?_eq_some
  have overrideCode {x y : Override} : x = y ↔ x.code = y.code := eq_iff_code_of_read overrideOfNat?_eq_some
  have sourceCode {x y : TempoSource} : x = y ↔ x.code = y.code := eq_iff_code_of_read tempoSourceOfNat?_eq_some
  refine ⟨fun h index start values s hready hone hlength => ⟨fun hout => ⟨?_, ?_, ?_⟩, fun i hindex => ⟨?_, ?_, ?_⟩,
    fun hother => ⟨?_, ?_⟩, ?_, ?_⟩, fun role pass fill select accept => ⟨inboundOfFields?_eq_none, fun r hr => ?_⟩,
    fun form pacing settle tick mode => ⟨outboundOfFields?_eq_none, fun r hr => ?_⟩,
    fun enabled dest subdivision lead override => ⟨?_, fun r hr => ?_⟩,
    fun n => ⟨tempoSourceOfNat?_eq_none, fun x hx => ?_⟩⟩
  · exact exec_writeSetting_absent 1#8 rfl rfl hready hone hlength (opWriteInbound_absent start values s hout)
  · exact exec_writeSetting_absent 2#8 rfl rfl hready hone hlength (opWriteOutbound_absent start values s hout)
  · exact exec_writeSetting_absent 4#8 rfl rfl hready hone hlength (opWriteFeed_absent start values s hout)
  · exact exec_writeSetting_record 1#8 rfl rfl hready hone hlength (opWriteInbound_present start values s hindex)
  · rw [exec_writeSetting_record 2#8 rfl rfl hready hone hlength (opWriteOutbound_present start values s hindex)]
    simp only [writeOutbound_eq]
  · exact exec_writeSetting_record 4#8 rfl rfl hready hone hlength (opWriteFeed_present start values s hindex)
  · exact exec_writeSetting_absent 6#8 rfl rfl hready hone hlength (if_neg hother)
  · exact exec_writeSetting_absent 7#8 rfl rfl hready hone hlength (if_neg hother)
  · rw [exec_writeSetting_record 6#8 rfl rfl hready hone hlength (if_pos rfl), unitOfFields?_eq]
    rfl
  · rw [exec_writeSetting_record 7#8 rfl rfl hready hone hlength (if_pos rfl), sourceOfFields?_eq]
    rfl
  · have hfields := fields_of_inboundOfFields? hr
    simp only [InboundRecord.fields, List.cons.injEq, and_true] at hfields
    obtain ⟨rfl, rfl, rfl, rfl, rfl⟩ := hfields
    exact ⟨rfl, roleCode, roleCode, roleCode, fun p => passCode (y := some p),
      eq_iff_code_of_read fillOfNat?_eq_some, boolCode, boolCode⟩
  · have hfields := fields_of_outboundOfFields? hr
    simp only [OutboundRecord.fields, List.cons.injEq, and_true] at hfields
    obtain ⟨rfl, rfl, rfl, rfl, rfl⟩ := hfields
    exact ⟨rfl, eq_iff_code_of_read formOfNat?_eq_some, rfl, rfl, boolCode, rfl⟩
  · rw [feedOfFields?_eq_none]
    omega
  · have hfields := fields_of_feedOfFields? hr
    simp only [FeedRecord.fields, List.cons.injEq, and_true] at hfields
    obtain ⟨rfl, rfl, rfl, rfl, rfl⟩ := hfields
    exact ⟨rfl, boolCode, rfl, rfl, rfl, overrideCode, overrideCode, overrideCode⟩
  · obtain rfl := tempoSourceOfNat?_eq_some.mp hx
    exact ⟨rfl, sourceCode, sourceCode⟩

end Sys2Proof

end

section
/-! SUPPORT. READ SETTING (R179, R182): the record that an item and an index name, and the run of its fields asked
for. -/

namespace Sys2Proof.Machine

/-! ### The record named (R179) -/

theorem portOfNat?_isSome_iff {n : Nat} : (portOfNat? n).isSome = true ↔ 1 ≤ n ∧ n ≤ 8 := by
  rw [Option.isSome_iff_ne_none, ne_eq, portOfNat?_eq_none]
  omega

theorem pedalOfNat?_isSome_iff {n : Nat} : (pedalOfNat? n).isSome = true ↔ 1 ≤ n ∧ n ≤ 6 := by
  unfold pedalOfNat?
  split <;> simp <;> omega

theorem itemSlot?_isSome_iff {n : Nat} : (itemSlot? n).isSome = true ↔ 4 ≤ n ∧ n ≤ 15 := by
  unfold itemSlot? slotOfNat?
  split_ifs <;> simp <;> omega

/-- R179: the items, and the indices of each. -/
theorem settingItem?_isSome_iff (item index : Nat) :
    (settingItem? item index).isSome = true
      ↔ ((item = 1 ∨ item = 2 ∨ item = 4) ∧ 1 ≤ index ∧ index ≤ 8) ∨ (item = 3 ∧ 1 ≤ index ∧ index ≤ 6)
        ∨ (item = 5 ∧ 4 ≤ index ∧ index ≤ 15) ∨ ((item = 6 ∨ item = 7) ∧ index = 1) := by
  match item with
  | 0 => exact iff_of_false Bool.false_ne_true (by omega)
  | 1 | 2 | 4 => simp [settingItem?, portOfNat?_isSome_iff]
  | 3 => simp [settingItem?, pedalOfNat?_isSome_iff]
  | 5 => simp [settingItem?, itemSlot?_isSome_iff]
  | 6 | 7 => simp [settingItem?]
  | _ + 8 => exact iff_of_false Bool.false_ne_true (by omega)

/-! ### The fields read (R182) -/

/-- R182: a start field or a count that names no field of the record. -/
theorem opReadSetting_refused {item index start count : Byte} {s : State} {it : SettingItem}
    (hitem : settingItem? item.toNat index.toNat = some it)
    (h : start.toNat = 0 ∨ (itemFields s it).length < start.toNat ∨ count.toNat = 0) :
    opReadSetting item index start count s = refuse .range s := by
  unfold opReadSetting
  rw [hitem]
  exact if_pos h

/-- R182: the fields from the start field on, as many as there are or as are asked for. -/
theorem opReadSetting_given {item index start count : Byte} {s : State} {it : SettingItem}
    (hitem : settingItem? item.toNat index.toNat = some it)
    (h : ¬(start.toNat = 0 ∨ (itemFields s it).length < start.toNat ∨ count.toNat = 0)) :
    opReadSetting item index start count s
      = if (itemFields s it).length < start.toNat - 1 + count.toNat then
          (s, { outcome := .range
                data := BitVec.ofNat 8 ((itemFields s it).length - (start.toNat - 1))
                  :: ((itemFields s it).drop (start.toNat - 1)).flatMap natBytes })
        else
          (s, { outcome := .ok
                data := count
                  :: (((itemFields s it).drop (start.toNat - 1)).take count.toNat).flatMap natBytes }) := by
  obtain ⟨fields, hfields⟩ : ∃ fields, fields = (itemFields s it).drop (start.toNat - 1) := ⟨_, rfl⟩
  have hlength : fields.length = (itemFields s it).length - (start.toNat - 1) := by rw [hfields, List.length_drop]
  unfold opReadSetting
  rw [hitem]
  dsimp only
  rw [if_neg h, ← hfields, ← hlength, List.length_take]
  split
  · next hpast => rw [if_pos (by omega), List.take_of_length_le (by omega), Nat.min_eq_right (by omega)]; rfl
  · next hwithin =>
    rw [if_neg (by omega), Nat.min_eq_left (by omega), natByte, BitVec.ofNat_toNat, BitVec.setWidth_eq]

theorem exec_readSetting_ready {h : Head} {item index start count : Byte} {s : State} {o : Outcome} {data : List Byte}
    (hready : Ready h s) (hop : opReadSetting item index start count s = (s, { outcome := o, data := data })) :
    exec (.readSetting h item index start count) s = .next (replied h 0x10#8 o data s) :=
  exec_performed (r := .readSetting item index start count) rfl rfl hready rfl
    (show (0x10#8 : Byte) ≠ restartCode by decide) hop

end Sys2Proof.Machine

namespace Sys2Proof
open Machine

/-- Settles O29: the refusals in `opReadSetting`'s order, then the record of each item by its index. -/
theorem readSetting : Obligations.ReadSetting := by
  refine ⟨fun h item index start count s hready => ?_, fun item index => ⟨settingItem?_isSome_iff item index,
    fun s => ⟨?_, ?_, ?_, ?_, ?_⟩⟩⟩
  · cases hitem : settingItem? item.toNat index.toNat with
    | none => exact exec_readSetting_ready hready (by unfold opReadSetting; rw [hitem]; rfl)
    | some it =>
      dsimp only
      split
      · next hrefused => exact exec_readSetting_ready hready (opReadSetting_refused hitem hrefused)
      · next hgiven =>
        have hop := opReadSetting_given hitem hgiven
        split
        · next hpast => exact exec_readSetting_ready hready (hop.trans (if_pos hpast))
        · next hwithin => exact exec_readSetting_ready hready (hop.trans (if_neg hwithin))
  · intro i hindex
    have hnamed (make : Port → SettingItem) :
        ((portOfNat? index).map make).map (itemFields s) = some (itemFields s (make i)) := by
      rw [portOfNat?_of_eq hindex]
      rfl
    refine ⟨?_, ?_, ?_⟩ <;> rintro rfl
    · exact hnamed .inboundPort
    · exact hnamed .outboundPort
    · exact hnamed .feed
  · rintro i hindex rfl
    simp only [settingItem?, pedalOfNat?_of_eq hindex]
    rfl
  · rintro i hindex hfour rfl
    simp only [settingItem?, itemSlot?_of_val hfour hindex]
    rfl
  · rintro rfl rfl
    rfl
  · rintro rfl rfl
    rfl

end Sys2Proof

end

section
/-! SUPPORT. WRITE SET LIST with no pages (R114, second case; R83, R189): emptying the set list loads slots 0–3 with the
default, which counts no repair but holds the count of repairs at its limit. -/

namespace Sys2Proof.Machine

theorem opWriteSetList_empty {s : State} (hlock : s.store.lock = false) (hclock : s.tempo.clock = .stopped)
    (hidle : s.change.state = .idle) : opWriteSetList [] s = (replaceSetList [] s, bare .ok) := by
  unfold opWriteSetList
  rw [if_neg (by rw [hlock]; decide), if_neg (not_or.mpr ⟨not_not.mpr hclock, not_not.mpr hidle⟩)]
  rfl

theorem exec_writeSetList_empty {h : Head} {s : State} (hready : Ready h s) (hlock : s.store.lock = false)
    (hclock : s.tempo.clock = .stopped) (hidle : s.change.state = .idle) :
    exec (.writeSetList h []) s = .next (replied h 0x21#8 .ok [] (replaceSetList [] s)) :=
  exec_performed (r := .writeSetList []) rfl rfl hready rfl (show (0x21#8 : Byte) ≠ restartCode by decide)
    (opWriteSetList_empty hlock hclock hidle)

/-- R83, R189: the header of the empty scene has no tempo record out of range, so no repair is counted. -/
theorem replaceSetList_empty_repairs (s : State) :
    (replaceSetList [] s).status.fetchRepairs = min s.status.fetchRepairs 65535 := by
  unfold replaceSetList emptySetList
  dsimp only
  rw [loadSongSlots_eq, applyLeave_eq]
  rfl

/-- A part at work with the lock clear, whose count of fetch repairs stands above its limit: no run from reset reaches
it (`capacitiesKept`). -/
def repairsAboveLimit : State :=
  { State.reset with
    store := { State.reset.store with lock := false }
    status := { Status.fresh with fetchRepairs := 65536 } }

theorem ready_repairsAboveLimit : Ready { port := 0, unit := 0#8, tag := 0#8 } repairsAboveLimit :=
  ⟨rfl, rfl, rfl, by decide, fun q _ => by simp [repairsAboveLimit, State.reset, Service.fresh], .inl rfl⟩

end Sys2Proof.Machine

namespace Sys2Proof
open Machine

/-- Refutes O33: its states may count more fetch repairs than R189's 65535 (`Ready` says nothing of the counters), and
the model holds the count at 65535 as it loads slots 0–3, so the status is not kept. Under `CounterInv`
the count is kept (`replaceSetList_empty_repairs`). -/
theorem not_setList : ¬ Obligations.SetList := by
  rintro ⟨-, hwrite⟩
  obtain ⟨-, -, -, -, hemptied⟩ := hwrite _ [] _ ready_repairsAboveLimit (by decide)
  obtain ⟨t, hexec, -, -, -, -, -, -, -, -, -, -, -, -, -, -, -, -, -, -, -, -, -, hstatus⟩ := hemptied rfl rfl rfl rfl
  rw [exec_writeSetList_empty ready_repairsAboveLimit rfl rfl rfl] at hexec
  have hreplied := Host.Outcome.next.inj hexec
  have hrepairs : (replaceSetList [] repairsAboveLimit).status.fetchRepairs = t.status.fetchRepairs :=
    congrArg (fun x => x.status.fetchRepairs) hreplied
  rw [replaceSetList_empty_repairs, hstatus] at hrepairs
  exact absurd hrepairs (by decide)

end Sys2Proof

end

section
/-! SUPPORT. RESTART and RESTART_MADE (R184, R185): the request by the state of the store, and the part as the restart
leaves it, which is `boot` of the ports that `restartPort` empties. -/

namespace Sys2Proof.Machine

/-! ### The request (R184) -/

theorem performBytes_restart (s : State) : performBytes 0x4F#8 [] s = opRestart s := rfl

theorem exec_restart_ready {h : Head} {s : State} (hready : Ready h s) :
    exec (.restart h) s = .next (answered h 0x4F#8 (opRestart s)) := by
  have hmoment : momentOf (.restart h) = 0 := rfl
  rw [exec_row_ready rfl hready, hmoment, advanceTo_zero, performBytes_restart]

theorem opRestart_busy {s : State} (h : s.store.operation ≠ none) : opRestart s = refuse .busy s :=
  if_pos ((not_storeIdle_iff s).mpr h)

theorem opRestart_accepted {s : State} (h : s.store.operation = none) :
    opRestart s = (s.setService { s.service with restart := .accepted }, bare .ok) :=
  if_neg fun hbusy => (not_storeIdle_iff s).mp hbusy h

/-! ### The restart made (R185) -/

theorem exec_restartMade {s : State} (moment : Nat) (hpower : s.power = true) :
    exec (.restartMade moment) s = .next (makeRestart (advanceTo moment s)) :=
  powered_of_power (f := fun s => makeRestart (advanceTo moment s)) hpower

/-- R185: the outbound ports that a restart leaves. -/
def restartPorts (s : State) : Vector OutPort 8 :=
  Vector.ofFn fun p => restartPort s.settings.outbound[p] s.link.outs[p]

theorem makeRestart_notDue {s : State} (h : s.service.restart ≠ .due) : makeRestart s = s := if_neg h

theorem makeRestart_due {s : State} (h : s.service.restart = .due) :
    makeRestart s = boot (restartPorts s) s.status s := if_pos h

/-- Log entry 15: the pacing gap of a port whose line was IDLE goes on. -/
theorem restartPort_gap_idle {o : OutPort} (r : OutboundRecord) (h : o.line = none) :
    (restartPort r o).gap = o.gap := by
  unfold restartPort
  rw [h]

/-- Log entry 15: a port that was sending counts its pacing gap from the end of that frame. -/
theorem restartPort_gap_sending {o : OutPort} (r : OutboundRecord) (h : o.line ≠ none) :
    (restartPort r o).gap = if r.pacing = 0 then none else some r.pacing := by
  obtain ⟨x, hx⟩ := Option.ne_none_iff_exists'.mp h
  unfold restartPort
  rw [hx]

theorem restartPorts_getElem (s : State) (p : Port) :
    (restartPorts s)[p] = restartPort s.settings.outbound[p] s.link.outs[p] := getElem_ofFn _ p

end Sys2Proof.Machine

namespace Sys2Proof
open Machine

/-- Settles O50: the request by `opRestart`'s one check, the restart by what `boot` leaves and loads
(`boot_bootedFrom`). -/
theorem restart : Obligations.Restart := by
  refine ⟨fun h s hready => ⟨fun hbusy => ?_, fun hidle => ?_⟩, fun moment s hpower => ⟨fun hearly => ?_, fun hdue =>
    ⟨boot (restartPorts (advanceTo moment s)) s.status (advanceTo moment s), ?_, fun p => ?_, rfl, rfl, rfl, rfl, rfl,
      fun p l => ?_, rfl, rfl, rfl, rfl, rfl, rfl, rfl, rfl, fun p => ?_, rfl, fun a => rfl, rfl, rfl, rfl, rfl,
      fun i => ?_, rfl, boot_bootedFrom .., rfl, rfl, rfl⟩⟩⟩
  · rw [exec_restart_ready hready, opRestart_busy hbusy, answered_eq_replied (.inr (show Outcome.busy ≠ .ok by decide))]
    rfl
  · rw [exec_restart_ready hready, opRestart_accepted hidle]
    rfl
  · rw [exec_restartMade moment hpower, makeRestart_notDue (s := advanceTo moment s) hearly]
    rfl
  · rw [exec_restartMade moment hpower, makeRestart_due (s := advanceTo moment s) hdue]
    rfl
  · rw [boot_outs, restartPorts_getElem]
    exact ⟨boot_receiver .., rfl, rfl, rfl, rfl, rfl, rfl, rfl, rfl, rfl, rfl, restartPort_gap_idle _,
      restartPort_gap_sending _, by simp [boot, Service.fresh]⟩
  · simp [boot, Held.empty]
  · simp [boot, bootStore]
  · simp [boot, bootPedals, Debouncer.fresh, advanceTo, State.setNow]

end Sys2Proof

end

section
/-! SUPPORT. The record formats of spec 11 read back (R192, R193): the frames and requests, and the settings and curve
pages that the store builds (R57, R159, R171), each as runs of bytes that stand at their addresses of the page. -/

namespace Sys2Proof.Machine

/-! ### Runs of bytes of a page -/

/-- A run of bytes stands in a page from an address on. -/
def Spells (rd : Nat → Byte) (a : Nat) (bytes : List Byte) : Prop := bytesAt rd a bytes.length = bytes

section Runs
variable {rd : Nat → Byte} {a : Nat}

theorem bytesAt_succ (n : Nat) : bytesAt rd a (n + 1) = rd a :: bytesAt rd (a + 1) n := by
  simp [bytesAt, List.range_succ_eq_map, Nat.add_assoc, Nat.add_comm 1]

@[simp] theorem spells_nil : Spells rd a [] := rfl

@[simp] theorem spells_cons {b : Byte} {bs : List Byte} : Spells rd a (b :: bs) ↔ rd a = b ∧ Spells rd (a + 1) bs := by
  rw [Spells, List.length_cons, bytesAt_succ, List.cons.injEq, Spells]

@[simp] theorem spells_append {xs ys : List Byte} :
    Spells rd a (xs ++ ys) ↔ Spells rd a xs ∧ Spells rd (a + xs.length) ys := by
  induction xs generalizing a with
  | nil => simp
  | cons x xs ih => simp [ih, and_assoc, Nat.add_assoc, Nat.add_comm 1]

/-- The record at place `i` of a table of records of one length. -/
theorem Spells.record {α : Type} {f : α → List Byte} {k : Nat} {l : List α} (h : Spells rd a (l.flatMap f))
    (hlength : ∀ x, (f x).length = k) {i : Nat} (hi : i < l.length) : Spells rd (a + k * i) (f l[i]) := by
  induction l generalizing a i with
  | nil => cases hi
  | cons x xs ih =>
    rw [List.flatMap_cons, spells_append, hlength] at h
    obtain ⟨hfirst, hrest⟩ := h
    cases i with
    | zero => exact hfirst
    | succ i =>
      have hplace : a + k * (i + 1) = a + k + k * i := by rw [Nat.mul_succ]; omega
      rw [hplace]
      exact ih hrest (Nat.lt_of_succ_lt_succ hi)

/-- R157: a page that is built from bytes and sealed holds them, up to its check. -/
theorem spells_sealPage {bytes : List Byte} (h : bytes.length ≤ checkAt) :
    Spells (Memory.read (sealPage (Memory.ofBytes 0 bytes))) 0 bytes := by
  refine List.ext_getElem (by simp [bytesAt]) fun i _ hi => ?_
  simp only [bytesAt, List.getElem_map, List.getElem_range, Nat.zero_add]
  rw [read_sealPage (Memory.wf_ofBytes 0 bytes) (by omega) (by omega), Memory.read_ofBytes, if_pos (by omega),
    Nat.sub_zero, List.getD_eq_getElem _ _ hi]

/-! ### Fields -/

theorem natByte_toNat {n : Nat} (h : n < 256) : (natByte n).toNat = n :=
  (BitVec.toNat_ofNat n 8).trans (Nat.mod_eq_of_lt h)

/-- A wide field that stands in a page. -/
theorem wordAt_of_spells {n : Nat} (h : Spells rd a (natBytes n)) (hn : n < 65536) : (wordAt rd a).toNat = n := by
  obtain ⟨hhigh, hlow, -⟩ : rd a = _ ∧ rd (a + 1) = _ ∧ _ := by simpa only [natBytes, spells_cons] using h
  rw [wordAt, hhigh, hlow, half_hiByte_loByte, BitVec.toNat_ofNat, Nat.mod_eq_of_lt hn]

/-- A record of five byte fields that stands in a page and passes the checks is loaded. -/
theorem recordAt_of_spells {α : Type} {of? : List Nat → Option α} {fields : List Nat} {x : α} (default : α)
    (h : Spells rd a (fields.map natByte)) (hfive : fields.length = 5) (hbytes : ∀ n ∈ fields, n < 256)
    (hof : of? fields = some x) : recordAt of? default rd a = x := by
  have hfields : fieldsAt rd a = fields := by
    rw [Spells, List.length_map, hfive] at h
    rw [fieldsAt, h, List.map_map]
    exact (List.map_congr_left fun n hn => natByte_toNat (hbytes n hn)).trans (List.map_id _)
  rw [recordAt, hfields, hof]
  rfl

/-- A table of such records is loaded whole. -/
theorem recordTable_of_spells {α : Type} {n : Nat} {of? : List Nat → Option α} {fields : α → List Nat}
    {v : Vector α n} (default : α) (h : Spells rd a (v.toList.flatMap fun r => (fields r).map natByte))
    (hfive : ∀ r, (fields r).length = 5) (hbytes : ∀ i : Fin n, ∀ m ∈ fields v[i], m < 256)
    (hof : ∀ i : Fin n, of? (fields v[i]) = some v[i]) :
    (Vector.ofFn fun i : Fin n => recordAt of? default rd (a + 5 * i.val)) = v := by
  refine Vector.ext fun i hi => ?_
  have hrecord := h.record (fun r => by rw [List.length_map, hfive r]) (i := i) (by simpa using hi)
  rw [Vector.getElem_ofFn]
  exact recordAt_of_spells default (by simpa using hrecord) (hfive _) (hbytes ⟨i, hi⟩) (hof ⟨i, hi⟩)

end Runs

/-! ### Fields in their ranges fit their bytes (R193) -/

theorem fiveFields_lt {a b c d e : Nat} (h : a < 256 ∧ b < 256 ∧ c < 256 ∧ d < 256 ∧ e < 256) :
    ∀ n ∈ [a, b, c, d, e], n < 256 := by
  simpa using h

theorem inboundFields_lt {r : InboundRecord} (h : inboundOfFields? r.fields = some r) : ∀ n ∈ r.fields, n < 256 := by
  have hranges : inboundOfFields? r.fields ≠ none := h ▸ Option.some_ne_none r
  rw [InboundRecord.fields, ne_eq, inboundOfFields?_eq_none] at hranges
  exact fiveFields_lt (by omega)

theorem outboundFields_lt {r : OutboundRecord} (h : outboundOfFields? r.fields = some r) :
    ∀ n ∈ r.fields, n < 256 := by
  have hranges : outboundOfFields? r.fields ≠ none := h ▸ Option.some_ne_none r
  rw [OutboundRecord.fields, ne_eq, outboundOfFields?_eq_none] at hranges
  exact fiveFields_lt (by omega)

/-- The debounce of a record that is read as it stands is its own nearer end. -/
theorem pedalFields_lt {r : PedalRecord} (h : pedalOfFields? r.fields = some r) : ∀ n ∈ r.fields, n < 256 := by
  have hranges : pedalOfFields? r.fields ≠ none := h ▸ Option.some_ne_none r
  rw [PedalRecord.fields, ne_eq, pedalOfFields?_eq_none] at hranges
  have hdebounce : r.debounce = clampDebounce r.debounce := by
    simpa [PedalRecord.fields] using pedalOfFields?_eq_some.mp h
  have hbound : clampDebounce r.debounce ≤ 50 := Nat.max_le.mpr ⟨by decide, Nat.min_le_right ..⟩
  exact fiveFields_lt (by omega)

theorem feedFields_lt {r : FeedRecord} (h : feedOfFields? r.fields = some r) : ∀ n ∈ r.fields, n < 256 := by
  have hranges : feedOfFields? r.fields ≠ none := h ▸ Option.some_ne_none r
  rw [FeedRecord.fields, ne_eq, feedOfFields?_eq_none] at hranges
  exact fiveFields_lt (by omega)

/-! ### The settings page (R159, R171) -/

theorem tempoBytes_length (r : TempoRecord) : (tempoBytes r).length = 7 := rfl

/-- A tempo record that stands in a page with its fields in range is loaded. -/
theorem tempoOfRaw?_of_spells {rd : Nat → Byte} {a : Nat} {r : TempoRecord} (h : Spells rd a (tempoBytes r))
    (hr : r.inRange) : tempoOfRaw? (tempoRawAt rd a) = some r := by
  simp only [tempoBytes, spells_append, spells_cons, spells_nil, and_true] at h
  obtain ⟨⟨⟨hform, htempo⟩, hend⟩, hrampBars, hbeats⟩ := h
  obtain ⟨-, ht, -, htEnd, -, hbars, -, hmeter⟩ := id hr
  have hformField : (rd a).toNat = r.form.code :=
    hform ▸ natByte_toNat (show r.form.code < 256 by cases r.form <;> decide)
  have htField : (wordAt rd (a + 1)).toNat = r.t := wordAt_of_spells htempo (by omega)
  have htEndField : (wordAt rd (a + 3)).toNat = r.tEnd := wordAt_of_spells hend (by omega)
  have hbarsField : (rd (a + 5)).toNat = r.rampBars := (congrArg _ hrampBars).trans (natByte_toNat (by omega))
  have hmeterField : (rd (a + 6)).toNat = r.meter := (congrArg _ hbeats).trans (natByte_toNat (by omega))
  rw [tempoOfRaw?, tempoRawAt, hformField, htField, htEndField, hbarsField, hmeterField]
  exact tempoOfFields?_eq_some.mpr ⟨rfl, hr⟩

/-- R171: a set list of page numbers that stands in a page is loaded whole. -/
theorem setListAt_of_spells {rd : Nat → Byte} {list : List SongPage} (hlength : list.length ≤ 64)
    (hcount : rd 234 = natByte list.length) (h : Spells rd 235 (list.map fun p => natByte (p.val + 1))) :
    setListAt rd = list := by
  have hpage (p : SongPage) : songPageOfNat? (natByte (p.val + 1)).toNat = some p := by
    rw [natByte_toNat (by omega), songPageOfNat?, dif_pos (by omega)]
    rfl
  rw [Spells, List.length_map] at h
  simp only [setListAt, hcount, natByte_toNat (show list.length < 256 by omega)]
  rw [if_neg (Nat.not_lt.mpr hlength), h, List.filterMap_map]
  exact (List.filterMap_congr fun p _ => hpage p).trans List.filterMap_some

/-- R193: where the parts of the settings page stand. -/
structure SettingsLayout (rd : Nat → Byte) (st : Settings) (slots : Vector TempoRecord 16) : Prop where
  inbound     : Spells rd 0 (st.inbound.toList.flatMap fun r => r.fields.map natByte)
  outbound    : Spells rd 40 (st.outbound.toList.flatMap fun r => r.fields.map natByte)
  pedals      : Spells rd 80 (st.pedals.toList.flatMap fun r => r.fields.map natByte)
  feeds       : Spells rd 110 (st.feeds.toList.flatMap fun r => r.fields.map natByte)
  slots       : Spells rd 150 ((slots.toList.drop 4).flatMap tempoBytes)
  count       : rd 234 = natByte st.setList.length
  setList     : Spells rd 235 (st.setList.map fun p => natByte (p.val + 1))
  unitNumber  : rd 299 = natByte st.unitNumber
  tempoSource : rd 300 = natByte st.tempoSource.code

theorem settingsTable_length {α : Type} {n : Nat} {fields : α → List Nat} (hfive : ∀ r, (fields r).length = 5)
    (v : Vector α n) : (v.toList.flatMap fun r => (fields r).map natByte).length = n * 5 := by
  rw [length_flatMap_const fun r => (List.length_map ..).trans (hfive r), Vector.length_toList]

theorem inboundBytes_length (v : Vector InboundRecord 8) :
    (v.toList.flatMap fun r => r.fields.map natByte).length = 40 := settingsTable_length (fun _ => rfl) v

theorem outboundBytes_length (v : Vector OutboundRecord 8) :
    (v.toList.flatMap fun r => r.fields.map natByte).length = 40 := settingsTable_length (fun _ => rfl) v

theorem pedalBytes_length (v : Vector PedalRecord 6) :
    (v.toList.flatMap fun r => r.fields.map natByte).length = 30 := settingsTable_length (fun _ => rfl) v

theorem feedBytes_length (v : Vector FeedRecord 8) :
    (v.toList.flatMap fun r => r.fields.map natByte).length = 40 := settingsTable_length (fun _ => rfl) v

theorem slotBytes_length (slots : Vector TempoRecord 16) :
    ((slots.toList.drop 4).flatMap tempoBytes).length = 84 := by
  rw [length_flatMap_const tempoBytes_length, List.length_drop, Vector.length_toList]

/-- R159: the settings page is built from 301 bytes. -/
theorem settingsBytes_length {st : Settings} {slots : Vector TempoRecord 16} (hlist : st.setList.length ≤ 64) :
    (settingsBytes st slots).length = 301 := by
  simp only [settingsBytes, List.length_append, inboundBytes_length, outboundBytes_length, pedalBytes_length,
    feedBytes_length, slotBytes_length, List.length_map, List.length_replicate, List.length_cons, List.length_nil]
  omega

theorem settingsLayout_of_spells {rd : Nat → Byte} {st : Settings} {slots : Vector TempoRecord 16}
    (hlist : st.setList.length ≤ 64) (h : Spells rd 0 (settingsBytes st slots)) : SettingsLayout rd st slots := by
  have hfill : 235 + st.setList.length + (64 - st.setList.length) = 299 := by omega
  simp only [settingsBytes, spells_append, spells_cons, spells_nil, and_true, List.length_append, inboundBytes_length,
    outboundBytes_length, pedalBytes_length, feedBytes_length, slotBytes_length, List.length_map, List.length_replicate,
    List.length_cons, List.length_nil, Nat.reduceAdd] at h
  obtain ⟨⟨⟨⟨⟨⟨⟨⟨hin, hout⟩, hpedals⟩, hfeeds⟩, hslots⟩, hcount⟩, hpages⟩, -⟩, hunit, hsource⟩ := h
  rw [Nat.zero_add, hfill] at hunit hsource
  exact ⟨hin, hout, hpedals, hfeeds, hslots, hcount, hpages, hunit, hsource⟩

/-- R171: working settings in their ranges are loaded as they stood. -/
theorem SettingsLayout.settings {rd : Nat → Byte} {st : Settings} {slots : Vector TempoRecord 16}
    (layout : SettingsLayout rd st slots)
    (hin : ∀ i : Port, inboundOfFields? st.inbound[i].fields = some st.inbound[i])
    (hout : ∀ i : Port, outboundOfFields? st.outbound[i].fields = some st.outbound[i])
    (hfeeds : ∀ i : Port, feedOfFields? st.feeds[i].fields = some st.feeds[i])
    (hpedals : ∀ i : Pedal, pedalOfFields? st.pedals[i].fields = some st.pedals[i])
    (hlist : st.setList.length ≤ 64) (hunit : st.unitNumber ≤ 14) : settingsOfPage rd = st := by
  have hinbound := recordTable_of_spells .default layout.inbound (fun _ => rfl) (fun i => inboundFields_lt (hin i)) hin
  have houtbound := recordTable_of_spells .default layout.outbound (fun _ => rfl)
    (fun i => outboundFields_lt (hout i)) hout
  have hpedal := recordTable_of_spells .default layout.pedals (fun _ => rfl)
    (fun i => pedalFields_lt (hpedals i)) hpedals
  have hfeed := recordTable_of_spells .default layout.feeds (fun _ => rfl) (fun i => feedFields_lt (hfeeds i)) hfeeds
  have hsource : tempoSourceOfNat? (natByte st.tempoSource.code).toNat = some st.tempoSource :=
    tempoSourceOfNat?_eq_some.mpr (natByte_toNat (by cases st.tempoSource <;> decide))
  simp only [Nat.zero_add] at hinbound
  rw [settingsOfPage, hinbound, houtbound, hpedal, hfeed, setListAt_of_spells hlist layout.count layout.setList,
    layout.unitNumber, layout.tempoSource, natByte_toNat (by omega), within?_eq_some.mpr ⟨⟨Nat.zero_le _, hunit⟩, rfl⟩,
    hsource]
  rfl

/-- R171: the stored tempo slots are loaded as they stood. -/
theorem SettingsLayout.slot {rd : Nat → Byte} {st : Settings} {slots : Vector TempoRecord 16}
    (layout : SettingsLayout rd st slots) {i : Slot} (hi : 4 ≤ i.val) (hrange : slots[i].inRange) :
    (slotsOfPage rd)[i] = slots[i] := by
  have hrecord := layout.slots.record tempoBytes_length (i := i.val - 4) (by simp; omega)
  have hplace : 4 + (i.val - 4) = i.val := by omega
  simp only [List.getElem_drop, Vector.getElem_toList, hplace] at hrecord
  simp only [slotsOfPage, Fin.getElem_fin, Vector.getElem_ofFn]
  rw [if_neg (by omega), tempoOfRaw?_of_spells hrecord hrange]
  rfl

/-! ### The curve page (R57, R159) -/

theorem natBytes_length (n : Nat) : (natBytes n).length = 2 := rfl

theorem pointBytes_length (points : Vector Nat 129) : (points.toList.flatMap natBytes).length = 258 := by
  rw [length_flatMap_const natBytes_length, Vector.length_toList]

/-- R56, R57: curve memory that stands in a page is loaded whole. -/
theorem curvesOfPage_of_spells {rd : Nat → Byte} {curves : Vector (Vector Nat 129) 15}
    (hpoints : ∀ (n : Fin 15) (j : Fin 129), curves[n][j] ≤ 1023) (h : Spells rd 0 (curveBytes curves)) :
    curvesOfPage rd = curves := by
  refine Vector.ext fun n hn => Vector.ext fun j hj => ?_
  have hle : curves[n][j] ≤ 1023 := hpoints ⟨n, hn⟩ ⟨j, hj⟩
  have hpoint : Spells rd (258 * n + 2 * j) (natBytes curves[n][j]) := by
    have hpoints := h.record pointBytes_length (i := n) (by simpa using hn)
    rw [Nat.zero_add, Vector.getElem_toList] at hpoints
    have hpoint := hpoints.record natBytes_length (i := j) (by simpa using hj)
    rwa [Vector.getElem_toList] at hpoint
  simp only [curvesOfPage, Vector.getElem_ofFn]
  rw [wordAt_of_spells hpoint (by omega), Nat.min_eq_left hle]

theorem curveBytes_length (curves : Vector (Vector Nat 129) 15) : (curveBytes curves).length = 3870 := by
  rw [curveBytes, length_flatMap_const pointBytes_length, Vector.length_toList]

end Sys2Proof.Machine

namespace Sys2Proof
open Machine

/-- Settles O2: the check byte makes the sum 0 (`byteSum_checked`) and the fields give the frame back
(`fieldsOfKind_fields`). -/
theorem framesRoundTrip : Obligations.FramesRoundTrip := fun _ hok => parseFrame_bytes hok

/-- Settles O3: the one request that its bytes do not give back is a page list beyond its form
(`parseRequest_params`). -/
theorem requestsRoundTrip : Obligations.RequestsRoundTrip := by
  intro r hform
  rcases parseRequest_params r with h | ⟨-, hno⟩
  · exact h
  · rw [hform] at hno
    cases hno

/-- Settles O36: the bytes of a sealed page stand where they were built (`spells_sealPage`), each part of the layout is
loaded from its run, and the check is the sum (`storedCheck_sealPage`). -/
theorem storedPagesReadBack : Obligations.StoredPagesReadBack := by
  refine ⟨fun st slots hports hpedals hlist hunit hslots => ?_, fun curves hpoints => ?_, fun image hwf => ?_⟩
  · have hroom : (settingsBytes st slots).length ≤ checkAt := by rw [settingsBytes_length hlist]; decide
    have layout := settingsLayout_of_spells hlist (spells_sealPage hroom)
    obtain ⟨hin, hothers⟩ := forall_and.mp hports
    obtain ⟨hout, hfeeds⟩ := forall_and.mp hothers
    exact ⟨layout.settings hin hout hfeeds hpedals hlist hunit, fun i hi => layout.slot hi (hslots i)⟩
  · have hroom : (curveBytes curves).length ≤ checkAt := by rw [curveBytes_length]; decide
    exact curvesOfPage_of_spells hpoints (spells_sealPage hroom)
  · exact ⟨storedCheck_sealPage hwf, pageSum_sealPage image⟩

end Sys2Proof
end

section
/-! SUPPORT. The step of the block in its two cases: a command at the front of the queue, and an empty queue (log entry
5). -/

namespace Sys2Proof.Machine

theorem step_of_pending_cons {c : Instr} {rest : List Instr} {s : State} (h : s.pending = c :: rest) :
    step s = exec c (s.setPending rest) := by
  rw [step, h]

theorem step_of_pending_nil {s : State} (h : s.pending = []) : step s = .next s := by
  rw [step, h]

end Sys2Proof.Machine

namespace Sys2Proof
open Machine

/-- Settles O1: the two cases of the queue (`step_of_pending_cons`, `step_of_pending_nil`). -/
theorem stepRunsFrontCommand : Obligations.StepRunsFrontCommand :=
  ⟨fun _ _ _ hfront => step_of_pending_cons hfront, fun _ hempty => step_of_pending_nil hempty⟩

end Sys2Proof
end

section
/-! SUPPORT. The zone engine's hand to the held-note table (R35, R36, R40, R62, R63, R65) and PANIC by request (R78,
R79): rows of a PLAY port as the operations they come to, and each operation as one change of the part. -/

namespace Sys2Proof.Machine

/-! ### Rows of a PLAY port (R7, R36, R40) -/

theorem laneOfNat?_laneByte (l : Lane) : laneOfNat? (laneByte l).toNat = some l :=
  laneOfNat?_eq_some.mpr ((eq_laneByte_iff _ l).mp rfl)

theorem keyOfNat?_keyByte (k : Key) : keyOfNat? (keyByte k).toNat = some k := by
  have hk : (keyByte k).toNat = k.val := by
    rw [keyByte, BitVec.toNat_ofNat]
    omega
  rw [keyOfNat?_of_le (by omega), Option.some.injEq, Fin.ext_iff]
  exact hk

section Row
variable {p : Port} {l : Lane} {s : State} (hpower : s.power = true) (hrole : s.settings.inbound[p].role = .play)
include hpower hrole

theorem exec_release {k : Key} {amount : ReleaseAmount} :
    exec (.release p l k amount) s = .next (zoneRelease p l k amount s) := by
  have harrive : arrive p (releaseRow l k amount) s = zoneRelease p l k amount s := by
    cases amount <;> rw [releaseRow, arrive_of_not_service rfl, hrole] <;>
      simp [playFrame, onKey, laneOfNat?_laneByte, keyOfNat?_keyByte]
  exact (powered_of_power hpower).trans (congrArg _ harrive)

theorem exec_sustainControl {value : Half} :
    exec (.sustainControl p l value) s = .next (zoneSustain p l value s) := by
  have harrive : arrive p (.control (laneByte l) 8#8 value) s = zoneSustain p l value s := by
    rw [arrive_of_not_service rfl, hrole]
    simp [playFrame, onLane, laneOfNat?_laneByte, playFrameControl]
  exact (powered_of_power hpower).trans (congrArg _ harrive)

end Row

/-! ### One layer (R35, R62, R63) -/

theorem findEntry_eq_none {id : Ident} {s : State} :
    findEntry id s = none ↔ ∀ e ∈ s.held.table, e.ident ≠ id := by
  simp [findEntry, List.find?_eq_none]

theorem playAdmits_eq_false {p : Port} {s : State} : playAdmits p s = false ↔ 28 ≤ s.link.outs[p].play.length := by
  rw [← Bool.not_eq_true, playAdmits_iff, Nat.not_lt]

/-- What a layer comes to where its destination is not muted, by the room in the table and the play queue. -/
theorem offerLayer_eq (id : Ident) (h : Handling) (f : Frame) (s : State) :
    offerLayer id h f s
      = if (∀ e ∈ s.held.table, e.ident ≠ id) ∧ 128 ≤ s.held.table.length then countHeldOverflow s
        else if 28 ≤ s.link.outs[id.dst.port].play.length then countPlayDrop id.dst.port s
        else if ∀ e ∈ s.held.table, e.ident ≠ id then
          createEntry id h (pushPlay id.dst.port { frame := f, source := .zone } s)
        else restrikeEntry id h (pushPlay id.dst.port { frame := f, source := .zone } s) := by
  rcases offerLayer_spec s id h f with
    ⟨hnone, hfull, he⟩ | ⟨hnone, hroom, hadm, he⟩ | ⟨e, hsome, hadm, he⟩ | ⟨hadm, hroom, he⟩ <;> rw [he]
  · rw [if_pos ⟨findEntry_eq_none.mp hnone, hfull⟩]
  · have hplay := Nat.not_le.mpr ((playAdmits_iff ..).mp hadm)
    rw [if_neg fun h => Nat.not_le.mpr hroom h.2, if_neg hplay, if_pos (findEntry_eq_none.mp hnone)]
  · have hplay := Nat.not_le.mpr ((playAdmits_iff ..).mp hadm)
    have hthere : ¬∀ e ∈ s.held.table, e.ident ≠ id := fun hnew => by simp [findEntry_eq_none.mpr hnew] at hsome
    rw [if_neg fun h => hthere h.1, if_neg hplay, if_neg hthere]
  · rw [if_neg fun h => Nat.not_le.mpr (hroom (findEntry_eq_none.mpr h.1)) h.2, if_pos (playAdmits_eq_false.mp hadm)]

/-! ### A key up (R65) -/

/-- R65: whether a key up concerns an entry. -/
def keyUpMine (src : SourceTriple) (e : Entry) : Bool := decide (e.ident.src = src ∧ e.state = .held)

/-- R65: whether sustain holds an entry of a source lane. -/
def laneSustains (p : Port) (l : Lane) (s : State) (e : Entry) : Bool :=
  decide (e.handling = .hold ∧ s.held.sustain[p][l].down = true)

theorem keyUpSustains_eq (src : SourceTriple) (s : State) (e : Entry) :
    keyUpSustains src s e = (keyUpMine src e && laneSustains src.port src.lane s e) := by
  rw [Bool.eq_iff_iff]
  simp [keyUpSustains, keyUpMine, laneSustains, laneDown, and_assoc]

theorem keyUpReleases_eq (src : SourceTriple) (s : State) (e : Entry) :
    keyUpReleases src s e = (keyUpMine src e && !laneSustains src.port src.lane s e) := by
  rw [Bool.eq_iff_iff]
  simp [keyUpReleases, keyUpMine, laneSustains, laneDown, and_assoc]

/-- R65: an entry once those that a key up makes SUSTAINED are so. -/
def keyUpMarked (src : SourceTriple) (value : Option Nat) (s : State) (e : Entry) : Entry :=
  if keyUpSustains src s e then { e with state := .sustained, release := value } else e

@[simp] theorem keyUpMarked_ident (src : SourceTriple) (value : Option Nat) (s : State) (e : Entry) :
    (keyUpMarked src value s e).ident = e.ident := by
  unfold keyUpMarked
  split <;> rfl

/-- R65: an entry is made SUSTAINED or RELEASING, not both. -/
theorem keyUpReleases_marked (src : SourceTriple) (value : Option Nat) (s : State) (e : Entry) :
    keyUpReleases src s (keyUpMarked src value s e) = keyUpReleases src s e := by
  unfold keyUpMarked
  split
  · next h =>
    rw [keyUpSustains_eq, Bool.and_eq_true] at h
    rw [keyUpReleases_eq, keyUpReleases_eq, h.2]
    simp [keyUpMine]
  · rfl

/-- R65: what a key up makes of an entry. -/
def keyUpEntry (src : SourceTriple) (value : Option Nat) (s : State) (e : Entry) : Entry :=
  if keyUpMine src e then
    { e with state := if laneSustains src.port src.lane s e then .sustained else .releasing, release := value }
  else e

theorem keyUpEntry_eq (src : SourceTriple) (value : Option Nat) (s : State) (e : Entry) :
    (if keyUpReleases src s (keyUpMarked src value s e) then
        { keyUpMarked src value s e with state := .releasing, release := value }
      else keyUpMarked src value s e) = keyUpEntry src value s e := by
  rw [keyUpReleases_marked, keyUpReleases_eq]
  unfold keyUpMarked keyUpEntry
  rw [keyUpSustains_eq]
  cases keyUpMine src e <;> cases laneSustains src.port src.lane s e <;> rfl

/-- R65: the key up as one change of the held part. -/
theorem keyUp_eq (src : SourceTriple) (value : Option Nat) (s : State) :
    keyUp src value s
      = s.setHeld
          { s.held with
            table := s.held.table.map (keyUpEntry src value s)
            releaseOrder := s.held.releaseOrder ++ (s.held.table.filter (keyUpReleases src s)).map (·.ident) } := by
  have htable : (s.held.table.map (keyUpMarked src value s)).map (fun e =>
        if keyUpReleases src s e then { e with state := .releasing, release := value } else e)
      = s.held.table.map (keyUpEntry src value s) := by
    rw [List.map_map]
    exact List.map_congr_left fun e _ => keyUpEntry_eq src value s e
  have horder : ((s.held.table.map (keyUpMarked src value s)).filter (keyUpReleases src s)).map (·.ident)
      = (s.held.table.filter (keyUpReleases src s)).map (·.ident) := by
    rw [List.filter_map, List.map_map]
    congr 1
    · funext e
      exact keyUpMarked_ident src value s e
    · exact List.filter_congr fun e _ => keyUpReleases_marked src value s e
  rw [← htable, ← horder]
  rfl

/-! ### The forwarding list (R40, R71–R74) -/

theorem zoneHandling_eq_forward {z : Zone} : (zoneHandling z == .forward) = true ↔ z.sustain = 1#8 := by
  unfold zoneHandling
  by_cases h : z.sustain = 1#8 <;> simp [h]

theorem forwardingList_listed (s : State) (p : Port) (l : Lane) :
    ListedInOrder (fun d z => leadsTo p l d z ∧ z.sustain = 1#8) s.change.active.block.zones
      (forwardingList s p l) := by
  unfold forwardingList
  rw [destLanes_filter]
  refine listedInOrder_firstOf (fun d z => ?_) _
  rw [Option.ite_none_right_eq_some, Bool.and_eq_true, zoneHandling_eq_forward, zoneTakes_iff, zoneDest?_eq_some]
  unfold leadsTo
  tauto

end Sys2Proof.Machine

namespace Sys2Proof
open Machine

/-- Settles O10: the one layer is muted, or is offered to the table and the play queue (`offerLayer_eq`). -/
theorem strikeOfOneLayer : Obligations.StrikeOfOneLayer := by
  intro p l k amount s z d hpower hrole hlayers id f queued
  have hstruck : exec (.strike p l k amount) s
      = .next (if s.muted d.port then s else offerLayer id (zoneHandling z) f.frame s) := by
    rw [exec_strike hpower hrole, zoneStrike, hlayers]
    rfl
  have hhandling : zoneHandling z = if z.sustain = 1#8 then .forward else .hold := by
    simp [zoneHandling]
  rw [hstruck]
  refine ⟨fun hmuted => by rw [if_pos hmuted], fun hheard hfull hplace => ?_, fun hheard hfull hnew => ?_,
    fun hheard hroom hplace hnew => ?_, fun hheard hroom hthere => ?_⟩ <;>
    rw [hheard, if_neg Bool.false_ne_true, offerLayer_eq]
  · have hnotFull : ¬((∀ e ∈ s.held.table, e.ident ≠ id) ∧ 128 ≤ s.held.table.length) := fun ⟨hnew, hfull⟩ =>
      hplace.elim (fun h => Nat.not_le.mpr h hfull) fun ⟨e, he, hid⟩ => hnew e he hid
    rw [if_neg hnotFull, if_pos hfull]
    rfl
  · rw [if_pos ⟨hnew, hfull⟩]
    rfl
  · rw [if_neg fun h => Nat.not_le.mpr hplace h.2, if_neg (Nat.not_le.mpr hroom), if_pos hnew, hhandling]
    rfl
  · have hold : ¬∀ e ∈ s.held.table, e.ident ≠ id := fun hnew => hthere.elim fun e he => hnew e he.1 he.2
    rw [if_neg fun h => hold h.1, if_neg (Nat.not_le.mpr hroom), if_neg hold, hhandling]
    unfold restrikeEntry
    simp only [beq_iff_eq]
    rfl

/-- Settles O12: a Release row is the key up of its source triple (`keyUp_eq`). -/
theorem keyUp : Obligations.KeyUp := by
  intro p l k amount s hpower hrole value mine sustains
  have hreleases : (fun e => mine e && !sustains e) = keyUpReleases { port := p, lane := l, key := k } s :=
    funext fun e => (keyUpReleases_eq { port := p, lane := l, key := k } s e).symm
  rw [exec_release hpower hrole, zoneRelease, keyUp_eq, hreleases]
  rfl

/-- Settles O14: the row is a sustain down or a sustain up of its lane, and the forwarding list is the first of each
destination lane. -/
theorem sustainEdges : Obligations.SustainEdges := by
  refine ⟨fun p l value s hpower hrole => ⟨fun hdown => ?_, fun hup => ?_⟩, forwardingList_listed⟩
  · refine ⟨_, (exec_sustainControl hpower hrole).trans (congrArg _ (if_pos hdown)), ?_⟩
    exact sustainDown_sustainedDown p l s
  · refine ⟨_, (exec_sustainControl hpower hrole).trans (congrArg _ (if_neg (Nat.not_le.mpr hup))), ?_⟩
    exact sustainUp_sustainedUp p l s

/-- Settles O47: a ready PANIC replies OK, and leaves what `doPanic_panicked` says. -/
theorem panic : Obligations.Panic := fun _ s hready =>
  ⟨doPanic s, exec_performed (r := .panic) rfl rfl hready rfl (show (0x45#8 : Byte) ≠ restartCode by decide) rfl,
    doPanic_panicked s⟩

end Sys2Proof
end

section
/-! SUPPORT. The release drain (R66, R67): one turn of it, what a run of it leaves, and that its fuel lasts to its
end. -/

namespace Sys2Proof.Machine

/-! ### One turn of the drain -/

/-- R61: with distinct identities an entry is the one found under its identity. -/
theorem findEntry_of_mem {e : Entry} {s : State} (hnodup : (s.held.table.map (·.ident)).Nodup)
    (he : e ∈ s.held.table) : findEntry e.ident s = some e := by
  cases hfind : findEntry e.ident s with
  | none => exact absurd (beq_self_eq_true e.ident) (List.find?_eq_none.mp hfind e he)
  | some x =>
    have hident : x.ident = e.ident := eq_of_beq (List.find?_some (p := fun y : Entry => y.ident == e.ident) hfind)
    rw [List.inj_on_of_nodup_map hnodup (List.mem_of_find?_eq_some hfind) he hident]

theorem drainRuns_eq_false {p : Port} {s : State} :
    drainRuns p s = false ↔ 32 ≤ s.link.outs[p].play.length ∨ ∀ i ∈ s.held.releaseOrder, i.dst.port ≠ p := by
  have hroom : (s.link.outs[p].play.length < Config.playCapacity) ↔ ¬32 ≤ s.link.outs[p].play.length :=
    Nat.not_le.symm
  have hwaits : (nextRelease p s).isSome = true ↔ ¬∀ i ∈ s.held.releaseOrder, i.dst.port ≠ p := by
    simp [nextRelease]
  rw [← Bool.not_eq_true, drainRuns, Bool.and_eq_true, decide_eq_true_iff, hroom, hwaits, ← not_or, not_not]

theorem drainOne_of_not_runs {p : Port} {s : State} (h : drainRuns p s = false) : drainOne p s = s :=
  if_neg (by simp [h])

/-- R67: the turn of the drain that takes an entry. -/
theorem drainOne_of_entry {p : Port} {e : Entry} {s : State} (hroom : s.link.outs[p].play.length < 32)
    (hnext : nextRelease p s = some e.ident) (hfind : findEntry e.ident s = some e) :
    drainOne p s
      = if destNamed e.ident s then dropEntry e.ident s
        else pushPlay p { frame := entryRelease e s, source := .held } (dropEntry e.ident s) := by
  have hruns : drainRuns p s = true := by
    rw [drainRuns, hnext, Option.isSome_some, Bool.and_true]
    exact decide_eq_true hroom
  unfold drainOne
  rw [if_pos hruns, hnext]
  dsimp only
  rw [hfind]

/-- A turn of the drain leaves the held part as it was or without an identity for its port that waits. -/
theorem drainOne_held (p : Port) (s : State) :
    drainRuns p s = false
      ∨ ∃ id ∈ s.held.releaseOrder, id.dst.port = p ∧ (drainOne p s).held = (dropEntry id s).held := by
  rcases drainOne_spec s p with ⟨hstill, -⟩ | ⟨id, -, hnext, hcases⟩
  · refine .inl (drainRuns_eq_false.mpr (hstill.imp_right fun hnone i hi => ?_))
    simpa using List.find?_eq_none.mp hnone i hi
  · refine .inr ⟨id, List.mem_of_find?_eq_some hnext, ?_, ?_⟩
    · exact eq_of_beq (List.find?_some (p := fun i : Ident => i.dst.port == p) hnext)
    · rcases hcases with ⟨-, he⟩ | ⟨e, -, ⟨-, he⟩ | ⟨-, he⟩⟩ <;> rw [he]
      rfl

/-- A turn of a drain that runs leaves release order shorter. -/
theorem drainOne_order_length {p : Port} {s : State} (hruns : drainRuns p s = true) :
    (drainOne p s).held.releaseOrder.length < s.held.releaseOrder.length := by
  rcases drainOne_held p s with hstill | ⟨id, hid, -, hheld⟩
  · rw [hruns] at hstill
    cases hstill
  · rw [hheld]
    exact List.length_filter_lt_length_iff_exists.mpr ⟨id, hid, by simp⟩

/-! ### The run of the drain -/

theorem drainRuns_of_order_nil {p : Port} {s : State} (h : s.held.releaseOrder = []) : drainRuns p s = false :=
  drainRuns_eq_false.mpr (.inr (by simp [h]))

theorem drainTimes_of_not_runs {p : Port} {s : State} (h : drainRuns p s = false) (n : Nat) : drainTimes p n s = s := by
  induction n with
  | zero => rfl
  | succ n ih => rw [drainTimes, drainOne_of_not_runs h, ih]

/-- R66: with as many turns as identities wait, the drain runs to its end. -/
theorem drainTimes_ended {p : Port} {n : Nat} {s : State} (hfuel : s.held.releaseOrder.length ≤ n) :
    drainRuns p (drainTimes p n s) = false := by
  induction n generalizing s with
  | zero => exact drainRuns_of_order_nil (List.eq_nil_of_length_eq_zero (Nat.le_zero.mp hfuel))
  | succ n ih =>
    cases hruns : drainRuns p s
    · rwa [drainTimes_of_not_runs hruns]
    · exact ih (Nat.le_of_lt_succ ((drainOne_order_length hruns).trans_le hfuel))

/-- Any two numbers of turns that last come to the same. -/
theorem drainTimes_fuel {p : Port} {m n : Nat} {s : State} (hm : s.held.releaseOrder.length ≤ m)
    (hn : s.held.releaseOrder.length ≤ n) : drainTimes p m s = drainTimes p n s := by
  induction m generalizing n s with
  | zero =>
    have hstill := drainRuns_of_order_nil (p := p) (List.eq_nil_of_length_eq_zero (Nat.le_zero.mp hm))
    rw [drainTimes_of_not_runs hstill, drainTimes_of_not_runs hstill]
  | succ m ih =>
    cases hruns : drainRuns p s
    · rw [drainTimes_of_not_runs hruns, drainTimes_of_not_runs hruns]
    · have hshorter := drainOne_order_length hruns
      cases n with
      | zero => omega
      | succ n => exact ih (by omega) (by omega)

/-- R66: the drain goes on from its first turn. -/
theorem drainPort_drainOne (p : Port) (s : State) : drainPort p (drainOne p s) = drainPort p s := by
  cases hruns : drainRuns p s
  · rw [drainOne_of_not_runs hruns]
  · have hrest := drainTimes_fuel (p := p) (s := drainOne p s) (Nat.le_refl _) (drainOne_order_length hruns).le
    have hall := drainTimes_fuel (p := p) (s := s) (Nat.le_succ s.held.releaseOrder.length) (Nat.le_refl _)
    exact hrest.trans hall

/-- R66, R67: what a run of the drain of a port leaves: Releases at the tail of its play queue, and of the held part no
entry of another port touched. -/
structure Drained (p : Port) (s t : State) : Prop where
  link : ∃ added : List Queued,
    t.link = (modifyOut p (fun o => { o with play := o.play ++ added }) s).link ∧ ∀ x ∈ added, x.source = .held
  room : s.link.outs[p].play.length ≤ 32 → t.link.outs[p].play.length ≤ 32
  table : t.held.table.Sublist s.held.table
  releaseOrder : t.held.releaseOrder.Sublist s.held.releaseOrder
  others : ∀ e ∈ s.held.table, e.ident.dst.port ≠ p → e ∈ t.held.table
  sustain : t.held.sustain = s.held.sustain
  holds : t.held.holds = s.held.holds

theorem modifyOut_nothing (p : Port) (s : State) :
    (modifyOut p (fun o => { o with play := o.play ++ [] }) s).link = s.link := by
  simp only [List.append_nil]
  show { s.link with outs := s.link.outs.set p s.link.outs[p] } = s.link
  rw [Fin.getElem_fin, Vector.set_getElem_self]

theorem Drained.refl (p : Port) (s : State) : Drained p s s :=
  ⟨⟨[], (modifyOut_nothing p s).symm, by simp⟩, id, .refl _, .refl _, fun _ he _ => he, rfl, rfl⟩

theorem Drained.trans {p : Port} {s t u : State} (h : Drained p s t) (h' : Drained p t u) : Drained p s u := by
  refine ⟨?_, h'.room ∘ h.room, h'.table.trans h.table, h'.releaseOrder.trans h.releaseOrder,
    fun e he hport => h'.others e (h.others e he hport) hport, h'.sustain.trans h.sustain, h'.holds.trans h.holds⟩
  obtain ⟨added, hlink, hheld⟩ := h.link
  obtain ⟨added', hlink', hheld'⟩ := h'.link
  refine ⟨added ++ added', ?_, fun x hx => (List.mem_append.mp hx).elim (hheld x) (hheld' x)⟩
  rw [hlink']
  unfold modifyOut at hlink ⊢
  rw [hlink]
  simp [upd]

theorem dropEntry_drained {p : Port} {id : Ident} (hport : id.dst.port = p) (s : State) :
    Drained p s (dropEntry id s) := by
  refine ⟨⟨[], (modifyOut_nothing p s).symm, by simp⟩, fun h => h, List.filter_sublist, List.filter_sublist,
    fun e he hother => List.mem_filter.mpr ⟨he, bne_iff_ne.mpr fun hid => hother (hid ▸ hport)⟩, rfl, rfl⟩

theorem pushPlay_drained {p : Port} {q : Queued} {s : State} (hroom : s.link.outs[p].play.length < 32)
    (hsource : q.source = .held) : Drained p s (pushPlay p q s) := by
  refine ⟨⟨[q], rfl, by simpa using hsource⟩, fun _ => ?_, .refl _, .refl _, fun _ he _ => he, rfl, rfl⟩
  rw [pushPlay, modifyOut_outs, if_pos rfl]
  simpa using hroom

theorem drainOne_drained (p : Port) (s : State) : Drained p s (drainOne p s) := by
  rcases drainOne_spec s p with ⟨-, he⟩ | ⟨id, hroom, hnext, hcases⟩
  · rw [he]
    exact .refl p s
  · have hport : id.dst.port = p := eq_of_beq (List.find?_some (p := fun i : Ident => i.dst.port == p) hnext)
    have hdropped := dropEntry_drained hport s
    rcases hcases with ⟨-, he⟩ | ⟨e, -, ⟨-, he⟩ | ⟨-, he⟩⟩ <;> rw [he]
    · exact hdropped
    · exact hdropped
    · exact hdropped.trans (pushPlay_drained hroom rfl)

theorem drainTimes_drained (p : Port) (n : Nat) (s : State) : Drained p s (drainTimes p n s) := by
  induction n generalizing s with
  | zero => exact .refl p s
  | succ n ih => exact (drainOne_drained p s).trans (ih _)

theorem exec_releaseDrain {p : Port} {s : State} (hpower : s.power = true) :
    exec (.releaseDrain p) s = .next (drainPort p s) := powered_of_power hpower

/-! ### The first entry of a port -/

/-- R66: the oldest release rank for a port. -/
theorem nextRelease_of_order {p : Port} {id : Ident} {before after : List Ident} {s : State}
    (horder : s.held.releaseOrder = before ++ id :: after) (hport : id.dst.port = p)
    (hbefore : ∀ i ∈ before, i.dst.port ≠ p) : nextRelease p s = some id := by
  have hnone : before.find? (fun i => i.dst.port == p) = none :=
    List.find?_eq_none.mpr fun i hi => by simpa using hbefore i hi
  rw [nextRelease, horder, List.find?_append, hnone, Option.none_or, List.find?_cons_of_pos (by simpa using hport)]

theorem filter_ne_of_nodup {id : Ident} {before after : List Ident} (hnodup : (before ++ id :: after).Nodup) :
    (before ++ id :: after).filter (fun i => i != id) = before ++ after := by
  obtain ⟨hid, -⟩ := List.nodup_cons.mp (List.nodup_middle.mp hnodup)
  rw [List.filter_append, List.filter_cons_of_neg (by simp), ← List.filter_append]
  exact List.filter_eq_self.mpr fun i hi => bne_iff_ne.mpr fun h => hid (h ▸ hi)

end Sys2Proof.Machine

namespace Sys2Proof
open Machine

/-- Settles O54: what a run leaves (`drainTimes_drained`), where it ends (`drainTimes_ended`), and its first turn on the
entry of the oldest release rank, from which it goes on (`drainPort_drainOne`). -/
theorem releaseDrain : Obligations.ReleaseDrain := by
  intro p s hpower
  refine ⟨⟨drainPort p s, exec_releaseDrain hpower, ?_⟩, fun hstill => ?_, ?_⟩
  · obtain ⟨hlink, hroom, htable, horder, hothers, hsustain, hholds⟩ :=
      drainTimes_drained p s.held.releaseOrder.length s
    exact ⟨drainRuns_eq_false.mp (drainTimes_ended (Nat.le_refl _)), hroom, hlink, htable, horder, hothers, hsustain,
      hholds, drainPort_settings s p, drainPort_tempo s p, drainPort_change s p, drainPort_store s p,
      drainPort_status s p, drainPort_service s p⟩
  · rw [exec_releaseDrain hpower]
    exact congrArg _ (drainTimes_of_not_runs (drainRuns_eq_false.mpr hstill) _)
  · rintro e before after hheld he rfl horder hbefore hroom taken release
    obtain ⟨hidents, hnodup, -⟩ := hheld
    have hdropped : dropEntry e.ident s = s.setHeld taken := by
      unfold dropEntry
      rw [horder, filter_ne_of_nodup (horder ▸ hnodup)]
    have hone := drainOne_of_entry hroom (nextRelease_of_order horder rfl hbefore) (findEntry_of_mem hidents he)
    have hfirst {t : State} (ht : drainOne e.ident.dst.port s = t) (hpower' : t.power = true) :
        exec (.releaseDrain e.ident.dst.port) s = exec (.releaseDrain e.ident.dst.port) t := by
      rw [exec_releaseDrain hpower, exec_releaseDrain hpower', ← ht, drainPort_drainOne]
    rw [hdropped] at hone
    refine ⟨fun hnamed => hfirst ?_ hpower, fun hlast => hfirst ?_ hpower⟩
    · have hdest : destNamed e.ident s = true := by simpa [destNamed] using hnamed
      rw [hone, if_pos hdest]
      rfl
    · have hdest : destNamed e.ident s = false := by simpa [destNamed] using hlast
      rw [hone, hdest]
      rfl

end Sys2Proof
end

section
/-! SUPPORT. The held-note table and the sustain records (R61, R69) along their own operations: `NotesSound` is the two
invariants with their parts named, by what each part is about. -/

namespace Sys2Proof.Machine

/-! ### The parts of the invariants -/

/-- R69: the hold counts count the listing lanes, at most 16 each, and the forwarded lists are well listed and short. -/
structure LanesSound (s : State) : Prop where
  counted : ∀ d, holdCount d s = listingLanes d s
  limited : ∀ d, listingLanes d s ≤ 16
  listed : ∀ pl : Port × Lane, WellListed s.held.sustain[pl.1][pl.2]
  short : ∀ pl : Port × Lane, s.held.sustain[pl.1][pl.2].forwarded.length ≤ 16

/-- R65, R72: an entry is SUSTAINED only while the flag of its source lane is down. -/
def SustainedUnderFlag (s : State) : Prop :=
  ∀ e ∈ s.held.table, e.state = .sustained → laneDown e.ident.src.port e.ident.src.lane s = true

/-- R110: a scene copy holds at most 16 zones. -/
def SceneCopy.Fits (c : SceneCopy) : Prop := c.block.zones.length ≤ 16

/-- R110: both scene copies hold at most 16 zones. -/
def CopiesFit (c : Change) : Prop := c.active.Fits ∧ ∀ x, c.staged = some x → x.Fits

/-- The held-note table, the sustain records and the scene copies in order: `HeldInv` and `SustainInv` by their
parts. -/
structure NotesSound (s : State) : Prop where
  table : HeldInv s
  lanes : LanesSound s
  flags : SustainedUnderFlag s
  copies : CopiesFit s.change

theorem notesSound_iff (s : State) : NotesSound s ↔ HeldInv s ∧ SustainInv s := by
  constructor
  · rintro ⟨htable, hlanes, hflags, hactive, hstaged⟩
    refine ⟨htable, fun d => ⟨hlanes.counted d, hlanes.limited d⟩, fun p l => ?_, hflags, hactive, hstaged⟩
    obtain ⟨hnodup, hup⟩ := hlanes.listed (p, l)
    exact ⟨hnodup, hlanes.short (p, l), hup⟩
  · rintro ⟨htable, hcounts, hlists, hflags, hactive, hstaged⟩
    refine ⟨htable, ⟨fun d => (hcounts d).1, fun d => (hcounts d).2, fun pl => ?_, fun pl => ?_⟩,
      hflags, hactive, hstaged⟩
    · obtain ⟨hnodup, -, hup⟩ := hlists pl.1 pl.2
      exact ⟨hnodup, hup⟩
    · obtain ⟨-, hshort, -⟩ := hlists pl.1 pl.2
      exact hshort

theorem LanesSound.congr {s t : State} (h : LanesSound s) (hsustain : t.held.sustain = s.held.sustain)
    (hholds : t.held.holds = s.held.holds) : LanesSound t := by
  obtain ⟨hcounted, hlimited, hlisted, hshort⟩ := h
  unfold holdCount listingLanes at hcounted
  unfold listingLanes at hlimited
  constructor
  · unfold holdCount listingLanes
    rwa [hsustain, hholds]
  · unfold listingLanes
    rwa [hsustain]
  · rwa [hsustain]
  · rwa [hsustain]

theorem HeldInv.congr {s t : State} (h : HeldInv s) (htable : t.held.table = s.held.table)
    (horder : t.held.releaseOrder = s.held.releaseOrder) : HeldInv t := by
  unfold HeldInv
  rw [htable, horder]
  exact h

/-- What an operation keeps: the notes in order before it are in order after it. -/
structure NotesKept (s t : State) : Prop where
  sound : NotesSound s → NotesSound t

theorem NotesKept.refl (s : State) : NotesKept s s := ⟨id⟩

theorem NotesKept.trans {s t u : State} (h : NotesKept s t) (h' : NotesKept t u) : NotesKept s u := ⟨h'.sound ∘ h.sound⟩

/-- `NotesKept.trans` with the last operation first, in the order in which a nested application shows them. -/
theorem NotesKept.after {s t u : State} (h' : NotesKept t u) (h : NotesKept s t) : NotesKept s u := h.trans h'

theorem NotesKept.ite {s t u : State} {c : Prop} [Decidable c] (ht : NotesKept s t) (hu : NotesKept s u) :
    NotesKept s (if c then t else u) := by
  split
  · exact ht
  · exact hu

/-- An operation that leaves the held part alone, and the scene copies as they were but for what is given. -/
theorem NotesKept.of_same {s t : State} (hheld : t.held = s.held)
    (hcopies : CopiesFit s.change → CopiesFit t.change) : NotesKept s t := by
  refine ⟨fun ⟨htable, hlanes, hflags, hfit⟩ => ⟨htable.congr (by rw [hheld]) (by rw [hheld]),
    hlanes.congr (by rw [hheld]) (by rw [hheld]), ?_, hcopies hfit⟩⟩
  unfold SustainedUnderFlag laneDown
  rw [hheld]
  exact hflags

/-- An operation that leaves the held part, the zones of the active copy and the staged copy alone. In a composition the
premise is `by rfl`: the state between two operations is known only after both. -/
theorem NotesKept.of_frame {s t : State} (h : (t.held, t.change.active.block.zones, t.change.staged)
      = (s.held, s.change.active.block.zones, s.change.staged)) : NotesKept s t := by
  obtain ⟨hheld, hzones, hstaged⟩ : t.held = s.held ∧ t.change.active.block.zones = s.change.active.block.zones
      ∧ t.change.staged = s.change.staged := by simpa using h
  refine .of_same hheld fun hfit => ?_
  unfold CopiesFit SceneCopy.Fits
  rwa [hzones, hstaged]

/-- An operation on the table that leaves the sustain records and the change controller alone. -/
theorem NotesKept.of_table {s t : State} (hsustain : t.held.sustain = s.held.sustain)
    (hholds : t.held.holds = s.held.holds) (hchange : t.change = s.change)
    (htable : NotesSound s → HeldInv t)
    (hstates : NotesSound s → ∀ e ∈ t.held.table, e.state = .sustained →
      laneDown e.ident.src.port e.ident.src.lane s = true) : NotesKept s t := by
  refine ⟨fun h => ⟨htable h, h.lanes.congr hsustain hholds, fun e he hstate => ?_, hchange ▸ h.copies⟩⟩
  have hdown := hstates h e he hstate
  unfold laneDown at hdown ⊢
  rwa [hsustain]

theorem foldl_notesKept {α : Type} {g : State → α → State} (h : ∀ s a, NotesKept s (g s a)) (l : List α) (s : State) :
    NotesKept s (l.foldl g s) := by
  induction l generalizing s with
  | nil => exact .refl s
  | cons a l ih => exact (h s a).trans (ih (g s a))

/-! ### The table (R61–R67, R76, R77) -/

/-- R61: with distinct identities an entry is the only one of its identity. -/
theorem HeldInv.eq_of_ident {s : State} (h : HeldInv s) {e x : Entry} (he : e ∈ s.held.table) (hx : x ∈ s.held.table)
    (hident : e.ident = x.ident) : e = x := List.inj_on_of_nodup_map h.1 he hx hident

/-- R61: an entry's identity stands in release order exactly when it is RELEASING. -/
theorem HeldInv.mem_order_iff {s : State} (h : HeldInv s) {e : Entry} (he : e ∈ s.held.table) :
    e.ident ∈ s.held.releaseOrder ↔ e.state = .releasing := by
  obtain ⟨-, -, hreleasing, -⟩ := id h
  rw [hreleasing]
  constructor
  · rintro ⟨x, hx, hident, hstate⟩
    rwa [h.eq_of_ident he hx hident.symm]
  · exact fun hstate => ⟨e, he, rfl, hstate⟩

/-- Entries changed one by one, their identities kept. -/
theorem map_ident_of_ident_eq {f : Entry → Entry} (hident : ∀ e, (f e).ident = e.ident) (table : List Entry) :
    (table.map f).map (·.ident) = table.map (·.ident) := by
  rw [List.map_map]
  exact List.map_congr_left fun e _ => hident e

/-- R61: entries changed one by one keep the table in order when release order has exactly those RELEASING. -/
theorem heldInv_map {s t : State} {f : Entry → Entry} (h : HeldInv s) (hident : ∀ e, (f e).ident = e.ident)
    (htable : t.held.table = s.held.table.map f) (hnodup : t.held.releaseOrder.Nodup)
    (hmem : ∀ i ∈ t.held.releaseOrder, ∃ e ∈ s.held.table, e.ident = i)
    (hreleasing : ∀ e ∈ s.held.table, e.ident ∈ t.held.releaseOrder ↔ (f e).state = .releasing)
    (hvalue : ∀ e ∈ s.held.table, (f e).state = .held → (f e).release = none) : HeldInv t := by
  obtain ⟨hidents, -⟩ := id h
  refine ⟨?_, hnodup, fun i => ⟨fun hi => ?_, ?_⟩, ?_⟩
  · rwa [htable, map_ident_of_ident_eq hident]
  · obtain ⟨e, he, rfl⟩ := hmem i hi
    exact ⟨f e, htable ▸ List.mem_map_of_mem he, hident e, (hreleasing e he).mp hi⟩
  · rintro ⟨x, hx, rfl, hstate⟩
    obtain ⟨e, he, rfl⟩ := List.mem_map.mp (htable ▸ hx)
    rw [hident]
    exact (hreleasing e he).mpr hstate
  · intro x hx
    obtain ⟨e, he, rfl⟩ := List.mem_map.mp (htable ▸ hx)
    exact hvalue e he

/-- Identities of entries of a table with distinct ones, taken by a test, are distinct. -/
theorem HeldInv.taken_nodup {s : State} (h : HeldInv s) (which : Entry → Bool) :
    ((s.held.table.filter which).map (·.ident)).Nodup := h.1.sublist (List.filter_sublist.map _)

theorem HeldInv.mem_taken_iff {s : State} (h : HeldInv s) {which : Entry → Bool} {e : Entry} (he : e ∈ s.held.table) :
    e.ident ∈ (s.held.table.filter which).map (·.ident) ↔ which e = true := by
  constructor
  · intro hmem
    obtain ⟨x, hx, hident⟩ := List.mem_map.mp hmem
    obtain ⟨hx, hwhich⟩ := List.mem_filter.mp hx
    rwa [← h.eq_of_ident hx he hident]
  · exact fun hwhich => List.mem_map_of_mem (List.mem_filter.mpr ⟨he, hwhich⟩)

/-- R61: entries changed one by one, with those that become RELEASING appended to release order. -/
theorem heldInv_released {s t : State} {f : Entry → Entry} {which : Entry → Bool} (h : HeldInv s)
    (hident : ∀ e, (f e).ident = e.ident) (htable : t.held.table = s.held.table.map f)
    (horder : t.held.releaseOrder = s.held.releaseOrder ++ (s.held.table.filter which).map (·.ident))
    (hwhich : ∀ e, which e = true → e.state ≠ .releasing)
    (hreleasing : ∀ e, (f e).state = .releasing ↔ e.state = .releasing ∨ which e = true)
    (hvalue : ∀ e, (e.state = .held → e.release = none) → (f e).state = .held → (f e).release = none) : HeldInv t := by
  obtain ⟨-, hnodup, hlisted, hnone⟩ := id h
  have hmemOrder {e : Entry} (he : e ∈ s.held.table) :
      e.ident ∈ t.held.releaseOrder ↔ e.state = .releasing ∨ which e = true := by
    rw [horder, List.mem_append, h.mem_order_iff he, h.mem_taken_iff he]
  refine heldInv_map h hident htable ?_ (fun i hi => ?_) (fun e he => ?_) fun e he => hvalue e (hnone e he)
  · rw [horder]
    refine hnodup.append (h.taken_nodup which) fun i hi hi' => ?_
    obtain ⟨e, he, rfl⟩ := List.mem_map.mp hi'
    obtain ⟨he, hwhich'⟩ := List.mem_filter.mp he
    exact hwhich e hwhich' ((h.mem_order_iff he).mp hi)
  · rw [horder, List.mem_append] at hi
    rcases hi with hi | hi
    · obtain ⟨e, he, hident, -⟩ := (hlisted i).mp hi
      exact ⟨e, he, hident⟩
    · obtain ⟨e, he, hident⟩ := List.mem_map.mp hi
      exact ⟨e, List.mem_of_mem_filter he, hident⟩
  · rw [hmemOrder he, hreleasing]

/-- R61: entries that are not RELEASING made so. -/
theorem heldInv_makeReleasing {s t : State} {which : Entry → Bool} {value : Entry → Option Nat} (h : HeldInv s)
    (hwhich : ∀ e, which e = true → e.state ≠ .releasing)
    (htable : t.held.table = (makeReleasing which value s).held.table)
    (horder : t.held.releaseOrder = (makeReleasing which value s).held.releaseOrder) : HeldInv t := by
  refine heldInv_released h (fun e => ?_) htable horder hwhich (fun e => ?_) fun e hnone => ?_
  · split <;> rfl
  · split
    · next hw => simp [hw]
    · next hw => simp [hw]
  · split
    · exact nofun
    · exact hnone

/-- R76, R78: no entry is SUSTAINED afterwards. -/
theorem releaseAll_kept (s : State) : NotesKept s (releaseAll s) := by
  refine .of_table rfl rfl rfl (fun h => heldInv_makeReleasing h.table (fun e => bne_iff_ne.mp) rfl rfl) ?_
  intro h e he hstate
  rw [releaseAll_table] at he
  obtain ⟨x, -, rfl⟩ := List.mem_map.mp he
  cases hstate

/-- R65: a key up makes an entry SUSTAINED only under the flag of its lane. -/
theorem keyUp_kept (src : SourceTriple) (value : Option Nat) (s : State) : NotesKept s (keyUp src value s) := by
  rw [keyUp_eq]
  refine .of_table rfl rfl rfl
    (htable := fun h => heldInv_released (f := keyUpEntry src value s) h.table (fun e => ?_) rfl rfl
      (fun e he => ?_) (fun e => ?_) fun e hnone => ?_) (hstates := fun h x hx hstate => ?_)
  · unfold keyUpEntry
    split <;> rfl
  · rw [keyUpReleases_eq, Bool.and_eq_true] at he
    have hheld := of_decide_eq_true he.1
    rw [hheld.2]
    decide
  · rw [keyUpReleases_eq]
    unfold keyUpEntry
    cases hmine : keyUpMine src e
    · simp
    · have hheld := of_decide_eq_true hmine
      cases laneSustains src.port src.lane s e <;> simp [hheld.2]
  · unfold keyUpEntry
    split
    · dsimp only
      split <;> exact nofun
    · exact hnone
  · obtain ⟨e, he, rfl⟩ := List.mem_map.mp hx
    unfold keyUpEntry at hstate ⊢
    split at hstate
    · next hmine =>
      have hsource := (of_decide_eq_true hmine).1
      rw [if_pos hmine]
      dsimp only at hstate ⊢
      rw [hsource]
      split at hstate
      · next hsustains => exact (of_decide_eq_true hsustains).2
      · cases hstate
    · next hmine =>
      rw [if_neg hmine]
      exact h.flags e he hstate

/-- R62: a new entry has a new identity. -/
theorem createEntry_kept {id : Ident} {s : State} (handling : Handling) (hnew : ∀ e ∈ s.held.table, e.ident ≠ id) :
    NotesKept s (createEntry id handling s) := by
  refine .of_table rfl rfl rfl (fun h => ?_) (fun h e he hstate => ?_)
  · obtain ⟨hidents, hnodup, hreleasing, hnone⟩ := h.table
    refine ⟨?_, hnodup, fun i => ?_, ?_⟩
    · show ((s.held.table ++ [_]).map _).Nodup
      rw [List.map_append, List.map_singleton, ← List.concat_eq_append, List.nodup_concat]
      refine ⟨fun hmem => ?_, hidents⟩
      obtain ⟨e, he, hident⟩ := List.mem_map.mp hmem
      exact hnew e he hident
    · refine (hreleasing i).trans ?_
      simp [createEntry]
    · intro e he
      rcases List.mem_append.mp he with he | he
      · exact hnone e he
      · rw [List.mem_singleton.mp he]
        exact fun _ => rfl
  · rcases List.mem_append.mp he with he | he
    · exact h.flags e he hstate
    · rw [List.mem_singleton.mp he] at hstate
      cases hstate

/-- R63: a re-struck entry is HELD, and its identity out of release order. -/
theorem restrikeEntry_kept (id : Ident) (handling : Handling) (s : State) :
    NotesKept s (restrikeEntry id handling s) := by
  refine .of_table rfl rfl rfl (fun h => ?_) (fun h x hx hstate => ?_)
  · obtain ⟨-, hnodup, hreleasing, hnone⟩ := h.table
    refine heldInv_map h.table (f := fun e =>
      if e.ident == id then { e with handling := handling, state := .held, release := none } else e)
      (fun e => ?_) rfl (hnodup.filter _) (fun i hi => ?_) (fun e he => ?_) fun e he => ?_
    · split <;> rfl
    · obtain ⟨e, he, hident, -⟩ := (hreleasing i).mp (List.mem_of_mem_filter hi)
      exact ⟨e, he, hident⟩
    · refine List.mem_filter.trans ?_
      rw [h.table.mem_order_iff he]
      split
      · next hid => simp [eq_of_beq hid]
      · next hid => simpa using fun _ => by simpa using hid
    · split
      · exact fun _ => rfl
      · exact hnone e he
  · obtain ⟨e, he, rfl⟩ := List.mem_map.mp hx
    split at hstate
    · cases hstate
    · next hid =>
      rw [if_neg hid]
      exact h.flags e he hstate

/-- R61: the entries and the release order cut down to identities that pass a test. -/
theorem heldInv_filter {s t : State} (keep : Ident → Bool) (h : HeldInv s)
    (htable : t.held.table = s.held.table.filter fun e => keep e.ident)
    (horder : t.held.releaseOrder = s.held.releaseOrder.filter keep) : HeldInv t := by
  obtain ⟨hidents, hnodup, hreleasing, hnone⟩ := h
  unfold HeldInv
  rw [htable, horder]
  refine ⟨hidents.sublist (List.filter_sublist.map _), hnodup.filter _, fun i => ?_, fun e he =>
    hnone e (List.mem_of_mem_filter he)⟩
  rw [List.mem_filter, hreleasing]
  constructor
  · rintro ⟨⟨e, he, rfl, hstate⟩, hkeep⟩
    exact ⟨e, List.mem_filter.mpr ⟨he, hkeep⟩, rfl, hstate⟩
  · rintro ⟨e, he, rfl, hstate⟩
    obtain ⟨he, hkeep⟩ := List.mem_filter.mp he
    exact ⟨⟨e, he, rfl, hstate⟩, hkeep⟩

theorem dropEntry_kept (id : Ident) (s : State) : NotesKept s (dropEntry id s) :=
  .of_table rfl rfl rfl (htable := fun h => heldInv_filter (fun i => i != id) h.table rfl rfl)
    (hstates := fun h e he hstate => h.flags e (List.mem_of_mem_filter he) hstate)

theorem offerLayer_kept (id : Ident) (handling : Handling) (f : Frame) (s : State) :
    NotesKept s (offerLayer id handling f s) := by
  rcases offerLayer_spec s id handling f with ⟨-, -, he⟩ | ⟨hnone, -, -, he⟩ | ⟨_, -, -, he⟩ | ⟨-, -, he⟩ <;> rw [he]
  · exact .of_frame rfl
  · exact .after (createEntry_kept handling (findEntry_eq_none.mp hnone)) (.of_frame (by rfl))
  · exact .after (restrikeEntry_kept ..) (.of_frame (by rfl))
  · exact .of_frame rfl

theorem drainOne_kept (p : Port) (s : State) : NotesKept s (drainOne p s) := by
  rcases drainOne_spec s p with ⟨-, he⟩ | ⟨id, -, -, ⟨-, he⟩ | ⟨e, -, ⟨-, he⟩ | ⟨-, he⟩⟩⟩ <;> rw [he]
  · exact .refl s
  · exact dropEntry_kept id s
  · exact dropEntry_kept id s
  · exact .after (.of_frame (by rfl)) (dropEntry_kept id s)

theorem drainTimes_kept (p : Port) (n : Nat) (s : State) : NotesKept s (drainTimes p n s) := by
  induction n generalizing s with
  | zero => exact .refl s
  | succ n ih => exact (drainOne_kept p s).trans (ih _)

end Sys2Proof.Machine
end

section
/-! SUPPORT. The sustain records and hold counts (R69–R73, R77, R78) in order along a sustain down, a sustain up, a
PANIC and a flush. -/

namespace Sys2Proof.Machine

/-! ### Listing lanes -/

/-- Whether a lane is listed, as a count. -/
def listedCount (d : DestLane) (r : SustainRecord) : Nat := if r.forwarded.contains d then 1 else 0

/-- A count over a list of distinct elements by one of them and the others. -/
theorem countP_eq_add_erase {α : Type} [BEq α] [LawfulBEq α] {p : α → Bool} {a : α} {l : List α} (ha : a ∈ l) :
    l.countP p = (l.erase a).countP p + if p a then 1 else 0 := by
  rw [(List.perm_cons_erase ha).countP_eq, List.countP_cons]

/-- R69: the lanes that list a destination when the record of one lane has changed. -/
theorem listingLanes_of_others {s t : State} (pl : Port × Lane)
    (hothers : ∀ m : Port × Lane, m ≠ pl → t.held.sustain[m.1][m.2] = s.held.sustain[m.1][m.2]) (d : DestLane) :
    listingLanes d t + listedCount d s.held.sustain[pl.1][pl.2]
      = listingLanes d s + listedCount d t.held.sustain[pl.1][pl.2] := by
  have hmem := mem_sourceLanes pl
  have hnodup := sourceLanes_nodup
  unfold listingLanes
  generalize sourceLanes = ls at hmem hnodup
  have hrest : (ls.erase pl).countP (fun m => t.held.sustain[m.1][m.2].forwarded.contains d)
      = (ls.erase pl).countP fun m => s.held.sustain[m.1][m.2].forwarded.contains d :=
    List.countP_congr fun m hm => by rw [hothers m fun h => (hnodup.not_mem_erase) (h ▸ hm)]
  rw [countP_eq_add_erase hmem, countP_eq_add_erase hmem, hrest]
  unfold listedCount
  omega

/-- R69: the records and counts in order once the record of one lane has changed, with the counts of the lanes it lists
no more, or now. -/
theorem lanesSound_of_others {s t : State} (h : LanesSound s) (pl : Port × Lane)
    (hothers : ∀ m : Port × Lane, m ≠ pl → t.held.sustain[m.1][m.2] = s.held.sustain[m.1][m.2])
    (hlisted : WellListed t.held.sustain[pl.1][pl.2]) (hshort : t.held.sustain[pl.1][pl.2].forwarded.length ≤ 16)
    (hcount : ∀ d, holdCount d t + listedCount d s.held.sustain[pl.1][pl.2]
      = holdCount d s + listedCount d t.held.sustain[pl.1][pl.2])
    (hlimit : ∀ d, holdCount d t ≤ 16) : LanesSound t := by
  have hcounted (d : DestLane) : holdCount d t = listingLanes d t := by
    have hlanes := listingLanes_of_others pl hothers d
    have hcounts := hcount d
    have hbefore := h.counted d
    omega
  refine ⟨hcounted, fun d => hcounted d ▸ hlimit d, fun m => ?_, fun m => ?_⟩
  · by_cases hm : m = pl
    · exact hm ▸ hlisted
    · rw [hothers m hm]
      exact h.listed m
  · by_cases hm : m = pl
    · exact hm ▸ hshort
    · rw [hothers m hm]
      exact h.short m

/-! ### Sustain down (R71, R73) -/

/-- R40, R110: a forwarding list names no more lanes than the active copy has zones. -/
theorem forwardingList_length (s : State) (p : Port) (l : Lane) :
    (forwardingList s p l).length ≤ s.change.active.block.zones.length := by
  unfold forwardingList
  rw [destLanes_filter, List.length_map, ← List.length_map (f := Prod.fst)]
  exact (firstOf_sublist _ _).length_le

/-- R71: the flag goes down, and the lanes added are new, counted, and at most as many as the active copy has zones. -/
theorem sustainDown_kept (p : Port) (l : Lane) (s : State) :
    NotesKept s (sustainDown p l (forwardingList s p l) s) := by
  obtain ⟨hrepeat, hedge⟩ := sustainDown_sustainedDown p l s
  have hchange : (sustainDown p l (forwardingList s p l) s).change = s.change := sustainDown_change ..
  have hlength := forwardingList_length s p l
  have hnodup := forwardingList_nodup s p l
  generalize sustainDown p l (forwardingList s p l) s = t at hrepeat hedge hchange
  generalize forwardingList s p l = ds at hlength hnodup hedge
  cases hdown : s.held.sustain[p][l].down
  · obtain ⟨-, hrecord, htable, horder, hholds, hothers⟩ := hedge hdown
    refine ⟨fun h => ?_⟩
    have hempty := (h.lanes.listed (p, l)).2 hdown
    change s.held.sustain[p][l].forwarded = [] at hempty
    generalize hadded : ((ds.filter fun d => !s.held.sustain[p][l].forwarded.contains d).filter fun d =>
      decide (s.held.holds[d.port][d.lane] < 16)) = added at hrecord hholds
    rw [hempty, List.nil_append] at hrecord
    have hroom {d : DestLane} (hd : added.contains d = true) : holdCount d s < 16 := by
      rw [List.contains_iff_mem, ← hadded] at hd
      exact of_decide_eq_true (List.mem_filter.mp hd).2
    have hsub : added.Sublist ds := hadded ▸ List.filter_sublist.trans List.filter_sublist
    have hcount (d : DestLane) : holdCount d t = holdCount d s + if added.contains d then 1 else 0 := hholds d
    have hothers' (m : Port × Lane) (hm : m ≠ (p, l)) : t.held.sustain[m.1][m.2] = s.held.sustain[m.1][m.2] :=
      hothers m.1 m.2 hm
    refine ⟨h.table.congr htable horder,
      lanesSound_of_others h.lanes (p, l) hothers' ?_ ?_ (fun d => ?_) fun d => ?_, ?_, hchange ▸ h.copies⟩
    · show WellListed t.held.sustain[p][l]
      rw [hrecord]
      exact ⟨hnodup.sublist hsub, nofun⟩
    · show t.held.sustain[p][l].forwarded.length ≤ 16
      rw [hrecord]
      exact (hsub.length_le.trans hlength).trans h.copies.1
    · show holdCount d t + listedCount d s.held.sustain[p][l] = holdCount d s + listedCount d t.held.sustain[p][l]
      rw [hrecord, hcount]
      unfold listedCount
      rw [hempty]
      rfl
    · rw [hcount]
      split
      · next hd => exact hroom hd
      · exact (h.lanes.counted d) ▸ h.lanes.limited d
    · intro e he hstate
      rw [htable] at he
      by_cases hlane : (e.ident.src.port, e.ident.src.lane) = (p, l)
      · obtain ⟨hp, hl⟩ := Prod.mk.inj hlane
        rw [hp, hl]
        unfold laneDown
        rw [hrecord]
      · have hflag := h.flags e he hstate
        unfold laneDown at hflag ⊢
        rwa [hothers _ _ hlane]
  · rw [hrepeat hdown]
    exact .refl s

/-! ### Sustain up and PANIC (R72, R73, R78) -/

/-- R72: the SUSTAINED entries of the lane become RELEASING with its flag up, and its list is undone. -/
theorem sustainUp_kept (p : Port) (l : Lane) (s : State) : NotesKept s (sustainUp p l s) := by
  cases hdown : s.held.sustain[p][l].down
  · rw [show sustainUp p l s = s from if_neg (by unfold laneDown; rw [hdown]; decide)]
    exact .refl s
  · obtain ⟨hletGo, -⟩ := sustainUp_letGo hdown
    have hchange : (sustainUp p l s).change = s.change := sustainUp_change ..
    generalize sustainUp p l s = t at hletGo hchange
    have hothers (m : Port × Lane) (hm : m ≠ (p, l)) : t.held.sustain[m.1][m.2] = s.held.sustain[m.1][m.2] :=
      hletGo.others m.1 m.2 hm
    have hrecord := hletGo.record
    refine ⟨fun h => ⟨?_, lanesSound_of_others h.lanes (p, l) hothers ?_ ?_ (fun d => ?_) fun d => ?_, ?_,
      hchange ▸ h.copies⟩⟩
    · refine heldInv_makeReleasing (which := sustainedOn p l) (value := fun e => e.release) h.table (fun e he => ?_)
        hletGo.table hletGo.releaseOrder
      rw [(of_decide_eq_true he).1]
      decide
    · show WellListed t.held.sustain[p][l]
      rw [hrecord]
      exact ⟨List.nodup_nil, fun _ => rfl⟩
    · show t.held.sustain[p][l].forwarded.length ≤ 16
      rw [hrecord]
      exact Nat.zero_le 16
    · show holdCount d t + listedCount d s.held.sustain[p][l] = holdCount d s + listedCount d t.held.sustain[p][l]
      have hlisted : listedCount d s.held.sustain[p][l] = s.held.sustain[p][l].forwarded.count d := by
        rw [(h.lanes.listed (p, l)).1.count]
        simp [listedCount]
      have hcounted : listedCount d s.held.sustain[p][l] ≤ holdCount d s := by
        have hmem : ((p, l) : Port × Lane) ∈ sourceLanes := mem_sourceLanes (p, l)
        rw [h.lanes.counted, listingLanes]
        generalize sourceLanes = ls at hmem
        rw [countP_eq_add_erase hmem]
        exact Nat.le_add_left ..
      have hnone : listedCount d t.held.sustain[p][l] = 0 := by
        rw [hrecord]
        rfl
      rw [hletGo.holds, ← hlisted, hnone]
      omega
    · rw [hletGo.holds, h.lanes.counted]
      exact (Nat.sub_le ..).trans (h.lanes.limited d)
    · intro x hx hstate
      rw [hletGo.table] at hx
      obtain ⟨e, he, rfl⟩ := List.mem_map.mp hx
      split at hstate
      · cases hstate
      · next hnot =>
        rw [if_neg hnot]
        have hlane : (e.ident.src.port, e.ident.src.lane) ≠ (p, l) := fun hlane =>
          hnot (decide_eq_true ⟨hstate, (Prod.mk.inj hlane).1, (Prod.mk.inj hlane).2⟩)
        have hflag := h.flags e he hstate
        unfold laneDown at hflag ⊢
        rwa [hletGo.others _ _ hlane]

theorem doPanic_kept (s : State) : NotesKept s (doPanic s) := by
  unfold doPanic
  generalize sourceLanes = lanes
  exact (releaseAll_kept s).trans (foldl_notesKept (fun s pl => sustainUp_kept pl.1 pl.2 s) lanes _)

/-! ### A flush (R77) -/

/-- R77: a sustain record once a port is flushed. -/
theorem flushHeld_record (p : Port) (s : State) (q : Port) (l : Lane) :
    (flushHeld p s).held.sustain[q][l]
      = { s.held.sustain[q][l] with forwarded := s.held.sustain[q][l].forwarded.filter fun d => d.port != p } := by
  simp [flushHeld]

/-- R77: the hold counts once a port is flushed. -/
theorem holdCount_flushHeld (p : Port) (d : DestLane) (s : State) :
    holdCount d (flushHeld p s) = if d.port = p then 0 else holdCount d s := by
  obtain ⟨q, l⟩ := d
  show (upd s.held.holds p fun lanes => lanes.map fun _ => 0)[q][l] = _
  rw [upd_getElem]
  by_cases hq : q = p
  · rw [if_pos hq, if_pos hq]
    simp
  · rw [if_neg hq, if_neg hq]
    rfl

/-- R77: no lane lists a destination of a flushed port, and those of others stand. -/
theorem listingLanes_flushHeld (p : Port) (d : DestLane) (s : State) :
    listingLanes d (flushHeld p s) = if d.port = p then 0 else listingLanes d s := by
  unfold listingLanes
  generalize sourceLanes = ls
  have hcontains (pl : Port × Lane) : (flushHeld p s).held.sustain[pl.1][pl.2].forwarded.contains d
      = (s.held.sustain[pl.1][pl.2].forwarded.contains d && d.port != p) := by
    rw [flushHeld_record, Bool.eq_iff_iff]
    simp
  split
  · next hport => exact List.countP_eq_zero.mpr fun pl _ => by rw [hcontains, hport]; simp
  · next hport => exact List.countP_congr fun pl _ => by rw [hcontains, bne_iff_ne.mpr hport, Bool.and_true]

theorem flushHeld_kept (p : Port) (s : State) : NotesKept s (flushHeld p s) := by
  refine ⟨fun h => ⟨heldInv_filter (fun i => i.dst.port != p) h.table rfl rfl, ⟨fun d => ?_, fun d => ?_, fun pl => ?_,
    fun pl => ?_⟩, fun e he hstate => ?_, h.copies⟩⟩
  · rw [holdCount_flushHeld, listingLanes_flushHeld, h.lanes.counted]
  · rw [listingLanes_flushHeld]
    split
    · exact Nat.zero_le 16
    · exact h.lanes.limited d
  · obtain ⟨hnodup, hup⟩ := h.lanes.listed pl
    rw [flushHeld_record]
    exact ⟨hnodup.filter _, fun hflag => by rw [hup hflag]; rfl⟩
  · rw [flushHeld_record]
    exact (List.length_filter_le ..).trans (h.lanes.short pl)
  · have hflag := h.flags e (List.mem_of_mem_filter he) hstate
    unfold laneDown at hflag ⊢
    rwa [flushHeld_record]

end Sys2Proof.Machine
end

section
/-! SUPPORT. The held-note table and the sustain records (R61, R69) along every operation of the other blocks and every
command: most leave the held part alone, and no fetch, switch or adjustment gives a scene copy more than 16 zones. -/

namespace Sys2Proof.Machine

/-! ### The zone engine (spec 02) -/

theorem playLayer_kept (src : SourceTriple) (s10 : Nat) (s : State) (y : Zone × Dest) :
    NotesKept s (playLayer src s10 s y) := .ite (.refl s) (offerLayer_kept ..)

theorem zoneStrike_kept (p : Port) (l : Lane) (k : Key) (a : StrikeAmount) (s : State) :
    NotesKept s (zoneStrike p l k a s) := foldl_notesKept (playLayer_kept _ _) ..

theorem zoneRelease_kept (p : Port) (l : Lane) (k : Key) (a : ReleaseAmount) (s : State) :
    NotesKept s (zoneRelease p l k a s) := keyUp_kept ..

theorem playFrameControl_kept (p : Port) (l : Lane) (n : Byte) (v : Half) (s : State) :
    NotesKept s (playFrameControl p l n v s) :=
  .ite (.ite (sustainDown_kept ..) (sustainUp_kept ..)) (.of_same (by simp) (by simp))

/-! ### Scene copies (R108, R110, R121) -/

/-- R110: a scene block is read with at most 16 zones. -/
theorem sceneAt_zones_length (rd : Nat → Byte) (scene : Nat) : (sceneAt rd scene).1.zones.length ≤ 16 := by
  have hcount (n : Nat) : (repaired (within? 0 16 n) 16).1 ≤ 16 := by
    unfold repaired
    split
    · next h => exact within?_le h
    · exact Nat.le_refl 16
  simpa [sceneAt] using hcount _

/-- R121: a fetch delivers a copy of at most 16 zones. -/
theorem runFetch_fits {f : Fetch} {song : Bool} {s : State} {c : SceneCopy} (h : (runFetch f song s).1 = .copy c) :
    c.Fits := by
  unfold runFetch at h
  split at h
  · cases h
  · cases h
  · cases h
  · dsimp only at h
    split at h
    · cases h
    · obtain rfl := FetchResult.copy.inj h
      exact sceneAt_zones_length ..

/-- R137: the copy made active at power-up or restart has at most 16 zones. -/
theorem bootScene_fits (st : Store) (setList : List SongPage) : (bootScene st setList).active.Fits := by
  have hempty : emptyScene.Fits := Nat.zero_le 16
  unfold bootScene
  split
  · exact hempty
  · dsimp only
    split
    · exact hempty
    · exact hempty
    · exact hempty
    · exact sceneAt_zones_length ..

/-- No copy staged, and one that fits active. -/
theorem CopiesFit.of_unstaged {c : Change} (hactive : c.active.Fits) (hstaged : c.staged = none) : CopiesFit c :=
  ⟨hactive, fun x hx => by rw [hstaged] at hx; cases hx⟩

/-! ### The change controller (spec 06) -/

theorem endRequest_copies (o : ChangeOutcome) (x : Origin) {s : State} (h : CopiesFit s.change) :
    CopiesFit (endRequest o x s).change := by
  rw [endRequest_change]
  exact .of_unstaged h.1 rfl

theorem endRequest_kept (o : ChangeOutcome) (x : Origin) (s : State) : NotesKept s (endRequest o x s) :=
  .of_same (by simp) (endRequest_copies o x)

theorem takeAll_copies (rs : List ChangeRequest) {s : State} (h : CopiesFit s.change) :
    CopiesFit (takeAll rs s).change := by
  induction rs generalizing s with
  | nil => exact h
  | cons r rs ih =>
    have hended (o : ChangeOutcome) : CopiesFit (takeAll rs (endRequest o r.origin s)).change :=
      ih (endRequest_copies o r.origin h)
    unfold takeAll
    dsimp only
    repeat' split
    · exact hended _
    · exact hended _
    · exact hended _
    · exact .of_unstaged h.1 rfl

theorem takeAll_kept (rs : List ChangeRequest) (s : State) : NotesKept s (takeAll rs s) :=
  .of_same (by simp) (takeAll_copies rs)

theorem takeNext_kept (s : State) : NotesKept s (takeNext s) := takeAll_kept ..

theorem offerStep_kept (k : StepKind) (n : Nat) (x : Origin) (s : State) : NotesKept s (offerStep k n x s) :=
  .ite (.ite (.after (takeNext_kept _) (.of_frame (by rfl))) (.of_frame (by rfl))) (.of_frame (by rfl))

theorem abandonChange_kept (s : State) : NotesKept s (abandonChange s) := by
  refine .of_same (by simp) fun h => .of_unstaged ?_ rfl
  show (abandonFetch s).change.active.Fits
  rw [abandonFetch_change]
  exact h.1

theorem offerGoto_kept (k : GotoKind) (n : Nat) (x : Origin) (s : State) : NotesKept s (offerGoto k n x s) := by
  unfold offerGoto
  dsimp only
  split
  · exact takeAll_kept ..
  · exact .after (takeAll_kept ..) (abandonChange_kept s)
  · exact .after (takeAll_kept ..) (abandonChange_kept s)
  · exact .of_frame rfl

theorem placeBursts_kept (s : State) : NotesKept s (placeBursts s) := by
  obtain ⟨link, cursor, selected, hworked⟩ := placeBursts_worked s
  rw [hworked]
  exact .of_frame rfl

theorem endChange_kept (s : State) : NotesKept s (endChange s) :=
  .ite (.after (takeNext_kept _) (.of_frame (by rfl))) (.refl s)

/-! ### The switch (R76, R125–R127) -/

theorem applyLeave_kept (leave : LeavePolicy) (s : State) : NotesKept s (applyLeave leave s) := by
  cases leave with
  | cut => exact releaseAll_kept s
  | carry => exact .refl s

theorem handedOver_kept {copy : SceneCopy} {s : State} (hstaged : s.change.staged = some copy) (tg : Target) :
    NotesKept s (handedOver copy tg s) := by
  refine .after (.of_same (s := applyLeave s.change.active.block.leave s) ?_ ?_) (applyLeave_kept ..)
  · rw [applyLeave_eq]
    rfl
  · rw [applyLeave_eq]
    exact fun h => .of_unstaged (h.2 copy hstaged) rfl

theorem switchMade_kept {m : SwitchMoment} {copy : SceneCopy} {tg : Target} {s : State}
    (hstaged : s.change.staged = some copy) : NotesKept s (switchMade m copy tg s) := by
  have hreset : NotesKept s (if tg.song then songReset m (handedOver copy tg s) else handedOver copy tg s) :=
    .ite (.after (.of_same (by simp) (by simp)) (handedOver_kept hstaged tg)) (handedOver_kept hstaged tg)
  exact .ite (.after (.of_same (by simp) (by simp)) hreset) hreset

theorem doSwitch_kept (m : SwitchMoment) (s : State) : NotesKept s (doSwitch m s) := by
  cases hstaged : s.change.staged with
  | none => simp [doSwitch, hstaged, NotesKept.refl]
  | some copy =>
    cases htarget : s.change.target with
    | none => simp [doSwitch, hstaged, htarget, NotesKept.refl]
    | some tg =>
      rw [doSwitch_eq hstaged htarget]
      exact .after (endChange_kept _) (.after (placeBursts_kept _) (switchMade_kept hstaged))

theorem doFetchEnd_kept (m : SwitchMoment) (s : State) : NotesKept s (doFetchEnd m s) := by
  unfold doFetchEnd
  split
  · next f tg _ _ =>
    refine .ite ?_ (.refl s)
    dsimp only
    split
    · exact .after (takeNext_kept _) (.after (endRequest_kept ..) (.of_frame (by rfl)))
    · next copy hcopy =>
      have hfilled : NotesKept s (modifyChange (fun c => { c with staged := some copy, state := .waiting })
          (countRepairs (runFetch f tg.song s).2 (closeFetch s))) :=
        .of_same rfl fun h => ⟨h.1, fun x hx => Option.some.inj hx ▸ runFetch_fits hcopy⟩
      exact .ite (.after (doSwitch_kept ..) hfilled) hfilled
  · exact .refl s

/-! ### The clock (spec 05) -/

theorem giveStop_kept (s : State) : NotesKept s (giveStop s) := .ite (doSwitch_kept ..) (.refl s)

theorem doStop_kept (s : State) : NotesKept s (doStop s) :=
  .ite (.refl s) (.after (giveStop_kept _) (.of_same (by simp) (by simp)))

theorem doStart_kept (s : State) : NotesKept s (doStart s) := .of_same (by simp) (by simp)

theorem doClickToggle_kept (s : State) : NotesKept s (doClickToggle s) := .ite (doStart_kept s) (doStop_kept s)

theorem doTap_kept (m : Nat) (s : State) : NotesKept s (doTap m s) := by
  unfold doTap
  dsimp only
  split
  · exact .after (.of_frame (by rfl)) (.ite (.of_frame (by rfl)) (.of_frame (by rfl)))
  · exact .of_frame rfl

theorem doSubTick_kept (s : State) : NotesKept s (doSubTick s) := .ite (.of_same (by simp) (by simp)) (.refl s)

theorem advancePosition_kept (s : State) : NotesKept s (advancePosition s) :=
  .ite (.of_same (by simp) (by simp)) (.of_frame (by rfl))

theorem placeBeatClicks_kept (s : State) : NotesKept s (placeBeatClicks s) := .of_same (by simp) (by simp)

theorem decideClicks_kept (s : State) : NotesKept s (decideClicks s) := .of_same (by simp) (by simp)

theorem doBoundary_kept (s : State) : NotesKept s (doBoundary s) := by
  unfold doBoundary
  refine .ite ?_ (.refl s)
  dsimp only
  have hticked (f : Tempo → Tempo) (m : Bool) : NotesKept s (offerTick (modifyTempo f
      (samplePedals (if m then doSwitch .boundary (advancePosition s) else advancePosition s)))) :=
    .after (.of_same (s := if m then doSwitch .boundary (advancePosition s) else advancePosition s)
        (by simp) (by simp))
      (.ite (.after (doSwitch_kept ..) (advancePosition_kept s)) (advancePosition_kept s))
  exact .ite (.after (placeBeatClicks_kept _) (hticked ..)) (.after (decideClicks_kept _) (hticked ..))

/-! ### The rig link (spec 01) -/

theorem playSelect_kept (p : Port) (b : Byte) (s : State) : NotesKept s (playSelect p b s) := by
  unfold playSelect
  refine .ite ?_ (.refl s)
  split
  · exact offerGoto_kept ..
  · exact .refl s

theorem clockAction_kept {a : Byte} {f : State → State} (h : clockAction? a = some f) (s : State) :
    NotesKept s (f s) := by
  unfold clockAction? at h
  split at h <;> cases h
  · exact doStart_kept s
  · exact doStop_kept s
  · exact .of_same (by simp) (by simp)

theorem playTransport_kept (p : Port) (a : Byte) (s : State) : NotesKept s (playTransport p a s) := by
  unfold playTransport
  refine .ite ?_ (.refl s)
  split
  · next f hf => exact clockAction_kept hf s
  · exact .refl s

theorem onLane_kept {f : Lane → State → State} (h : ∀ l s, NotesKept s (f l s)) (lane : Byte) (s : State) :
    NotesKept s (onLane lane f s) := by
  unfold onLane
  split
  · exact h ..
  · exact .refl s

theorem onKey_kept {f : Lane → Key → State → State} (h : ∀ l k s, NotesKept s (f l k s)) (lane key : Byte)
    (s : State) : NotesKept s (onKey lane key f s) := by
  unfold onKey
  split
  · exact h ..
  · exact .refl s

theorem playFrame_kept (p : Port) (f : Frame) (s : State) : NotesKept s (playFrame p f s) := by
  cases f with
  | strikeLong lane key v => exact onKey_kept (fun l k s => zoneStrike_kept p l k (.long v) s) lane key s
  | strikeShort lane key v => exact onKey_kept (fun l k s => zoneStrike_kept p l k (.short v) s) lane key s
  | releaseLong lane key v => exact onKey_kept (fun l k s => zoneRelease_kept p l k (.long v) s) lane key s
  | releaseShort lane key v => exact onKey_kept (fun l k s => zoneRelease_kept p l k (.short v) s) lane key s
  | control lane number v => exact onLane_kept (fun l s => playFrameControl_kept p l number v s) lane s
  | soundSelect lane bank sound => exact playSelect_kept p sound s
  | transport action bar beat => exact playTransport_kept p action s
  | beatTick | click | portSilence | request | reply => exact .refl s

theorem thruFrame_kept (p : Port) (f : Frame) (s : State) : NotesKept s (thruFrame p f s) := by
  unfold thruFrame
  split
  · exact .of_same (by simp) (by simp)
  · exact .refl s

theorem passOn_kept (p : Port) (f : Frame) (s : State) : NotesKept s (passOn p f s) := .of_same (by simp) (by simp)

theorem passRequest_kept (p : Port) (w : Waiting) (s : State) : NotesKept s (passRequest p w s) :=
  .ite (.refl s) (passOn_kept ..)

theorem placeRequest_kept (p : Port) (w : Waiting) (s : State) : NotesKept s (placeRequest p w s) := by
  unfold placeRequest
  split <;> exact .of_frame rfl

theorem classifyRequest_kept (p : Port) (w : Waiting) (s : State) : NotesKept s (classifyRequest p w s) :=
  .after (passRequest_kept ..) (.ite (placeRequest_kept ..) (.refl s))

theorem arrive_kept (p : Port) (f : Frame) (s : State) : NotesKept s (arrive p f s) := by
  unfold arrive
  split
  · exact classifyRequest_kept ..
  · exact passOn_kept ..
  · split
    · exact playFrame_kept ..
    · exact thruFrame_kept ..
    · exact .refl s

theorem complete_kept (p : Port) (bytes : List Byte) (failed : Bool) (s : State) :
    NotesKept s (complete p bytes failed s) := by
  unfold complete
  repeat' split
  · exact .of_frame rfl
  · exact .after (arrive_kept ..) (.of_frame (by rfl))
  · exact .of_frame rfl

theorem receive_kept (p : Port) (c : Byte) (stop : Bool) (s : State) : NotesKept s (receive p c stop s) := by
  unfold receive
  split
  · exact .refl s
  · exact .ite (.of_frame (by rfl)) (.of_frame (by rfl))
  · exact .ite (.of_frame (by rfl)) (complete_kept ..)

theorem resync_kept (p : Port) (s : State) : NotesKept s (resync p s) := by
  unfold resync
  split <;> exact .of_frame rfl

theorem cutShort_kept (p : Port) (s : State) : NotesKept s (cutShort p s) := by
  unfold cutShort
  split <;> exact .of_frame rfl

theorem startFrame_kept (p : Port) (s : State) : NotesKept s (startFrame p s) := by
  unfold startFrame
  refine .ite ?_ (.refl s)
  split
  · exact .refl s
  · exact .ite (.after (endChange_kept _) (.after (placeBursts_kept _) (.of_frame (by rfl)))) (.of_frame (by rfl))

theorem endFrame_kept (p : Port) (s : State) : NotesKept s (endFrame p s) := by
  unfold endFrame
  split
  · exact .refl s
  · exact .ite (.of_frame (by rfl)) (.of_frame (by rfl))

theorem flushChange_kept (p : Port) (s : State) : NotesKept s (flushChange p s) :=
  .ite (.after (endChange_kept _) (.after (placeBursts_kept _) (.ite (.of_frame (by rfl)) (.of_frame (by rfl)))))
    (.refl s)

theorem doFlush_kept (p : Port) (s : State) : NotesKept s (doFlush p s) :=
  .after (flushChange_kept ..) (.after (.of_frame (by rfl)) (.after (flushHeld_kept ..) (.of_frame (by rfl))))

/-! ### Pedals (spec 07) -/

theorem holdFunction_kept (r : PedalRecord) (s : State) : NotesKept s (holdFunction r s) := by
  unfold holdFunction
  split
  · exact sustainDown_kept ..
  · exact .refl s

theorem letGo_kept (r : PedalRecord) (s : State) : NotesKept s (letGo r s) := by
  unfold letGo
  split
  · exact sustainUp_kept ..
  · exact .refl s

theorem pressPedal_kept (r : PedalRecord) (s : State) : NotesKept s (pressPedal r s) := by
  unfold pressPedal
  split
  · exact offerStep_kept ..
  · exact offerStep_kept ..
  · exact offerStep_kept ..
  · exact offerStep_kept ..
  · exact doPanic_kept s
  · exact doTap_kept ..
  · exact doClickToggle_kept s
  · exact .of_frame rfl
  · exact holdFunction_kept ..
  · exact holdFunction_kept ..
  · exact holdFunction_kept ..
  · exact .refl s

theorem settledEdge_kept (r : PedalRecord) (d d' : Debouncer) (s : State) : NotesKept s (settledEdge r d d' s) :=
  .ite (.ite (holdFunction_kept r s) (.refl s))
    (.ite (pressPedal_kept r s) (.ite (letGo_kept r s) (.refl s)))

theorem settleIfDue_kept (i : Pedal) (s : State) : NotesKept s (settleIfDue i s) :=
  .ite (.after (settledEdge_kept ..) (.of_frame (by rfl))) (.refl s)

theorem reassignPedal_kept (i : Pedal) (r : PedalRecord) (s : State) : NotesKept s (reassignPedal i r s) := by
  have hset (old : PedalRecord) (b : Bool) : NotesKept s (setPedalRecord i r (if b then letGo old s else s)) :=
    .after (.of_frame (by rfl)) (.ite (letGo_kept ..) (.refl s))
  exact .ite (.after (holdFunction_kept ..) (hset ..)) (hset ..)

theorem writePedal_kept (i : Pedal) (r : PedalRecord) (s : State) : NotesKept s (writePedal i r s) := by
  have hwritten (b : Bool) : NotesKept s (if b then reassignPedal i r s else setPedalRecord i r s) :=
    .ite (reassignPedal_kept ..) (.of_frame (by rfl))
  exact .ite (.after (settleIfDue_kept ..) (hwritten _)) (hwritten _)

/-! ### Requests over settings, curves and the set list (spec 09) -/

theorem writeRecord_kept {α : Type} {of? : List Nat → Option α} {fieldsOf : α → List Nat} {write : α → State → State}
    {old : α} {start : Byte} {values : List Half} {s : State} (h : ∀ new, NotesKept s (write new s)) :
    NotesKept s (writeRecord of? fieldsOf write old start values s).1 := by
  unfold writeRecord
  split
  · exact .refl s
  · split
    · exact .refl s
    · exact h _

theorem opWriteSetting_kept (item index start : Byte) (values : List Half) (s : State) :
    NotesKept s (opWriteSetting item index start values s).1 := by
  unfold opWriteSetting
  split
  · unfold opWriteInbound
    split
    · exact .refl s
    · exact writeRecord_kept fun _ => .of_frame (by rfl)
  · unfold opWriteOutbound
    split
    · exact .refl s
    · exact writeRecord_kept fun _ => .ite (.of_frame (by rfl)) (.of_frame (by rfl))
  · unfold opWritePedal
    split
    · exact .refl s
    · exact writeRecord_kept fun _ => writePedal_kept ..
  · unfold opWriteFeed
    split
    · exact .refl s
    · exact writeRecord_kept fun _ => .of_frame (by rfl)
  · unfold opWriteSlot
    split
    · exact .refl s
    · exact writeRecord_kept fun _ => .of_frame (by rfl)
  · unfold opWriteUnit
    split
    · exact writeRecord_kept fun _ => .of_frame (by rfl)
    · exact .refl s
  · unfold opWriteSource
    split
    · exact writeRecord_kept fun _ => .of_frame (by rfl)
    · exact .refl s
  · exact .refl s

theorem opReadStatus_kept (c : Option Byte) (s : State) : NotesKept s (opReadStatus c s).1 := by
  unfold opReadStatus
  dsimp only
  split <;> exact .of_frame rfl

theorem opReadCounters_kept (sel c : Byte) (s : State) : NotesKept s (opReadCounters sel c s).1 := by
  unfold opReadCounters
  split
  · exact .ite (.of_frame (by rfl)) (.refl s)
  · exact .refl s

theorem opReadSetting_kept (item index start count : Byte) (s : State) :
    NotesKept s (opReadSetting item index start count s).1 := by
  unfold opReadSetting
  split
  · exact .refl s
  · dsimp only
    split <;> exact .refl s

theorem opReadCurve_kept (part start count : Byte) (s : State) : NotesKept s (opReadCurve part start count s).1 := by
  unfold opReadCurve
  split <;> exact .refl s

theorem opWriteCurve_kept (part start : Byte) (points : List Half) (s : State) :
    NotesKept s (opWriteCurve part start points s).1 := by
  unfold opWriteCurve
  repeat' split
  all_goals exact .of_frame rfl

theorem opReadSetList_kept (start count : Byte) (s : State) : NotesKept s (opReadSetList start count s).1 := by
  unfold opReadSetList
  split <;> exact .refl s

/-- R114: the empty scene has no zones. -/
theorem emptySetList_kept (s : State) : NotesKept s (emptySetList s) :=
  .after (.of_same (s := applyLeave s.change.active.block.leave s) rfl fun _ => .of_unstaged (Nat.zero_le 16) rfl)
    (applyLeave_kept s.change.active.block.leave s)

theorem opWriteSetList_kept (pages : List (BitVec 7)) (s : State) : NotesKept s (opWriteSetList pages s).1 := by
  unfold opWriteSetList replaceSetList
  repeat' split
  · exact .refl s
  · exact .refl s
  · exact .refl s
  · exact .after (emptySetList_kept _) (.of_frame (by rfl))
  · exact .after (offerGoto_kept ..) (.of_frame (by rfl))

/-! ### Requests over the set store (spec 08) -/

theorem opBufferWrite_kept (offset : Half) (bytes : List Byte) (s : State) :
    NotesKept s (opBufferWrite offset bytes s).1 := by
  unfold opBufferWrite
  repeat' split
  all_goals exact .of_frame rfl

theorem opBufferRead_kept (offset : Half) (count : Byte) (s : State) :
    NotesKept s (opBufferRead offset count s).1 := by
  unfold opBufferRead
  split <;> exact .refl s

theorem opPageRead_kept (page : Byte) (offset : Half) (count : Byte) (s : State) :
    NotesKept s (opPageRead page offset count s).1 := by
  unfold opPageRead
  repeat' split
  all_goals exact .refl s

theorem opBufferLoad_kept (page : Byte) (s : State) : NotesKept s (opBufferLoad page s).1 := by
  unfold opBufferLoad
  repeat' split
  all_goals exact .of_frame rfl

theorem opCommit_kept (page : Byte) (s : State) : NotesKept s (opCommit page s).1 := by
  unfold opCommit
  repeat' split
  all_goals exact .of_frame rfl

theorem opClear_kept (page : Byte) (s : State) : NotesKept s (opClear page s).1 := by
  unfold opClear
  repeat' split
  all_goals exact .of_frame rfl

theorem storeBuilt_kept (p : Page) (bytes : List Byte) (s : State) : NotesKept s (storeBuilt p bytes s).1 := by
  unfold storeBuilt
  repeat' split
  all_goals exact .of_frame rfl

theorem opKeep_kept (s : State) : NotesKept s (opKeep s).1 := by
  unfold opKeep
  repeat' split
  all_goals exact .of_frame rfl

theorem opProtectOne_kept (on : Bool) (page : Byte) (s : State) : NotesKept s (opProtectOne on page s).1 := by
  unfold opProtectOne
  repeat' split
  all_goals exact .of_frame rfl

theorem opProtectAll_kept (on : Bool) (s : State) : NotesKept s (opProtectAll on s).1 := by
  unfold opProtectAll
  repeat' split
  all_goals exact .of_frame rfl

theorem opLock_kept (s : State) : NotesKept s (opLock s).1 := by
  unfold opLock
  split <;> exact .of_frame rfl

theorem opUnlock_kept (s : State) : NotesKept s (opUnlock s).1 := by
  unfold opUnlock
  repeat' split
  all_goals exact .of_frame rfl

/-! ### The performance requests (spec 09, 9.4) -/

theorem opChange_kept (kind number : Byte) (s : State) : NotesKept s (opChange kind number s).1 := by
  unfold opChange
  split
  · exact offerStep_kept ..
  · exact offerStep_kept ..
  · exact offerStep_kept ..
  · exact offerStep_kept ..
  · exact offerGoto_kept ..
  · exact offerGoto_kept ..
  · exact .refl s

/-- R131: a zone item changes a zone of the active copy in its place. -/
theorem adjustZone_kept (pos : Byte) (inRange holds : Zone → Bool) (set : Zone → Zone) (s : State) :
    NotesKept s (adjustZone pos inRange holds set s).1 := by
  unfold adjustZone
  repeat' split
  · exact .refl s
  · exact .refl s
  · exact .refl s
  · refine .of_same rfl fun h => ⟨?_, h.2⟩
    show (s.change.active.block.zones.modify _ set).length ≤ 16
    rw [List.length_modify]
    exact h.1

theorem opAdjust_kept (item target : Byte) (v : Half) (s : State) : NotesKept s (opAdjust item target v s).1 := by
  unfold opAdjust
  split
  · exact adjustZone_kept ..
  · exact adjustZone_kept ..
  · exact adjustZone_kept ..
  · exact adjustZone_kept ..
  · unfold opAdjustMuteSet
    repeat' split
    all_goals exact .of_frame rfl
  · unfold opAdjustOverride
    repeat' split
    all_goals exact .of_frame rfl
  · unfold opAdjustTempo
    dsimp only
    repeat' split
    all_goals exact .of_frame rfl
  · exact .refl s

theorem opClick_kept (action : Byte) (s : State) : NotesKept s (opClick action s).1 := by
  unfold opClick opClickStart opClickStop opClickContinue
  repeat' split
  · exact doStart_kept s
  · exact .refl s
  · exact .refl s
  · exact doStop_kept s
  · exact .of_same (by simp) (by simp)
  · exact .refl s
  · exact .refl s

theorem opSelectTempo_kept (slot : Byte) (s : State) : NotesKept s (opSelectTempo slot s).1 := by
  unfold opSelectTempo
  repeat' split
  all_goals exact .of_frame rfl

theorem opMute_kept (port state : Byte) (s : State) : NotesKept s (opMute port state s).1 := by
  unfold opMute
  repeat' split
  all_goals exact .of_frame rfl

theorem opFlush_kept (port : Byte) (s : State) : NotesKept s (opFlush port s).1 := by
  unfold opFlush
  split
  · exact doFlush_kept ..
  · exact .refl s

theorem opRestart_kept (s : State) : NotesKept s (opRestart s).1 := by
  unfold opRestart
  split <;> exact .of_frame rfl

theorem opPanic_kept (s : State) : NotesKept s (opPanic s).1 := by simpa only [opPanic] using doPanic_kept s

theorem perform_kept (r : Request) (s : State) : NotesKept s (perform r s).1 := by
  cases r with
  | identify | readProtection => exact .refl s
  | readStatus => exact opReadStatus_kept ..
  | readCounters => exact opReadCounters_kept ..
  | readSetting => exact opReadSetting_kept ..
  | writeSetting => exact opWriteSetting_kept ..
  | storeSettings | storeCurves => exact storeBuilt_kept ..
  | readCurve => exact opReadCurve_kept ..
  | writeCurve => exact opWriteCurve_kept ..
  | readSetList => exact opReadSetList_kept ..
  | writeSetList => exact opWriteSetList_kept ..
  | bufferWrite => exact opBufferWrite_kept ..
  | bufferRead => exact opBufferRead_kept ..
  | bufferLoad => exact opBufferLoad_kept ..
  | pageRead => exact opPageRead_kept ..
  | commit => exact opCommit_kept ..
  | clear => exact opClear_kept ..
  | protect | unprotect => exact opProtectOne_kept ..
  | protectAll | unprotectAll => exact opProtectAll_kept ..
  | lock => exact opLock_kept s
  | unlock => exact opUnlock_kept s
  | change => exact opChange_kept ..
  | adjust => exact opAdjust_kept ..
  | keepAdjustments => exact opKeep_kept s
  | click => exact opClick_kept ..
  | selectTempo => exact opSelectTempo_kept ..
  | panic => exact opPanic_kept s
  | mute => exact opMute_kept ..
  | flush => exact opFlush_kept ..
  | restart => exact opRestart_kept s

/-- R176: a request in bytes is a request of the catalogue or changes nothing. -/
theorem performBytes_kept (code : Byte) (params : List Byte) (s : State) :
    NotesKept s (performBytes code params s).1 := by
  unfold performBytes
  cases parseRequest code params with
  | none => exact .refl s
  | some r =>
    dsimp only
    unfold checkedForm
    split
    · exact perform_kept r s
    · exact .refl s

/-! ### The service unit (R16, R173, R174) -/

theorem takeRequest_kept {p : Port} {unit tag code : Byte} {op : State → State × Answer} {s : State}
    (hop : NotesKept s (op s).1) : NotesKept s (takeRequest p unit tag code op s) := by
  unfold takeRequest
  split
  · exact .after (.of_frame (by rfl)) hop
  · exact .of_frame rfl

theorem serveCode_kept {h : Head} {code : Byte} {params : List Byte} {op : State → State × Answer} {s : State}
    (hop : ∀ s, NotesKept s (op s).1) : NotesKept s (serveCode h code params op s) := by
  unfold serveCode
  dsimp only
  split
  · exact .after (takeRequest_kept (hop _)) (passRequest_kept ..)
  · exact classifyRequest_kept ..

theorem serviceTake_kept (s : State) : NotesKept s (serviceTake s) := by
  unfold serviceTake
  repeat' split
  · exact .refl s
  · exact .refl s
  · exact .after (takeRequest_kept (performBytes_kept ..)) (.of_frame (by rfl))
  · exact .refl s

/-! ### The ends of store operations (spec 08) -/

theorem redecideFetch_kept (s : State) : NotesKept s (redecideFetch s) := .of_same (by simp) (by simp)

theorem suspendOperation_kept (s : State) : NotesKept s (suspendOperation s) := by
  unfold suspendOperation
  repeat' split
  all_goals exact .of_frame rfl

theorem endLoad_kept (s : State) : NotesKept s (endLoad s) := by
  unfold endLoad
  split
  · exact .after (redecideFetch_kept _) (.ite (.of_frame (by rfl)) (.of_frame (by rfl)))
  · exact .refl s

theorem endKeepLoad_kept (s : State) : NotesKept s (endKeepLoad s) := by
  unfold endKeepLoad
  split
  · exact .after (redecideFetch_kept _) (.ite (.of_frame (by rfl)) (.of_frame (by rfl)))
  · exact .refl s

theorem finishCommit_kept (p : Page) (deviations : List Host.Cell) (s : State) :
    NotesKept s (finishCommit p deviations s) := .ite (.of_frame rfl) (.of_frame rfl)

theorem endCommit_notesKept (deviations : List Host.Cell) (s : State) : NotesKept s (endCommit deviations s) := by
  unfold endCommit
  split
  · exact finishCommit_kept ..
  · exact .after (.ite (.of_frame (by rfl)) (.refl _)) (finishCommit_kept ..)
  · exact .refl s

theorem endClear_kept (deviations : List Host.Cell) (s : State) : NotesKept s (endClear deviations s) := by
  unfold endClear
  split
  · exact .ite (.of_frame (by rfl)) (.of_frame (by rfl))
  · exact .refl s

/-! ### Power-up, restart and loss of power (spec 08, 8.6) -/

theorem reset_notesSound : NotesSound State.reset := by
  obtain ⟨-, -, htable, hsustain, -⟩ := invariantsAtReset
  exact (notesSound_iff _).mpr ⟨htable, hsustain⟩

/-- R80: no note is held and no flag down after a power-up or a restart. -/
theorem boot_notesSound (outs : Vector OutPort 8) (flags : Status) (s : State) : NotesSound (boot outs flags s) :=
  (NotesKept.of_same (s := State.reset) (t := boot outs flags s) rfl
    fun _ => .of_unstaged (bootScene_fits ..) rfl).sound reset_notesSound

theorem losePower_notesSound (torn : List Host.Cell) (s : State) : NotesSound (losePower torn s) :=
  (NotesKept.of_frame (s := State.reset) (t := losePower torn s) rfl).sound reset_notesSound

theorem makeRestart_kept (s : State) : NotesKept s (makeRestart s) := .ite ⟨fun _ => boot_notesSound ..⟩ (.refl s)

/-! ### Every command, and the step -/

theorem powered_kept {f : State → State} {s t : State} (hf : NotesKept s (f s)) (h : powered f s = .next t) :
    NotesKept s t := by
  unfold powered at h
  cases h
  exact .ite hf (.refl s)

/-- A command that carries its moment tells the part of it first. -/
theorem poweredAt_kept (m : Nat) {f : State → State} {s t : State} (hf : ∀ s, NotesKept s (f s))
    (h : powered (fun s => f (advanceTo m s)) s = .next t) : NotesKept s t :=
  powered_kept (f := fun s => f (advanceTo m s)) (.after (hf _) (.of_frame (by rfl))) h

/-- The request rows: each is its request in bytes. -/
theorem requestRow_kept {c : Instr} {x : Head × Byte × List Byte} (hc : requestOf c = some x) {s t : State}
    (h : exec c s = .next t) : NotesKept s t := by
  rw [exec_requestRow hc] at h
  exact poweredAt_kept (momentOf c) (fun _ => serveCode_kept (performBytes_kept _ _)) h

/-- R61, R69: every command keeps the held notes in order. -/
theorem exec_kept {c : Instr} {s t : State} (h : exec c s = .next t) : NotesKept s t := by
  cases c with
  | powerUp =>
    cases h
    exact ⟨fun _ => boot_notesSound ..⟩
  | lossOfPower torn => exact powered_kept ⟨fun _ => losePower_notesSound torn s⟩ h
  | restartMade m => exact poweredAt_kept m makeRestart_kept h
  | character => exact powered_kept (receive_kept ..) h
  | idleResync => exact powered_kept (resync_kept ..) h
  | frameCutShort => exact powered_kept (cutShort_kept ..) h
  | strike | release | control | sustainControl | soundSelect | transport | thruFrame | serviceRequest
  | serviceReply => exact powered_kept (arrive_kept ..) h
  | serviceTake m => exact poweredAt_kept m serviceTake_kept h
  | serviceTimeEnd => exact powered_kept (.of_frame (by rfl)) h
  | frameStart => exact powered_kept (startFrame_kept ..) h
  | frameEnd => exact powered_kept (endFrame_kept ..) h
  | pacingGapEnd | settleWindowEnd => exact powered_kept (.of_frame (by rfl)) h
  | releaseDrain => exact powered_kept (drainTimes_kept ..) h
  | fetchEnd => exact powered_kept (doFetchEnd_kept ..) h
  | burstPlace =>
    exact powered_kept (f := fun s => endChange (placeBursts s)) (.after (endChange_kept _) (placeBursts_kept s)) h
  | changeEnd => exact powered_kept (endChange_kept s) h
  | operationSuspended => exact powered_kept (suspendOperation_kept s) h
  | bufferLoadEnd => exact powered_kept (endLoad_kept s) h
  | keepLoadEnd => exact powered_kept (endKeepLoad_kept s) h
  | commitEnd deviations => exact powered_kept (endCommit_notesKept deviations s) h
  | clearEnd deviations => exact powered_kept (endClear_kept deviations s) h
  | subTick => exact powered_kept (doSubTick_kept s) h
  | beatBoundary => exact powered_kept (doBoundary_kept s) h
  | pedalContactChange | showlockContactChange =>
    cases h
    exact .of_frame rfl
  | pedalSettled i m => exact poweredAt_kept m (settleIfDue_kept i) h
  | showlockSettled m =>
    have hsettled (s : State) : NotesKept s (showLockSettle s) := .ite (.of_frame (by rfl)) (.refl s)
    exact poweredAt_kept m hsettled h
  | readStatus head clear => cases clear <;> exact requestRow_kept rfl h
  | changeStep head kind n => cases kind <;> exact requestRow_kept rfl h
  | changeGoto head kind n => cases kind <;> exact requestRow_kept rfl h
  | _ => exact requestRow_kept rfl h

end Sys2Proof.Machine

namespace Sys2Proof
open Machine

/-- Settles O57: every command keeps the held notes in order (`exec_kept`), and a step carries out one command on the
part with the queue's rest, or idles. -/
theorem heldNotesKept : Obligations.HeldNotesKept := by
  intro s t htable hsustain hstep
  have hs : NotesSound s := (notesSound_iff s).mpr ⟨htable, hsustain⟩
  refine (notesSound_iff t).mp ?_
  cases hpending : s.pending with
  | nil =>
    rw [step_of_pending_nil hpending] at hstep
    cases hstep
    exact hs
  | cons c rest =>
    rw [step_of_pending_cons hpending] at hstep
    exact ((NotesKept.of_frame rfl : NotesKept s (s.setPending rest)).trans (exec_kept hstep)).sound hs

end Sys2Proof
end
